-- ==== Sys2Proof/Word.lean ====
section
/-! DEFINITION. The byte, and the two nat-to-bit conversions everything else uses. -/

namespace Sys2Proof

/-- One byte of a packet, record, section or region. -/
abbrev Byte := BitVec 8

/-- A register of the bootstrap window or of BAR0 (R29, R34). -/
abbrev Word32 := BitVec 32

/-- Bit `k` of a mask held as a number. -/
abbrev bit (n k : Nat) : Bool := n.testBit k

/-- A binary64 value as its word (R182). A structure, so that no bit-vector operation is taken for arithmetic. -/
structure F64 where
  bits : BitVec 64
deriving DecidableEq, Repr, Inhabited

/-- +0. -/
def F64.zero : F64 := ⟨0⟩

end Sys2Proof
end

