-- ==== Sys2Proof/Records.lean ====
section
/-! DEFINITION. The records that commands carry (operands of `Instr`), and the parts of the state that a replication
image carries to the partner (R350): plans, cars, trunks, channels, the allocator's and the dispatcher's books, doors. -/

namespace Sys2Proof

/-- Header of a command packet as R41's table lays it out, with the ring pair it arrived on, its OPC taken away (the
row names it) and its LEN (the payload bytes give it). `t` is the instant of arrival. -/
structure Hdr where
  pair   : Nat
  flg    : Nat
  dom    : Nat
  tag    : Nat
  seq    : Nat
  tgt    : Nat
  launch : Nat
  t      : Nat
deriving DecidableEq, Repr

/-- A packet as delivered on a transport, before framing and authentication (R46, R471): header fields, ciphertext,
GCM tag and the number of bytes delivered. -/
structure Packet where
  opc    : Nat
  flg    : Nat
  dom    : Nat
  tag    : Nat
  len    : Nat
  seq    : Nat
  tgt    : Nat
  launch : Nat
  ct     : List Byte
  mac    : BitVec 128
  size   : Nat
deriving DecidableEq, Repr

/-- The three transports of R33. -/
inductive Transport where
  | pcie | ethernet | spi
deriving DecidableEq, Repr

/-- A HELLO message (R379). Keys and nonces are held as numbers. -/
structure Hello where
  pair   : Nat
  hsid   : Nat
  dom    : Nat
  nonce  : Nat
  ephKey : Nat
  kemKey : Nat
deriving DecidableEq, Repr

/-- The three position sources (file 04). -/
inductive PosSource where
  | tape | bemf | way
deriving DecidableEq, Repr

/-- A car report: position record (R99), BRK (R170), load record (R187), door record (R257), inspection byte (R412). -/
structure Report where
  elem    : Nat
  tbState : Nat
  tq      : Nat
  tpos    : Int
  tvpos   : Int
  ts      : Nat
  brk     : Nat
  loadKg  : Nat
  lq      : Nat
  doors   : List Nat
  insp    : Nat
deriving DecidableEq, Repr

/-- Hold message (R170). -/
structure HoldMsg where
  pstate : Nat
  hseq   : Nat
  issued : Nat
  action : Nat
  act    : Nat
deriving DecidableEq, Repr

/-- Permit record (R254). -/
structure PermitRec where
  pseq    : Nat
  permit  : Nat
  pflg    : Nat
  landing : Nat
  issued  : Nat
deriving DecidableEq, Repr

/-- Door request record (R258). -/
structure DoorReq where
  rseq  : Nat
  dreq  : Nat
  dflg  : Nat
  width : Nat
  dwell : Nat
  act   : Nat
deriving DecidableEq, Repr

/-- One feedback slot of a trunk frame (R150), with the outcome of its SCRC. -/
structure Slot where
  addr  : Nat
  mstat : Nat
  theta : Nat
  temp  : Int
  vdc   : Nat
  fdel  : Int
  fseqe : Nat
  crcOk : Bool
deriving DecidableEq, Repr

/-- A returned trunk frame: which port sent it, at which port it arrived, whether HCRC is valid, whether the receive
queue overflowed, the setpoint-section CRC, and its slots in hop order (R147-R151, R165). -/
structure TrunkRx where
  trunk    : Nat
  dirn     : Nat
  port     : Nat
  fseq     : Nat
  hcrcOk   : Bool
  setCrcOk : Bool
  overflow : Bool
  slots    : List Slot
deriving DecidableEq, Repr

/-- One module as enumeration or a walk finds it (R158, R159). `delta` is the interval of R158 step 3, in ns. -/
structure ModFound where
  addr   : Nat
  type   : Nat
  pver   : Nat
  serial : Nat
  delta  : Int
deriving DecidableEq, Repr

/-- What a trunk answered from port A and from port B, and the loop delay (R158). -/
structure TrunkWalk where
  trunk : Nat
  fromA : List ModFound
  fromB : List ModFound
  loop  : Nat
deriving DecidableEq, Repr

/-- A terminal call as it arrives (R221): on CAN by channel and identifier, on Ethernet by port and TERMID. -/
structure TermCall where
  kind   : Nat
  chan   : Nat
  id     : Nat
  treq   : Nat
  frm    : Nat
  dst    : Nat
  pax    : Nat
  cflags : Nat
deriving DecidableEq, Repr

/-- Regions of the SRAM (R26), as R27 tells them apart. -/
inductive SramRegion where
  | appCore | safety | points | journal | capture | can | rings | motion | dispatch | pairStage | ledger | reserved
deriving DecidableEq, Repr

/-- A received CAN frame (R310): identifier with bit 30 for the extended format, format flags, DLC, data, the capture
at the sample point of its start of frame, and whether the receive queue was full. -/
structure CanRx where
  id   : Nat
  ext  : Bool
  fd   : Bool
  brs  : Bool
  esi  : Bool
  rtr  : Bool
  dlc  : Nat
  data : List Byte
  sof  : Nat
  full : Bool
deriving DecidableEq, Repr

/-- A CAN frame error or bit error (R302, R317): LASTERR code, TEC and REC after it as the standard defines, and
whether it is the contest of R317's second case on the frame being sent. -/
structure CanErr where
  code    : Nat
  tec     : Nat
  recv    : Nat
  contest : Bool
deriving DecidableEq, Repr

/-- Balls and clock found at a reset release (R1, R68, R344). -/
structure Straps where
  roleA    : Bool
  roleB    : Bool
  pairUnit : Bool
  coarse   : Option Nat
deriving DecidableEq, Repr

/-- What stage 1 found (R364, R405): SRAM self-test, cell check, TRNG. -/
structure Stage1Result where
  bistOk : Bool
  cellOk : Bool
  trngOk : Bool
deriving DecidableEq, Repr

/-- What stage 2 found (R394, R405): MRAM errors, torn ledger tail, identity records. -/
structure Stage2Result where
  mramOk     : Bool
  ledgerTorn : Bool
  identityOk : Bool
  slotsOk    : List Bool
deriving DecidableEq, Repr

/-- A PTP Announce (R69-R71). -/
structure Announce where
  port     : Nat
  gmid     : Nat
  steps    : Nat
  utcOff   : Int
  ptpScale : Bool
  better   : Bool
deriving DecidableEq, Repr

/-- A REPLY or DONE that this unit, as initiator of a car-link (0xFE) or pair-link (0xFF) session, receives (R382). -/
structure PeerMsg where
  pair  : Nat
  car   : Nat
  isDone : Bool
  devid : Nat
  sigE  : Nat
  sigQ  : Nat
  mac   : Nat
deriving DecidableEq, Repr

end Sys2Proof

namespace Sys2Proof.Machine

/-! ## Tags and Milestones (files 02, 03) -/

/-- A tag in flight: the command it stands for, its launch edge (0 for immediate), its acceptance (R43, R54), and
whether it has launched. -/
structure TagRec where
  pair : Nat := 0
  tag  : Nat := 0
  opc  : Nat := 0
  flg  : Nat := 0
  dom  : Nat := 0
  seq  : Nat := 0
  tgt  : Nat := 0
  edge : Nat := 0
  acc  : Nat := 0
  lit  : Bool := false
deriving DecidableEq, Repr

/-- Kinds of device Milestones (R86): arrivals of cars and doors, door requests by RSEQ, brake instants. No chapter sets a
handoff instant. -/
inductive MsKind where
  | arrival (car : Nat)
  | axisArrival (plan : Nat)
  | door (rseq : Nat)
  | brakeRelease
  | brakeApply
deriving DecidableEq, Repr

/-- A device Milestone: edge, class (R87) and kind. -/
structure Ms where
  edge : Nat := 0
  cls  : Nat := 0
  kind : MsKind
deriving DecidableEq, Repr

/-! ## Plans (file 05) -/

/-- A profile phase: duration in ns, jerk in µm/s³, and the step of acceleration at its start (trapezoidal, R119). -/
structure Phase where
  dur  : Nat := 0
  jerk : Int := 0
  acc  : Option Int := none
  num  : Nat := 0
deriving DecidableEq, Repr

/-- Stop kinds (R131). -/
inductive StopKind where
  | s1 | s2 | s3
deriving DecidableEq, Repr

/-- A MOVE_TO, or a device or dispatch target, as the planner holds it. -/
structure Move where
  tag     : Option TagRec := none
  elem    : Nat := 0
  target  : Int := 0
  targets : List Int := []
  prof    : Nat := 0
  revok   : Bool := false
  vmax    : Nat := 0
  amax    : Nat := 0
  jmax    : Nat := 0
  waitMax : Nat := 0
  due     : Nat := 0
  kind    : Nat := 0
deriving DecidableEq, Repr

/-- A stop waiting for or at its boundary: kind, cause (MOVE_STOP tag or fault), door stop deceleration. -/
structure StopReq where
  kind : StopKind := .s3
  tag  : Option TagRec := none
  due  : Nat := 0
deriving DecidableEq, Repr

/-- Set-point state and plan (R115-R136, MOTION_READ). -/
structure Plan where
  t0      : Nat := 0
  pQ0     : Int := 0
  vQ0     : Int := 0
  a0      : Int := 0
  phases  : List Phase := []
  pQ      : Int := 0
  vQ      : Int := 0
  a       : Int := 0
  j       : Int := 0
  aMean   : Int := 0
  phase   : Nat := 0
  mode    : Nat := 0
  move    : Option Move := none
  next    : Option Move := none
  stop    : Option StopKind := none
  stopTag : List TagRec := []
  stops   : List StopReq := []
  target  : Int := 0
  effTgt  : Int := 0
  rev     : Bool := false
  turn    : Option Int := none
  xleg    : Bool := false
  vposQ0  : Int := 0
  vposQ   : Int := 0
  capped  : Bool := false
  clamp   : Nat := 0
  tailFrz : List Nat := []
  stepIn  : Bool := false
  stepOvf : Bool := false
  eta     : Nat := 0
  vcap    : Nat := 0
  capSrc  : Nat := 0
  waitAt  : Option Nat := none
  endQ    : Int := 0
  limV    : Nat := 0
  limA    : Nat := 0
  limJ    : Nat := 0
  trap    : Bool := false
  caught  : Bool := false
  legFrom : List Int := []
deriving DecidableEq, Repr

/-! ## Cars of the LANE role (files 04, 06, 08-10, 17) -/

/-- A Waymark edge that became known (R101, R102): Waymark, trailing, instant. -/
structure WayEdge where
  wm    : Nat := 0
  trail : Bool := false
  te    : Nat := 0
deriving DecidableEq, Repr

/-- Fused position, sources, trust, limits (R94-R109, R414). -/
structure Pos where
  elem     : Nat := 0
  pQ       : Int := 0
  vQ       : Int := 0
  vpos     : Int := 0
  trust    : Nat := 0
  tapeRun  : Nat := 0
  bemfRun  : Nat := 0
  tapeGood : Nat := 0
  bemfGood : Nat := 0
  tapeMiss : Nat := 0
  bemfMiss : Nat := 0
  tapeDis  : Bool := false
  bemfDis  : Bool := false
  wayDis   : Bool := false
  wayMiss  : Nat := 0
  wayFault : Bool := false
  wayWin   : Bool := false
  waySeen  : Bool := false
  tapeUse  : Bool := false
  tapeOk   : Bool := false
  tapeBad  : Nat := 0
  tapeLost : Bool := false
  bemfOk   : Bool := false
  bemfAv   : Bool := false
  noSrc    : Nat := 0
  noTape   : Nat := 0
  tapeRes  : Int := 0
  bemfRes  : Int := 0
  wayRes   : Int := 0
  tapeAge  : Nat := 0
  missCnt  : Nat := 0
  loa      : Int := 0
  loaElem  : Nat := 0
  loaDir   : Int := 0
  limTrip  : Bool := false
  anchorT  : Option (Nat × Nat) := none
  fusedAt  : Nat := 0
deriving DecidableEq, Repr

/-- Propulsion sequence of a car (R172, R173). -/
inductive Seq where
  | braked
  | rampUp (n : Nat)
  | settle (run : Nat)
  | releasing (due : Nat)
  | driving
  | applying (reports : Nat)
  | rampDown (n : Nat) (from0 : Int)
  | heldFault
deriving DecidableEq, Repr

/-- Propulsion state of a car (R137, R155-R157, R162, R169-R174, R187). -/
structure Prop0 where
  pstate   : Nat := 0
  seq      : Seq := .braked
  force    : Int := 0
  forceV   : Int := 0
  load     : Option Nat := none
  hseq     : Nat := 0
  action   : Nat := 0
  actAt    : Nat := 0
  lastMsg  : Option HoldMsg := none
  acc      : Int := 0
  inc      : Int := 0
  add      : Int := 0
  coverage : Nat := 0
  fclamp   : Bool := false
  uEff     : List Int := []
  coverLost : Bool := false
deriving DecidableEq, Repr

/-- Authority of a car (R206, R210-R215). -/
structure CarAuth where
  chain   : List Nat := []
  claims  : List (List Nat) := []
  wait    : Nat := 0
  item    : List Nat := []
  demand  : Int := 0
  cls     : Nat := 0
  unkHold : List Nat := []
  v0Neg   : Bool := false
deriving DecidableEq, Repr

/-- A stop of a car's stop list: call, landing floor, lane position, whether it is the pickup. -/
structure Stop where
  call   : Nat := 0
  lane   : Nat := 0
  land   : Nat := 0
  pos    : Int := 0
  pickup : Bool := false
deriving DecidableEq, Repr

/-- Dispatch service of a car (R224-R229): 0 out, 1 in, 2 drain. -/
structure Svc where
  mode  : Nat := 0
  stops : List Stop := []
  insp  : Bool := false
  inspCmd : Int := 0
deriving DecidableEq, Repr

/-- Door side of a car as the LANE device keeps it (R254-R258). -/
structure CarDoor where
  permit : PermitRec := ⟨0, 0, 0, 0, 0⟩
  req    : DoorReq := ⟨0, 0, 0, 0, 0, 0⟩
  sawOpen : List Bool := []
deriving DecidableEq, Repr

/-- Re-anchor search (R111): phase 0 searching, 1 stopping at an edge, 2 centring, 3 awaiting the anchor. -/
structure Search where
  tag   : TagRec := {}
  dir   : Int := 0
  speed : Nat := 0
  wm    : Nat := 0
  limit : Int := 0
  start : Int := 0
  phase : Nat := 0
  since : Nat := 0
  edge  : Option WayEdge := none
  stood : Bool := false
  taped : Bool := false
deriving DecidableEq, Repr

/-- What a car recorded in a learn run (R110 step 3): edges (Waymark, trailing, value) and per segment sum and count. -/
structure LearnRec where
  edges : List (Nat × Bool × Int) := []
  segs  : List (Nat × Int × Nat) := []
  home  : Nat := 0
  homeE : Nat := 0
  homeP : Int := 0
  away  : Bool := false
deriving DecidableEq, Repr

/-- A car of the LANE role. -/
structure Car where
  pos    : Pos := {}
  rep    : Option (Report × Nat) := none
  repGap : Nat := 0
  plan   : Plan := {}
  prop   : Prop0 := {}
  auth   : CarAuth := {}
  svc    : Svc := {}
  door   : CarDoor := {}
  link   : Bool := false
  offered : Bool := false
  search : Option Search := none
  learn  : Option LearnRec := none
  edges  : List WayEdge := []
  moved  : Bool := false
  overV  : Nat := 0
  levIn  : Bool := false
  brkLate : Bool := false
  sagDone : Bool := false
deriving DecidableEq, Repr

/-! ## Trunks and segments (file 06) -/

/-- An enumerated module (TRUNK_MAP). -/
structure Module where
  addr   : Nat := 0
  type   : Nat := 0
  pver   : Nat := 0
  serial : Nat := 0
  dlyA   : Nat := 0
  dlyB   : Nat := 0
deriving DecidableEq, Repr

/-- A trunk (R145-R168). -/
structure Trunk where
  map     : List Module := []
  known   : Bool := false
  carries : Bool := false
  ringst  : Nat := 3
  brkA    : Nat := 0
  brkB    : Nat := 0
  fseq    : Nat := 0
  frames  : Nat := 0
  misses  : Nat := 0
  crcErr  : Nat := 0
  ovf     : Nat := 0
  maxRet  : Nat := 0
  loop    : Nat := 0
  gotA    : Nat := 0
  gotB    : Nat := 0
  slots   : List (Nat × Slot) := []
  stoClr  : Nat := 0
  closed  : Bool := false
  sent    : Nat := 0
deriving DecidableEq, Repr

/-- Segment states (R161). -/
inductive SegSt where
  | inn | suspect | out | unreachable | service
deriving DecidableEq, Repr

/-- A stator segment (R149, R150, R161, SEGMENT_READ). -/
structure Seg where
  id      : Nat := 0
  st      : SegSt := .inn
  mstat   : Nat := 0
  theta   : Nat := 0
  temp    : Int := 0
  vdc     : Nat := 0
  fdel    : Int := 0
  mode    : Nat := 0
  car     : Option Nat := none
  force   : Int := 0
  forceV  : Int := 0
  weight  : Nat := 0
  share   : Nat := 0
  missRun : Nat := 0
  missTot : Nat := 0
  goodRun : Nat := 0
  angle   : Nat := 0
  omega   : Int := 0
  alpha   : Int := 0
  svcPend : Option Nat := none
deriving DecidableEq, Repr

/-! ## Control engine (file 07) -/

/-- Channel states (R189). -/
inductive ChSt where
  | off | run | hold | ramp
deriving DecidableEq, Repr

/-- A coefficient bank: the bytes of its section 0x0401 record (R190). -/
abbrev BankRec := List Byte

/-- A running injection (R195). -/
structure Inj where
  tag   : TagRec := {}
  kind  : Nat := 0
  point : Nat := 0
  ord   : Nat := 0
  amp   : F64 := F64.zero
  dur   : Nat := 0
  f0    : F64 := F64.zero
  f1    : F64 := F64.zero
  holdN : Nat := 0
  n     : Nat := 0
  phi   : F64 := F64.zero
  reg   : Nat := 0
  startAt : Nat := 0
deriving DecidableEq, Repr

/-- A control channel's running state (R184-R201). -/
structure Chan where
  st      : ChSt := .off
  bankB   : Bool := false
  bankA0  : BankRec := []
  bankB0  : BankRec := []
  loadedA : Bool := false
  loadedB : Bool := false
  s       : List F64 := []
  i       : F64 := F64.zero
  b       : F64 := F64.zero
  bstep   : F64 := F64.zero
  e       : F64 := F64.zero
  u       : F64 := F64.zero
  ff      : F64 := F64.zero
  rho     : F64 := F64.zero
  r       : F64 := F64.zero
  y       : F64 := F64.zero
  c       : F64 := F64.zero
  sig     : F64 := F64.zero
  xm      : F64 := F64.zero
  vm      : F64 := F64.zero
  satCnt  : Nat := 0
  plCnt   : Nat := 0
  /-- Consecutive residuals within PLAUSWIN (R201). -/
  plGood  : Nat := 0
  osat    : Bool := false
  isat    : Bool := false
  intHeld : Bool := false
  satTrip : Bool := false
  plTrip  : Bool := false
  satDue  : Bool := false
  plDue   : Bool := false
  swap    : Option (TagRec × Nat × Nat) := none
  swapAt  : Nat := 0
  evals   : Nat := 0
  inj     : Option Inj := none
  rampN   : Nat := 0
  rampFrom : Int := 0
  rampUp  : Bool := false
  casc    : F64 := F64.zero
  out     : Int := 0
  prevU   : F64 := F64.zero
  fmaxCut : Bool := false
deriving DecidableEq, Repr

/-- A capture buffer (R198). State: 0 idle, 1 armed, 2 filling, 3 complete. -/
structure Cap where
  st      : Nat := 0
  ch      : Nat := 0
  node    : Nat := 0
  sigA    : Nat := 0
  sigB    : Nat := 0
  decim   : Nat := 0
  trig    : Nat := 0
  pre     : Nat := 0
  samples : List (Nat × Nat) := []
  count   : Nat := 0
  skip    : Nat := 0
  left    : Nat := 0
  trigIdx : Nat := 0
  t0      : Nat := 0
deriving DecidableEq, Repr

/-! ## Authority and dispatch (file 08) -/

/-- Owner of a block token (R205). -/
inductive Owner where
  | car (n : Nat) | unsettled | closed | free
deriving DecidableEq, Repr

/-- A block of the books: number, element and extent of the books (R470), owner, close-pending (R217). -/
structure Blk where
  id      : Nat := 0
  elem    : Nat := 0
  start   : Int := 0
  stop    : Int := 0
  owner   : Owner := .free
  closeP  : Bool := false
  removed : Bool := false
  claimed : Bool := false
  wait    : Nat := 0
  unpow   : Bool := false
deriving DecidableEq, Repr

/-- An AUTH_CLOSE waiting for its blocks (R217). -/
structure CloseCmd where
  tag    : TagRec := {}
  close  : Bool := false
  blocks : List Nat := []
deriving DecidableEq, Repr

/-- The allocator's books (R205-R217, R470). -/
structure Auth where
  blocks  : List Blk := []
  rebuilt : Bool := false
  badBooks : Bool := false
  rebuildDue : Bool := false
  closing : List CloseCmd := []
deriving DecidableEq, Repr

/-- A call record (CALL_READ). -/
structure Call where
  id       : Nat := 0
  state    : Nat := 0
  src      : Nat := 0
  frm      : Nat := 0
  dst      : Nat := 0
  pax      : Nat := 0
  car      : Option Nat := none
  lane     : Nat := 0
  reass    : Nat := 0
  fallback : Bool := false
  committed : Bool := false
  access   : Bool := false
  recv     : Nat := 0
  answered : Nat := 0
  pickEta  : Nat := 0
  dropEta  : Nat := 0
  ended    : Nat := 0
  treq     : Nat := 0
  tag      : Option TagRec := none
  pending  : Bool := false
deriving DecidableEq, Repr

/-- A terminal's token bucket (R222 step 2), in tokens × 60·10^9, and its event limit. -/
structure Bucket where
  src   : Nat := 0
  level : Nat := 0
  at0   : Nat := 0
  limAt : Option Nat := none
deriving DecidableEq, Repr

/-- An answer handed to the Ethernet MAC (R223). -/
structure Answer where
  src  : Nat := 0
  data : List Byte := []
deriving DecidableEq, Repr

/-- A TRIP_EVAL running. -/
structure Eval where
  tag  : TagRec := {}
  data : List Byte := []
deriving DecidableEq, Repr

/-- The dispatcher (R221-R229, R434). -/
structure Disp where
  calls   : List Call := []
  lastId  : Nat := 4095
  buckets : List Bucket := []
  unkSrc  : Nat := 0
  discarded : Nat := 0
  admitAt : Option Nat := none
  evals   : List Eval := []
  answers : List Answer := []
  lastEval : Nat := 0
  full75  : Bool := false
  evalFree : Nat := 0
deriving DecidableEq, Repr

/-! ## Doors and the CAR role (files 05, 06, 09) -/

/-- Door states (R257). -/
inductive DState where
  | unhomed | homing | locked | opening | opened | closing | reopening | nudging | stopped | fault
deriving DecidableEq, Repr

/-- A door axis (R139, R140, R233-R243, R250-R253). -/
structure Axis where
  plan     : Plan := {}
  homed    : Bool := false
  energised : Bool := false
  mode     : Nat := 0
  fails    : Nat := 0
  stuckChop : Bool := false
  macc     : Int := 0
  minc     : Int := 0
  current  : Nat := 0
  lambda   : Int := 0
  lamValid : Bool := false
  lamSum   : Int := 0
  lamN     : Nat := 0
  lamSum8  : Int := 0
  lamN8    : Nat := 0
  obsV     : Int := 0
  lossRun  : Nat := 0
  measA    : Int := 0
  measB    : Int := 0
  dutyA    : Int := 0
  dutyB    : Int := 0
  intA     : Int := 0
  intB     : Int := 0
  offA     : Option Nat := none
  offB     : Option Nat := none
  errRun   : Nat := 0
  standAt  : Option Nat := none
  sw       : Bool := false
  swAt     : Option Nat := none
  homeFrom : Int := 0
  obsCur   : Nat := 0
  obsForce : Nat := 0
  stepPend : Int := 0
  stepLast : Option Nat := none
  stepIvl  : Nat := 0
deriving DecidableEq, Repr

/-- A door command: 0 open, 1 close, 2 home, 3 MOVE_TO, with what it asks. -/
structure DoorCmd where
  tag    : Option TagRec := none
  kind   : Nat := 0
  width  : Nat := 0
  cycle  : Bool := false
  dwell  : Nat := 0
  nudge  : Bool := false
  wait   : Bool := false
  since  : Nat := 0
  due    : Nat := 0
  obs0   : Nat := 0
  move   : Option Move := none
deriving DecidableEq, Repr

/-- A door (R233, R244-R261). -/
structure Door where
  st       : DState := .unhomed
  cmd      : Option DoorCmd := none
  next     : Option DoorCmd := none
  width    : Nat := 0
  obsCnt   : Nat := 0
  lastObs  : Nat := 0
  obsTot   : Nat := 0
  obsPend  : Nat := 0
  obsDue   : Nat := 0
  reacting : Bool := false
  reopWait : Bool := false
  nudge    : Bool := false
  nudged   : Bool := false
  stepLoss : Bool := false
  chatter  : Bool := false
  winFlt   : Bool := false
  lockTo   : Bool := false
  keCap    : Bool := false
  vcapC    : Nat := 0
  ekin     : Nat := 0
  fest     : Nat := 0
  obsEn    : Nat := 0
  timer    : Option (Nat × Nat) := none
  opening  : Bool := false
deriving DecidableEq, Repr

/-- The CAR role's link side and brakes (R99, R170, R171, R254, R258, R412). -/
structure CarRole where
  permit   : Option (PermitRec × Nat) := none
  request  : Option DoorReq := none
  lastRseq : Option Nat := none
  hold     : Option HoldMsg := none
  lapse    : Nat := 0
  applied  : Bool := true
  auto     : Bool := false
  swApplied : Bool := false
  swLifted : Bool := false
  releaseAt : Option Nat := none
  tape     : Option Report := none
  report   : Option Report := none
  reqs     : List DoorReq := []
  restPos  : Option Int := none
  lastTape : Option (Int × Nat) := none
  permitOld : Nat := 0
deriving DecidableEq, Repr

end Sys2Proof.Machine

namespace Sys2Proof

/-- The replicated state a replication image carries (R350), with the holder's stage, whether it is
in SLEEP (R421) and, in the image of a proving swap
that is to be reversed, its DWELL (log 60). -/
structure RepBody where
  cars   : List Machine.Car := []
  trunks : List Machine.Trunk := []
  segs   : List Machine.Seg := []
  chans  : List Machine.Chan := []
  auth   : Machine.Auth := {}
  disp   : Machine.Disp := {}
  axes   : List Machine.Axis := []
  doors  : List Machine.Door := []
  crole  : Machine.CarRole := {}
  miles  : List Machine.Ms := []
  stage  : Nat := 0
  sleep  : Bool := false
  back   : Option Nat := none
  qcmd   : Nat := 0
  regs   : List Nat := []
  ep     : List Nat := []
  mp     : List Nat := []
  sections : List (Nat × Option (List Byte)) := []
deriving DecidableEq, Repr

/-- A replication image as it arrives (R349, R350): its header, the holder's pair state, whether its GCM tag passes,
whether the holder's firmware measurement equals this unit's, and its body. -/
structure PairImg where
  iseq   : Nat
  ticks  : Nat
  bound  : Nat
  cfgCrc : Nat
  tbst   : Nat
  iflg   : Nat
  ilen   : Nat
  pstate : Nat
  tagOk  : Bool
  fwOk   : Bool
  body   : RepBody
deriving DecidableEq, Repr

end Sys2Proof
end

