-- ==== Sys2Proof/Syntax.lean ====
section
/-! DEFINITION. The commands of the block: one constructor per row of spec/opcode_table.json. A card row carries its packet header and its payload bytes, laid out as the card's payload table gives
(R7: little-endian). An event row carries `t`, the Milestone time in ns of the event (log 4), and what arrives. -/

namespace Sys2Proof

/-- The commands of the block. -/
inductive Instr where
  /-- R55: Checks a protection-table change against the projected table and queues it to apply at a tick boundary. -/
  | protectSet (h : Hdr) (data : List Byte)
  /-- R53: Returns protection entries from one generation, starting at START. -/
  | protectGet (h : Hdr) (data : List Byte)
  /-- R56: Sets a ring pair's owner and tag quota and closes its session when the owner changes. -/
  | ringAssign (h : Hdr) (data : List Byte)
  /-- R66: Routes or enables an event source to an EQ, an MSI-X vector and interrupt balls. -/
  | eventRoute (h : Hdr) (data : List Byte)
  /-- R59: Runs the enable check, starting a learn run if calibration is missing, and enters stage 6 on success. -/
  | circuitEnable (h : Hdr) (data : List Byte)
  /-- R61: Returns the device from stage 6 to stage 5 at the next tick boundary, dropping waiting calls and rebuilding the books. -/
  | circuitDisable (h : Hdr) (data : List Byte)
  /-- R62: Returns entries of the enable-check report. -/
  | checkReport (h : Hdr) (data : List Byte)
  /-- R467: Returns timebase state, source, offset and error bound. -/
  | timeStatus (h : Hdr) (data : List Byte)
  /-- R70: Sets PTP, holdover and CAN reference parameters, effective at the next tick boundary. -/
  | timeConfig (h : Hdr) (data : List Byte)
  /-- R74: Steps Milestone time to MTIME at the next tick boundary and enters FREE. -/
  | timeSet (h : Hdr) (data : List Byte)
  /-- R91: Cancels a command that is waiting for launch if its edge is at least 2 µs ahead. -/
  | milestoneCancel (h : Hdr) (data : List Byte)
  /-- R112: Stages a fragment of a configuration section and checks and commits the section when it is complete. -/
  | configWrite (h : Hdr) (data : List Byte)
  /-- R108: Returns a car's fused position, trust, limits and residuals. -/
  | positionRead (h : Hdr) (data : List Byte)
  /-- R110: Starts a learn run round every loop in stage 5. -/
  | learnStart (h : Hdr) (data : List Byte)
  /-- R111: Moves a standing car to search for the nearest Waymark edge and anchor it. -/
  | reanchor (h : Hdr) (data : List Byte)
  /-- R142: Sets a new target for a car, axis or group plan, effective at the next qualifying boundary. -/
  | moveTo (h : Hdr) (data : List Byte)
  /-- R131: Starts an S1 or S2 stop on a plan. -/
  | moveStop (h : Hdr) (data : List Byte)
  /-- R129: Returns a plan's set-point state, targets, cap and status. -/
  | motionRead (h : Hdr) (data : List Byte)
  /-- R158: Enumerates the selected trunks and measures their module delays. -/
  | trunkEnumerate (h : Hdr) (data : List Byte)
  /-- R158: Returns a trunk's enumerated module map from hop START. -/
  | trunkMap (h : Hdr) (data : List Byte)
  /-- R160: Returns a trunk's ring state, break hops and counters. -/
  | trunkStatus (h : Hdr) (data : List Byte)
  /-- R161: Returns a segment's state, demand and feedback. -/
  | segmentRead (h : Hdr) (data : List Byte)
  /-- R164: Takes a segment to SERVICE or returns it, effective in the frame after the next boundary. -/
  | segmentService (h : Hdr) (data : List Byte)
  /-- R189: Returns the state and signals of a control channel's last evaluation. -/
  | loopStatus (h : Hdr) (data : List Byte)
  /-- R190: Loads a checked coefficient bank into a channel's inactive bank. -/
  | bankLoad (h : Hdr) (data : List Byte)
  /-- R191: Swaps a channel to its other bank at a qualifying evaluation, with bumpless transfer. -/
  | bankSwap (h : Hdr) (data : List Byte)
  /-- R195: Starts a test-signal injection on a channel. -/
  | injectStart (h : Hdr) (data : List Byte)
  /-- R197: Stops a running injection, which ends ABORTED with 0x4021. -/
  | injectStop (h : Hdr) (data : List Byte)
  /-- R198: Arms a capture buffer on a channel with a trigger. -/
  | captureArm (h : Hdr) (data : List Byte)
  /-- R198: Returns samples from a capture buffer. -/
  | captureRead (h : Hdr) (data : List Byte)
  /-- R201: Clears a channel's saturation or plausibility trip latch when its condition has cleared. -/
  | loopAck (h : Hdr) (data : List Byte)
  /-- R205: Returns block token owners and flags after one allocator pass. -/
  | authRead (h : Hdr) (data : List Byte)
  /-- R206: Returns a car's chain, LOA, claim and demand front. -/
  | authCar (h : Hdr) (data : List Byte)
  /-- R217: Closes or opens every block of a node through the allocator. -/
  | authClose (h : Hdr) (data : List Byte)
  /-- R222: Checks a host destination call as source 0 and assigns it a car. -/
  | callSubmit (h : Hdr) (data : List Byte)
  /-- R434: Removes an unboarded call and answers its source with ASTAT 5. -/
  | callCancel (h : Hdr) (data : List Byte)
  /-- R434: Returns call records. -/
  | callRead (h : Hdr) (data : List Byte)
  /-- R229: Places a car in dispatch service, out of it, or in drain. -/
  | carService (h : Hdr) (data : List Byte)
  /-- R224: Evaluates a stop list from a car's present state and returns energy and arrival times. -/
  | tripEval (h : Hdr) (data : List Byte)
  /-- R255: Opens a door once it is permitted, optionally closing it again after DWELL. -/
  | doorOpen (h : Hdr) (data : List Byte)
  /-- R259: Closes a door, normally or by nudging, until it is LOCKED. -/
  | doorClose (h : Hdr) (data : List Byte)
  /-- R251: Clears door latches and starts a homing run on the closed-and-locked switches. -/
  | doorHome (h : Hdr) (data : List Byte)
  /-- R257: Returns a door's state, flags, positions and caps. -/
  | doorStatus (h : Hdr) (data : List Byte)
  /-- R277: Returns pair, latch, output and fault state. -/
  | safetyStatus (h : Hdr) (data : List Byte)
  /-- R280: Requests release of the trip latch at a boundary at which the release conditions hold. -/
  | safetyReset (h : Hdr) (data : List Byte)
  /-- R283: Runs the full safety-path self-test. -/
  | safetyTest (h : Hdr) (data : List Byte)
  /-- R290: Returns field input, output, readback and supply-group state. -/
  | fieldStatus (h : Hdr) (data : List Byte)
  /-- R290: Writes the commanded value of a field output. -/
  | fieldOutWrite (h : Hdr) (data : List Byte)
  /-- R296: Clears an output's SAGLATCH, RBFLT or thermal latch. -/
  | fieldOutAck (h : Hdr) (data : List Byte)
  /-- R306: Returns a CAN channel's state and counters. -/
  | canStatus (h : Hdr) (data : List Byte)
  /-- R315: Queues a frame on a host transmit object for arbitration. -/
  | canSend (h : Hdr) (data : List Byte)
  /-- R311: Returns CAN objects without changing them. -/
  | canRead (h : Hdr) (data : List Byte)
  /-- R311: Returns CAN objects and takes each one, clearing UNREAD, LOST and OVW. -/
  | canTake (h : Hdr) (data : List Byte)
  /-- R320: Puts a CAN channel to sleep or wakes it. -/
  | canPower (h : Hdr) (data : List Byte)
  /-- R333: Returns the energy registers from one commit. -/
  | energyRead (h : Hdr) (data : List Byte)
  /-- R336: Returns the supply quantities of the last completed cycle. -/
  | supplyRead (h : Hdr) (data : List Byte)
  /-- R352: Returns the pair state, flags and counters. -/
  | pairStatus (h : Hdr) (data : List Byte)
  /-- R359: Exchanges active and standby roles while the cars stand. -/
  | pairProve (h : Hdr) (data : List Byte)
  /-- R377: Signs a quote over the requester's nonce and serves it in pieces. -/
  | attestQuote (h : Hdr) (data : List Byte)
  /-- R378: Returns the identity public keys or certificates in pieces. -/
  | identityRead (h : Hdr) (data : List Byte)
  /-- R366: Returns vault state, counters, tamper policy and tamper log. -/
  | vaultStatus (h : Hdr) (data : List Byte)
  /-- R375: Stores the Custodian public keys and generates the battery share on a provisional session. -/
  | provision (h : Hdr) (data : List Byte)
  /-- R373: Assembles a key update message, checks it and applies it after raising KEYCTR. -/
  | keyUpdate (h : Hdr) (data : List Byte)
  /-- R370: Performs an encrypt, decrypt, wrap, unwrap or derive operation with a key slot. -/
  | keyOp (h : Hdr) (data : List Byte)
  /-- R382: Moves a session to its next rekey epoch and restarts SEQ in both directions. -/
  | sessionRekey (h : Hdr) (data : List Byte)
  /-- R382: Closes the session of a ring pair. -/
  | sessionClose (h : Hdr) (data : List Byte)
  /-- R396: Returns the present epoch and committed ledger head. -/
  | ledgerSnapshot (h : Hdr) (data : List Byte)
  /-- R396: Returns committed ledger records of the present epoch. -/
  | ledgerRead (h : Hdr) (data : List Byte)
  /-- R396: Returns a signed statement of the ledger head, served in pieces. -/
  | ledgerHead (h : Hdr) (data : List Byte)
  /-- R397: Checks a countersigned clear and starts a new ledger epoch at the next boundary. -/
  | ledgerClear (h : Hdr) (data : List Byte)
  /-- R400: Returns trip journal records and, with ACK set, advances JRD. -/
  | journalRead (h : Hdr) (data : List Byte)
  /-- R426: Sends DONE and schedules a commanded reset of the control die. -/
  | sysReset (h : Hdr) (data : List Byte)
  /-- R421: Wakes the device, puts it to sleep, or shuts it down in order. -/
  | powerSet (h : Hdr) (data : List Byte)
  /-- R405: Returns the stage, power state and image status. -/
  | startStatus (h : Hdr) (data : List Byte)
  /-- R417: Writes a firmware image fragment to the region that is not running and checks the image when complete. -/
  | imageWrite (h : Hdr) (data : List Byte)
  /-- R418: Marks the WRITTEN image TRIAL for the next reset. -/
  | imageActivate (h : Hdr) (data : List Byte)
  /-- R418: Commits the running trial image as ACTIVE, optionally raising SVN. -/
  | imageCommit (h : Hdr) (data : List Byte)
  /-- R36: A host write of SQ_PI rings the doorbell, and the device reads and checks the packets delivered. -/
  | sqPi (t pair value : Nat) (pkts : List Packet) (rdErr wrErr : Bool)
  /-- R64: A host write of EQ_CI consumes EQ records and clears the flags of their event sources. -/
  | eqCi (t pair value : Nat)
  /-- R36: A host write of RING_CFG sets ring sizes and EN, resuming service of the pair and its held replies. -/
  | ringCfg (t pair : Nat) (value : Word32)
  /-- R35: A host write of 1 clears RING_ERR bits. -/
  | ringErr (t pair : Nat) (value : Word32)
  /-- R31: A write of 1 clears BOOT_FAULT bits, which set again while their condition persists. -/
  | bootFault (t : Nat) (value : Word32)
  /-- R29: A write to a register with no row of its own stores the value or is ignored. -/
  | registerWrite (t offset : Nat) (value : Word32)
  /-- R40: An SPI transfer 0x0B returns one bootstrap window register and SPI_STAT. -/
  | windowRead (t offset : Nat)
  /-- R471: An SPI transfer 0x20+n delivers one packet to SQn for the acceptance checks. -/
  | sqWrite (t pair : Nat) (pkt : Packet)
  /-- R40: An SPI transfer 0x40+n clocks out one EQn record, which is removed only when it has been read in full. -/
  | eqRead (t pair nbytes : Nat)
  /-- R45: A UDP datagram on port 47100+n delivers one packet to SQn under the Ethernet SEQ window. -/
  | ethernetPacket (t pair : Nat) (pkt : Packet)
  /-- R381: A HELLO starts a session handshake, or a provisional session, and the device answers with REPLY or ERROR. -/
  | hello (t : Nat) (tr : Transport) (msg : Hello)
  /-- R380: A FINISH is verified, and the session binds on DONE, replacing any session on the pair. -/
  | finish (t pair hsid : Nat) (tr : Transport) (sigE sigQ mac : Nat)
  /-- R381: A FINISH that has not arrived within 2 s of HELLO ends the handshake with ERROR 0xC074. -/
  | handshakeTimeout (t pair : Nat)
  /-- R379: An SPI transfer 0x70+n reads a handshake fragment for pair n. -/
  | handshakeFragmentRead (t pair : Nat)
  /-- R410: In stage 2 with no bootable image, SPI transfer 0x80 writes image A bytes, and a complete image that passes is booted by a reset. -/
  | imageRecoveryWrite (t offset : Nat) (data : List Byte)
  /-- R63: An event ring held full for more than 10 ms raises event source 0x02. -/
  | eqHeldFull (t pair : Nat)
  /-- R74: At each tick boundary the device applies pending changes, fuses positions, runs the allocator, plans and runs the control engine pass. -/
  | tick (adc : List Int)
  /-- R109: At each fast-tick boundary the device runs the limit comparator, the 32 kHz passes, interlock checks, hold messages, keep-alives and Pennant refresh. -/
  | fastTick
  /-- R55: Once the new protection table is in MRAM, PROTECT_SET ends DONE. -/
  | protectTableStored (t : Nat) (ok : Bool)
  /-- R147: At B_k plus 16 µs both ports of each trunk send their frame. -/
  | frameStart
  /-- R151: A returned trunk frame is received and its slots are taken as returned or missed. -/
  | trunkFrameReceived (t : Nat) (fr : TrunkRx)
  /-- R82: A waiting host command launches at its resolved edge. -/
  | launch
  /-- R87: A device Milestone (arrival, door, handoff, brake) is applied at its edge. -/
  | deviceMilestone
  /-- R172: Brake lift not confirmed within BRKLIFT re-applies the brakes and aborts the MOVE_TO with 0x3024. -/
  | brkliftTimeout (t car : Nat)
  /-- R173: Brake apply not confirmed within BRKENG plus 100 ms raises event source 0x3B. -/
  | brkengTimeout (t car : Nat)
  /-- R99: A car report arrives at the LANE device with position, brake, load, door and inspection records. -/
  | carReport (t car : Nat) (rep : Report)
  /-- R277: No car report for 8 ticks raises FCODE 0x10 with an S3 stop. -/
  | carReportTimeout (t car : Nat)
  /-- R103: No usable tape reading for 8 consecutive ticks marks the tape lost. -/
  | tapeLost (t car : Nat)
  /-- R104: A position source that misses its window in 8 consecutive evaluations becomes disagreeing. -/
  | sourceDisagreeing (t car : Nat) (src : PosSource)
  /-- R171: A hold message arrives at the CAR device and applies or releases the brakes. -/
  | holdMessage (t : Nat) (msg : HoldMsg)
  /-- R171: HOLDTO fast ticks without a valid hold message make the CAR device apply its brakes. -/
  | holdtoLapse (t : Nat)
  /-- R255: A permit record arrives at the CAR device and updates its door permits. -/
  | permitRecord (t : Nat) (rec : PermitRec)
  /-- R258: A door request record with a new RSEQ is taken as a device DOOR_OPEN launched at AT. -/
  | doorRequestRecord (t : Nat) (rec : DoorReq)
  /-- R255: A DOOR_OPEN without the permit for 500 ms ends ABORTED with 0x6020. -/
  | permitTimeout (t door : Nat)
  /-- R245: After REDWELL open, the door closes again, as a nudging close if OBSCNT has reached NUDGEN. -/
  | redwellExpiry (t door : Nat)
  /-- R247: A reopening withheld 500 ms for the permit closes the door as a nudging close. -/
  | reopwaitTimeout (t door : Nat)
  /-- R248: A close waiting for LCHOLD with the curtain broken begins as a nudging close. -/
  | lcholdExpiry (t door : Nat)
  /-- R258: A door opened with CYCLE closes after DWELL. -/
  | dwellExpiry (t door : Nat)
  /-- R240: A load angle of 384 or more in 4 valid estimates latches STEPLOSS and unhomes the axis. -/
  | stepLoss (t axis : Nat)
  /-- R237: A current error above REGERR for 48 samples switches the axis to chopper mode. -/
  | regulationFailure (t axis : Nat)
  /-- R237: An axis standing for 100 ms in chopper mode returns to quiet mode. -/
  | chopperExit (t axis : Nat)
  /-- R253: No switch make within CLTIME after a closing move reaches 0 sets LOCKTO and aborts the command. -/
  | cltimeTimeout (t door : Nat)
  /-- R251: A member without a make within 1.1 × STROKE of travel is a homing fault. -/
  | homingTravelFault (t axis : Nat)
  /-- R140: A pending step count above 65,535 latches STEPOVF and stops the axis. -/
  | stepInputOverrun (t axis : Nat)
  /-- R199: SATCNT reaching SATLIM trips the channel's saturation watch. -/
  | saturationTrip (t ch : Nat)
  /-- R200: PLAUSN consecutive residuals outside PLAUSWIN trip the plausibility watch. -/
  | plausibilityTrip (t ch : Nat)
  /-- R195: An injection ends after DUR evaluations and INJECT_START ends DONE. -/
  | injectionEnd (t ch : Nat)
  /-- R198: A triggered buffer finishes recording and raises event source 0x44. -/
  | captureComplete (t buf : Nat)
  /-- R215: A claim's WAIT reaching AGING raises event source 0x50 and gives it priority class 1. -/
  | agingReached (t car : Nat)
  /-- R470: After a block section write, the books are rebuilt at the first boundary at which every car stands braked. -/
  | booksRebuild (t : Nat)
  /-- R130: A MOVE_TO standing at the authority stop for WAITMAX ends ABORTED with 0x3023. -/
  | waitmaxExpiry (t car : Nat)
  /-- R110: A learn run ends when every car regains its starting block, and its results are stored or it fails. -/
  | learnRunEnd (t : Nat)
  /-- R158: Trunk enumeration completes and the map and delays are stored. -/
  | enumerationEnd (t : Nat) (walks : List TrunkWalk)
  /-- R222: A destination call arrives from a terminal over CAN or Ethernet and is checked and entered. -/
  | terminalCall (t : Nat) (call : TermCall)
  /-- R226: At 1,750 µs after receipt, the dispatcher takes the best candidate or the fallback and answers. -/
  | callDeadline (t id : Nat)
  /-- R228: Every REEVAL interval the dispatcher re-costs uncommitted waiting calls and moves them. -/
  | reeval (t : Nat)
  /-- R434: An ended call record is removed 60 s after it ends, freeing its CALLID. -/
  | callidRelease (t id : Nat)
  /-- R265: An armed safety channel entering demand trips the network and sets the trip latch without a clock. -/
  | safetyInputDemand (t si width : Nat)
  /-- R264: Two channels of a pair differing for longer than DISCT latch DISC. -/
  | discrepancy (t pair : Nat)
  /-- R266: A lockstep comparator mismatch sets the trip latch and resets the control die. -/
  | lockstepMismatch (t : Nat)
  /-- R266: Expiry of the safety-core watchdog sets the trip latch and resets the control die. -/
  | watchdogExpiry (t : Nat)
  /-- R25: A clock outside ±5 % for more than 2 µs is a clock fault and a safety-core fault. -/
  | clockFault (t : Nat)
  /-- R27: An uncorrectable SRAM error is handled according to its region. -/
  | uncorrectableError (t : Nat) (region : SramRegion) (word : Nat)
  /-- R266: A die-to-die link lost for 1 µs makes the field die set its trip networks. -/
  | dieLinkLoss (t die : Nat)
  /-- R353: TRIP_IN asserted by the partner sets this unit's trip latch. -/
  | tripIn (t : Nat)
  /-- R284: Every TESTPER the periodic self-test starts and runs one step per tick. -/
  | periodicTest (t : Nat)
  /-- R283: The full self-test completes and sets SELF[0] on a pass. -/
  | selfTestEnd (t failA failB : Nat)
  /-- R450: A safe-output readback that disagrees for 100 µs raises FCODE 0x16. -/
  | soReadbackFault (t so : Nat)
  /-- R287: A raw input level held for DEB changes the debounced state at its transition instant. -/
  | fieldInputTransition (t fi : Nat) (level : Bool)
  /-- R295: A group supply below its threshold for 10 µs leaves OK and forces its outputs LOW. -/
  | supplyGroupDrop (t grp mv10 : Nat)
  /-- R296: A group supply in range for RESTT returns to OK and restores its outputs. -/
  | supplyGroupRestore (t grp mv10 : Nat)
  /-- R292: An output readback that disagrees for 100 µs releases the output and latches RBFLT. -/
  | readbackFault (t fq : Nat)
  /-- R293: A driver over its shutdown temperature switches the output LOW and latches. -/
  | thermalLatch (t fq : Nat)
  /-- R298: A keep-alive reaches a field die and, after 8 consecutive with DRIVE = 1, lets the outputs drive again. -/
  | keepAlive (t die : Nat) (drive : Bool)
  /-- R297: 40 µs without a keep-alive, or DRIVE = 0, releases every field output of the die. -/
  | watchdogRelease (t die : Nat)
  /-- R311: A received CAN frame is stored whole in its object or taken by its function. -/
  | canFrameReceived (t ch : Nat) (fr : CanRx)
  /-- R318: The end of a contest back-off returns the transmit object to arbitration. -/
  | backoffExpiry (t ch id : Nat)
  /-- R315: An acknowledged transmission ends its CAN_SEND DONE, or queues FOLLOW after SYNC. -/
  | canTransmitDone (t ch sof tries : Nat)
  /-- R315: A waiting frame whose EXPIRE passes is removed and ends ABORTED with 0x9020. -/
  | canExpire (t ch id : Nat)
  /-- R308: A channel whose TEC exceeds 255 enters BUSOFF and holds its queue. -/
  | busOff (t ch : Nat)
  /-- R308: 128 occurrences of 11 recessive bits take a bus-off channel to VERIFY. -/
  | busOffRecovery (t ch : Nat)
  /-- R308: VERIFYT without a frame error takes a channel from VERIFY to ACTIVE. -/
  | verifytExpiry (t ch : Nat)
  /-- R307: DETWAIT without an error takes a channel from DETECT to ACTIVE. -/
  | detwaitExpiry (t ch : Nat)
  /-- R307: 16 frame errors without a valid frame put the channel in MISMATCH and measure DETBIT. -/
  | rateMismatch (t ch detbit : Nat)
  /-- R320: After 11 recessive bits the channel puts its transceiver in low-power mode and enters ASLEEP. -/
  | sleepEntry (t ch : Nat)
  /-- R321: A wake condition on an ASLEEP channel wakes it, storing the wake frame. -/
  | canWake (t ch : Nat) (fr : Option CanRx)
  /-- R319: A CAN reference falls due and its SYNC is queued, replacing an unsent one. -/
  | referenceDue (t ch : Nat)
  /-- R73: A PTP Sync is used to measure and correct the timebase offset. -/
  | ptpSync (t : Nat) (offset : Int) (pathDly : Nat) (freq : Int)
  /-- R69: No usable Sync for 4 intervals, or an announce timeout, puts a LOCKED timebase in HOLDOVER. -/
  | syncLoss (t : Nat)
  /-- R75: ERRBOUND exceeding HOLDLIMIT puts the timebase in FREE. -/
  | holdoverLimit (t : Nat)
  /-- R326: A positive-going zero crossing of V1 ends a mains cycle, and the cycle's quantities are computed. -/
  | cycleEnd (t : Nat)
  /-- R336: Each half cycle refreshes U½ and begins or ends sags, swells and interruptions. -/
  | halfCycle (t : Nat)
  /-- R340: SAGHOLD after a sag ends lifts DERV and the start inhibit. -/
  | sagholdExpiry (t : Nat)
  /-- R330: The brown-out warning triggers one extra metering commit. -/
  | brownOutWarning (t : Nat)
  /-- R334: An S0 output emits its next owed pulse. -/
  | pulseOutput (t ep : Nat)
  /-- R335: A debounced S0 pulse from the building meter is counted. -/
  | meterPulse (t mp : Nat)
  /-- R335: At the end of CMPWIN the device compares its energy with the meter's pulses. -/
  | cmpwinExpiry (t mp : Nat)
  /-- R351: A replication image arrives at the standby and is applied. -/
  | pairImage (t : Nat) (img : PairImg)
  /-- R352: 100 µs without an edge on HB_IN loses the heartbeat-line path. -/
  | heartbeatLoss (t : Nat)
  /-- R352: 2 ticks without a valid image or acknowledgement lose the pair-link path. -/
  | pairLinkLoss (t : Nat)
  /-- R352: A standby's full state transfer completes. -/
  | syncComplete (t : Nat)
  /-- R345: An unrefreshed Pennant hold falls 100 µs after its last refresh and disables the unit's drivers. -/
  | pennantHoldExpiry (t : Nat)
  /-- R348: In stage 3, a unit whose PNT_IN has been low long enough claims the Pennant line. -/
  | pennantClaim (t : Nat)
  /-- R347: Both Pennant lines high for more than 2 µs is latched as a fault, and unit 1 drops its line. -/
  | pennantLineFault (t : Nat)
  /-- R355: A READY standby that finds PNT_IN low takes the Pennant line and continues service. -/
  | hotTake (t : Nat)
  /-- R357: A STALE or ORPHAN standby that finds PNT_IN low takes over with S3 stops and returns to stage 5. -/
  | coldTake (t : Nat)
  /-- R359: PNT_IN still low 500 ms after a proving drop makes the former holder reclaim. -/
  | proveTakeTimeout (t : Nat)
  /-- R358: PROVEAGE reaching PROVEWARN raises event source 0xB6. -/
  | provewarnReached (t : Nat)
  /-- R384: A tamper sensor condition reports or erases the vault secrets according to the policy. -/
  | tamperDetected (t sensor : Nat)
  /-- R461: VBAT below 1.90 V for 10 ms while VIO33 is absent clears the battery share as BATLOSS. -/
  | batteryLoss (t : Nat)
  /-- R403: Power-good arrives, and the device is held in stage 0. -/
  | powerGood (t : Nat)
  /-- R403: RST_N low for at least 10 µs resets the device to stage 0. -/
  | rstN (t : Nat) (low : Bool)
  /-- R405: At the end of the reset hold the straps are sampled and stage 1 begins. -/
  | resetRelease (t : Nat) (straps : Straps)
  /-- R403: A supply monitor leaving its range returns the device to stage 0 with BROWN. -/
  | supplyOutOfRange (t : Nat)
  /-- R446: PERST_N resets the PCIe endpoint only. -/
  | perstN (t : Nat)
  /-- R405: Completion of the stage 1 work takes the device to stage 2. -/
  | vaultCheckComplete (t : Nat) (res : Stage1Result)
  /-- R417: The boot ROM chooses, checks and runs an image, entering stage 3. -/
  | imageChosen (t : Nat) (res : Stage2Result)
  /-- R405: Completion of the stage 3 work enters stage 4. -/
  | stage3Complete (t : Nat) (walks : List TrunkWalk)
  /-- R405: At the first qualifying boundary in stage 4, the device enters stage 5. -/
  | stage5Entry (t : Nat)
  /-- R415: At stage 5 ready, the device starts the enable check itself if AUTOEN is set. -/
  | stage5Ready (t : Nat)
  /-- R407: A passed start-up deadline raises event source 0x0A, and a trial image that is late fails. -/
  | deadlinePassed (t : Nat)
  /-- R426: 1 ms after SYS_RESET replies, the control die resets with cause CMD. -/
  | commandedReset (t : Nat)
  /-- R420: IDLET of inactivity puts the device in IDLE. -/
  | idleEntry (t : Nat)
  /-- R422: A wake source wakes a sleeping device to RUN. -/
  | wake (t src : Nat)
  /-- R59: The enable check finishes within 250 ms and ends CIRCUIT_ENABLE DONE or REFUSED, starts the learn run, or ends the automatic check with event source 0x07. -/
  | enableCheckComplete (t : Nat)
  /-- R236: At each 48 kHz PWM period boundary the door drive samples currents, updates duty or regulation and changes between quiet and strong modes. -/
  | pwmPeriod (t : Nat) (currents : List Int)
  /-- R112: The completed section is in both configuration copies (and, in a pair, in the standby's store), and CONFIG_WRITE ends DONE or ABORTED with 0x2014. -/
  | configStoreWritten (t : Nat) (ok : Bool)
  /-- R370: A running KEY_OP completes and releases its output in the fabric cycle after completion. -/
  | keyOpComplete (t : Nat)
  /-- R224: The trip-plan evaluator finishes a TRIP_EVAL and it ends DONE with energies and arrival times. -/
  | tripEvalComplete (t : Nat)
  /-- R231: A TRIP_EVAL not completed within 10 ms ends ABORTED with 0x5032. -/
  | tripEvalTimeout (t : Nat)
  /-- R285: A SAFETY_RESET whose release conditions still fail 1 s after acceptance is refused with the reason of the first failing condition. -/
  | safetyResetTimeout (t : Nat)
  /-- R65: The end of a vector's moderation interval lets a pending MSI-X signal be sent. -/
  | msixModerationExpiry (t vec : Nat)
  /-- R302: A CAN frame error or bit error changes TEC or REC, moves the channel between ACTIVE and PASSIVE, abandons a contested send, and counts toward MISMATCH. -/
  | canBusError (t ch : Nat) (err : CanErr)
  /-- R69: A PTP Announce, or its absence, selects or changes the master, entering ACQUIRING and raising event source 0x14. -/
  | ptpAnnounce (t : Nat) (ann : Option Announce)
  /-- R31: A monitored clock returns within ±5 % of nominal, ending the clock fault that BOOT_FAULT CLOCK and R280 condition 2 wait on. -/
  | clockFaultClear (t : Nat)
  /-- R277: A field die's die-to-die link comes back, clearing FD0LINK or FD1LINK persistence and the cause of FCODE 0x04. -/
  | dieLinkRestore (t die : Nat)
  /-- R264: A safety channel returns to permit, or an unarmed channel changes level, changing the pair to CLOSED or OPEN and clearing DISC after a demand-then-permit cycle. -/
  | safetyInputPermit (t si : Nat)
  /-- R353: The partner's TRIP_OUT falls, removing TRIP_IN as a standing cause of R266. -/
  | tripInRelease (t : Nat)
  /-- R352: An edge on HB_IN after the heartbeat path was lost restores it and raises event source 0xB1. -/
  | heartbeatRestore (t : Nat)
  /-- R352: The holder receives the standby's acknowledgement of an image over the pair link: its pair state and whether its configuration and firmware match. -/
  | pairImageAck (t st : Nat) (cfgOk fwOk : Bool)
  /-- R347: PNT_IN rises within 2 µs after this unit raised PNT_OUT, and unit 1 drops its PNT_OUT while unit 0 keeps the line. -/
  | pntInRise (t : Nat)
  /-- R382: The initiating unit of a car-link or pair-link session receives REPLY or DONE and sends FINISH or binds the session. -/
  | handshakeReply (t : Nat) (msg : PeerMsg)
  /-- R419: The main supplies vanish, staged ledger records are lost and the device enters BATTERY-ONLY. -/
  | powerLoss (t : Nat)
  /-- R312: STALET passes since a CAN object's last store, setting STALE and the point's PFLAGS[3]. -/
  | staletExpiry (t ch idx : Nat)
  /-- R388: The vault TRNG fails a continuous health test and raises event source 0xC7. -/
  | trngHealthFailure (t : Nat)
deriving DecidableEq, Repr

end Sys2Proof
end

