-- ==== Sys2Proof/Decode.lean ====
section
/-! DEFINITION. The rows of the opcode table that give bits, read from a word. No row gives any, so no word spells a
command: commands reach the block as records, not as instruction words. -/

namespace Sys2Proof

/-- The command a word spells by the table's bits: none. -/
def decodeTableWord (_nbits _w : Nat) : Option Instr := none

end Sys2Proof
end

