-- ==== Sys2Proof/Config.lean ====
section
/-! DEFINITION. What one module fixes and what the manual leaves free: uninterpreted constants, none with a body.
The cryptographic primitives are named by the manual but defined elsewhere (log 5). Values the manual calls random or
leaves open are free values, taken at the counter State.free (log 6). -/

namespace Sys2Proof.Config

/-- BOOT_ID DIEREV: "per die" (R29). -/
opaque dieRev : BitVec 8
/-- BOOT_ID PKGREV: "per module" (R29). -/
opaque pkgRev : BitVec 8

/-- AES-256-GCM tag over AAD and ciphertext, by key and nonce (R46). -/
opaque gcmTag (key nonce : Nat) (aad ct : List Byte) : BitVec 128
/-- AES-256-GCM key stream byte, by key, nonce and position (R46). -/
opaque gcmStream (key nonce pos : Nat) : Byte
/-- SHA-384 (R367, R386, R389). -/
opaque sha384 (msg : List Byte) : BitVec 384
/-- HMAC-SHA-384 by key (R367, R380). -/
opaque hmac384 (key : Nat) (msg : List Byte) : BitVec 384
/-- HKDF with SHA-384: salt, input keying material, info (R367, R380). -/
opaque hkdf (salt ikm : Nat) (info : List Byte) : Nat
/-- HKDF-Extract with SHA-384: salt, input keying material (R380). -/
opaque hkdfExtract (salt ikm : Nat) : Nat
/-- HKDF-Expand with SHA-384: key, info (R380). -/
opaque hkdfExpand (prk : Nat) (info : List Byte) : Nat
/-- The device's ephemeral P-384 key and its ML-KEM ciphertext to a peer's key, of a handshake made with a random value (R379). -/
opaque ephPublic (secret : Nat) : BitVec 776
opaque kemCipher (secret peer : Nat) : BitVec 8704
/-- The signing public keys of a peer, by its DEVID (R382). -/
opaque peerPublic (devid : Nat) : Nat × Nat
/-- The key in an RFC 3394 wrapped blob, where the blob is sound (R370). -/
opaque rfc3394Open (key blob : Nat) : BitVec 256
/-- The battery voltage in mV as a tick finds it (R461), at a counter. -/
opaque batteryMv (free : Nat) : BitVec 12
/-- One ECDSA P-384 signature that verifies, by public key and message (R372, R380). -/
opaque ecdsaSig (pub : Nat) (msg : List Byte) : BitVec 768
/-- Whether another ECDSA P-384 signature verifies. -/
opaque ecdsaOther (pub : Nat) (msg : List Byte) (sig : Nat) : Bool
/-- One ML-DSA-65 signature that verifies, by public key and message. -/
opaque mldsaSig (pub : Nat) (msg : List Byte) : BitVec 26472
/-- Whether another ML-DSA-65 signature verifies. -/
opaque mldsaOther (pub : Nat) (msg : List Byte) (sig : Nat) : Bool
/-- ECDH P-384 and ML-KEM-768 shared secret of the device with a peer's message (R372, R380). -/
opaque kemSecret (priv : Nat) (peer : Nat) : Nat
/-- RFC 3394 wrap of a key under a key (R370): 40 bytes. -/
opaque rfc3394 (key plain : Nat) : BitVec 320
/-- The certificates that IDENTITY_READ returns, by WHICH, SVN and image measurement (R368): their first byte, and the rest. -/
opaque certHead (which svn : Nat) (mfw : List Byte) : Byte
opaque certRest (which svn : Nat) (mfw : List Byte) : List Byte
/-- Aqilafer's firmware public keys, fixed in the boot ROM (R416): ECDSA and ML-DSA. -/
opaque firmwareKey : Nat
/-- The root of the vault, which no path carries off the die (R364). -/
opaque rootSecret : Nat
/-- The boot ROM's measurement M_ROM (R376). -/
opaque mRom : BitVec 384
/-- The identity (ID) public key pair of the device, from its root (R367). -/
opaque idPublic (root : Nat) : BitVec 16392

/-- A 256-bit value from the vault TRNG or another value the manual leaves open, at a counter (R364, R368). -/
opaque freeValue : Nat → BitVec 256
/-- The back-EMF observer's rotor angle, in 1/1,024 of an electrical cycle (R238 gives no formula). -/
opaque rotorAngle (axis free : Nat) : BitVec 10
/-- The observer's speed of a panel, in micrometres a second (R244 gives no formula). -/
opaque observerSpeed (axis free : Nat) : Int
/-- The nominal time a car's brakes take to lift, in ns, which the predicted arrival counts (R172 gives no figure). -/
opaque liftTime (car : Nat) : Nat
/-- The brake switches of a car: bit 0 every switch reports applied, bit 1 every one lifted, at a counter (R170 names no
input for them). -/
opaque brakeSwitches (free : Nat) : BitVec 2
/-- The weighed load of a car: LOADKG and, in bit 16, LQ[0], at a counter (R187 names no input for it). -/
opaque loadCell (free : Nat) : BitVec 17
/-- The sine in binary64 (R195: IEEE 754 fixes no sine). -/
opaque sinF64 (x : F64) : F64
/-- The power in binary64 (R195, logarithmic chirp). -/
opaque powF64 (x y : F64) : F64
/-- The phase of a zero phasor, in 0.01 degree, and the power factor at zero apparent power, in 0.0001 (R326 states neither). -/
opaque zeroPhase : Int
opaque zeroPf : Int
/-- Whether an opening shorter than 20 ns trips (R265: always from 20 ns; below 5 ns it may be ignored). -/
opaque shortOpeningTrips (free : Nat) : Bool

/-- Whether a step of the periodic self-test fails, at a counter (R284: the step's outcome is the hardware's). -/
opaque testStepFails (free : Nat) : Bool
/-- DETAIL of a check report entry whose code-specific value no table gives (R60, R62), by code and node. -/
opaque checkDetail (code node : Nat) : BitVec 32
/-- Whether a module type and trunk protocol version is supported (0x2135: the manual lists none). -/
opaque moduleSupported (type pver : Nat) : Bool

/-- Bytes of the replication image a holder sends, and whether it holds changes back (R349, R350: what changed decides), at
a counter. -/
opaque imageSize (free : Nat) : Nat
opaque imageDefers (free : Nat) : Bool

end Sys2Proof.Config
end

