-- ==== Sys2Proof/Machine/Bytes.lean ====
section
/-! DEFINITION. Little-endian fields in payloads, records and sections (R7), two's complement, saturation, CRC-32. -/

namespace Sys2Proof.Machine

/-- `x` in `n` little-endian bytes (R7). -/
def le : Nat → Nat → List Byte
  | 0, _ => []
  | n + 1, x => BitVec.ofNat 8 x :: le n (x / 256)

/-- The number that little-endian bytes spell (R7). -/
def leNat : List Byte → Nat
  | [] => 0
  | b :: bs => b.toNat + 256 * leNat bs

/-- Field of `n` bytes at offset `o`; bytes beyond the end read as zero. -/
def rd (d : List Byte) (o n : Nat) : Nat := leNat ((d.drop o).take n)

/-- A number of `bits` bits read as two's complement (R9). -/
def signed (bits x : Nat) : Int :=
  if x % 2 ^ bits < 2 ^ (bits - 1) then (x % 2 ^ bits : Nat) else (x % 2 ^ bits : Nat) - (2 ^ bits : Int)

/-- Signed field of `n` bytes at offset `o`. -/
def rdS (d : List Byte) (o n : Nat) : Int := signed (8 * n) (rd d o n)

/-- A signed number in `n` bytes, two's complement. -/
def leS (n : Nat) (x : Int) : List Byte := le n (x % (2 ^ (8 * n) : Nat)).toNat

/-- `n` zero bytes: a reserved field (R8). -/
def zeros (n : Nat) : List Byte := List.replicate n 0

/-- A number limited to `n` bits, saturating. -/
def satN (bits x : Nat) : Nat := min x (2 ^ bits - 1)

/-- Saturation to a signed 32-bit value. -/
def satI32 (x : Int) : Int := max (-2147483648) (min 2147483647 x)

/-- A counter of `bits` bits that wraps (R431). -/
def wrapAdd (bits x k : Nat) : Nat := (x + k) % 2 ^ bits

/-- The bit vector of `n` bits a Boolean list spells, first element bit 0. -/
def bitsOf : List Bool → Nat
  | [] => 0
  | b :: bs => (if b then 1 else 0) + 2 * bitsOf bs

/-- A Boolean as a field value. -/
def b2n (b : Bool) : Nat := if b then 1 else 0

/-- Clear bits `m` of `x`. -/
def clearBits (x m : Nat) : Nat := x - (x &&& m)

/-- Pad with zero bytes to a multiple of four (R468). -/
def pad4 (d : List Byte) : List Byte := d ++ zeros ((4 - d.length % 4) % 4)

/-- One step of the reflected CRC-32. -/
def crcBit (c : Nat) : Nat := if c % 2 = 1 then (c / 2) ^^^ 0xEDB88320 else c / 2

/-- `n` steps of the reflected CRC-32. -/
def crcBits : Nat → Nat → Nat
  | 0, c => c
  | n + 1, c => crcBits n (crcBit c)

/-- CRC-32 register after the bytes. -/
def crcFold : Nat → List Byte → Nat
  | c, [] => c
  | c, b :: bs => crcFold (crcBits 8 (c ^^^ b.toNat)) bs

/-- CRC-32 with the IEEE 802.3 polynomial (R58, R329). -/
def crc32 (d : List Byte) : Nat := crcFold 0xFFFFFFFF d ^^^ 0xFFFFFFFF

end Sys2Proof.Machine
end

