-- ==== Sys2Proof/Machine/Num.lean ====
section
/-! DEFINITION. Exact arithmetic the spec's numbers rest on: binary64 and binary32 with round to nearest even (R182),
integer square root, rounding halves away from zero (R102), and a fixed-point sine for the door drive. -/

namespace Sys2Proof.Machine

/-- Integer square root, by bits. -/
def isqrtGo : Nat → Nat → Nat → Nat
  | 0, _, r => r
  | k + 1, n, r => isqrtGo k n (if (r + 2 ^ k) * (r + 2 ^ k) ≤ n then r + 2 ^ k else r)

/-- The greatest `r` with r² ≤ n. -/
def isqrt (n : Nat) : Nat := isqrtGo (n.log2 / 2 + 1) n 0

/-- Division rounded to nearest, halves away from zero (R102). The divisor is positive. -/
def divRound (a : Int) (b : Nat) : Int :=
  if a ≥ 0 then (2 * a + b) / (2 * b : Nat) else -((2 * (-a) + b) / (2 * b : Nat))

/-- Division rounded up, of naturals. -/
def ceilDiv (a b : Nat) : Nat := (a + b - 1) / b

/-- Signed division rounded towards zero by a positive divisor. -/
def tdiv (a : Int) (b : Nat) : Int := if a ≥ 0 then a / b else -((-a) / b)

/-- Sign of an integer. -/
def isign (a : Int) : Int := if a > 0 then 1 else if a < 0 then -1 else 0

/-- An IEEE 754 format: precision with the hidden bit, and exponent width. -/
structure FloatFmt where
  prec : Nat
  ew   : Nat
deriving DecidableEq, Repr

/-- binary64. -/
def f64Fmt : FloatFmt := ⟨53, 11⟩
/-- binary32. -/
def f32Fmt : FloatFmt := ⟨24, 8⟩

/-- Greatest exponent field. -/
def FloatFmt.emax (f : FloatFmt) : Nat := 2 ^ f.ew - 1
/-- Exponent of the least significant bit of a subnormal, negated: 1074 or 149. -/
def FloatFmt.qmin (f : FloatFmt) : Int := -((2 ^ (f.ew - 1) - 2 + (f.prec - 1) : Nat) : Int)

/-- What a word of a format stands for: not a number, an infinity, or ±m·2^e. -/
inductive FVal where
  | nan
  | inf (neg : Bool)
  | fin (neg : Bool) (m : Nat) (e : Int)
deriving DecidableEq, Repr

/-- Decode a word of a format. -/
def FloatFmt.decode (f : FloatFmt) (w : Nat) : FVal :=
  let fr := w % 2 ^ (f.prec - 1)
  let ex := w / 2 ^ (f.prec - 1) % 2 ^ f.ew
  let ng := w / 2 ^ (f.prec - 1 + f.ew) % 2 = 1
  if ex = f.emax then (if fr = 0 then .inf ng else .nan)
  else if ex = 0 then .fin ng fr f.qmin
  else .fin ng (2 ^ (f.prec - 1) + fr) (f.qmin + (ex - 1 : Nat))

/-- a / 2^d rounded to nearest even. -/
def rneShift (a d : Nat) : Nat :=
  let q := a / 2 ^ d
  let r := a % 2 ^ d
  if 2 * r > 2 ^ d ∨ (2 * r = 2 ^ d ∧ q % 2 = 1) then q + 1 else q

/-- Encode ±a·2^e in a format, rounding to nearest even. -/
def FloatFmt.round (f : FloatFmt) (ng : Bool) (a : Nat) (e : Int) : Nat :=
  let sgn := if ng then 2 ^ (f.prec - 1 + f.ew) else 0
  if a = 0 then sgn else
  let q := max (e + (a.log2 + 1 : Nat) - f.prec) f.qmin
  let m := if q ≤ e then a * 2 ^ (e - q).toNat else rneShift a (q - e).toNat
  let m' := if m = 2 ^ f.prec then 2 ^ (f.prec - 1) else m
  let q' := if m = 2 ^ f.prec then q + 1 else q
  if m' < 2 ^ (f.prec - 1) then sgn + m'
  else
    let ex := (q' - f.qmin).toNat + 1
    if ex ≥ f.emax then sgn + f.emax * 2 ^ (f.prec - 1) else sgn + ex * 2 ^ (f.prec - 1) + (m' - 2 ^ (f.prec - 1))

end Sys2Proof.Machine

namespace Sys2Proof
open Sys2Proof.Machine

/-- The quiet not-a-number word that operations answer. -/
def F64.nan : F64 := ⟨0x7FF8000000000000⟩

/-- Decode a binary64 word. -/
def F64.val (x : F64) : FVal := f64Fmt.decode x.bits.toNat
/-- Encode with rounding. -/
def F64.enc (ng : Bool) (a : Nat) (e : Int) : F64 := ⟨BitVec.ofNat 64 (f64Fmt.round ng a e)⟩
/-- A signed dyadic, rounded; an exact zero is +0. -/
def F64.ofDyadic (m e : Int) : F64 := F64.enc (m < 0) m.natAbs e
/-- An integer (R182: converted exactly within 53 bits). -/
def F64.ofInt (n : Int) : F64 := F64.ofDyadic n 0
/-- Infinity of a sign. -/
def F64.infOf (ng : Bool) : F64 := if ng then ⟨0xFFF0000000000000⟩ else ⟨0x7FF0000000000000⟩
/-- Negation flips the sign bit. -/
def F64.neg (x : F64) : F64 := ⟨x.bits ^^^ 0x8000000000000000⟩
/-- Magnitude. -/
def F64.abs (x : F64) : F64 := ⟨x.bits &&& 0x7FFFFFFFFFFFFFFF⟩
/-- A finite value as the signed dyadic it is; infinities and not-a-number read as zero. -/
def F64.dyadic (x : F64) : Int × Int :=
  match x.val with
  | .fin ng m e => (if ng then -(m : Int) else m, e)
  | _ => (0, 0)
/-- Widen a binary32 word exactly (R182). -/
def F64.ofF32 (w : Nat) : F64 :=
  match f32Fmt.decode w with
  | .nan => F64.nan
  | .inf ng => F64.infOf ng
  | .fin ng m e => F64.enc ng m e
/-- Round to a binary32 word. -/
def F64.toF32 (x : F64) : Nat :=
  match x.val with
  | .nan => 0x7FC00000
  | .inf ng => (if ng then 2 ^ 31 else 0) + 0x7F800000
  | .fin ng m e => f32Fmt.round ng m e

/-- Sum. -/
def F64.add (x y : F64) : F64 :=
  match x.val, y.val with
  | .nan, _ => F64.nan
  | _, .nan => F64.nan
  | .inf a, .inf b => if a = b then F64.infOf a else F64.nan
  | .inf a, _ => F64.infOf a
  | _, .inf b => F64.infOf b
  | .fin a m e, .fin b n d =>
    let q := min e d
    let u : Int := (if a then -(m : Int) else m) * 2 ^ (e - q).toNat
    let v : Int := (if b then -(n : Int) else n) * 2 ^ (d - q).toNat
    if u + v = 0 then F64.enc (a && b && decide (m = 0) && decide (n = 0)) 0 0 else F64.ofDyadic (u + v) q
/-- Difference. -/
def F64.sub (x y : F64) : F64 := x.add y.neg
/-- Product. -/
def F64.mul (x y : F64) : F64 :=
  match x.val, y.val with
  | .nan, _ => F64.nan
  | _, .nan => F64.nan
  | .inf a, .inf b => F64.infOf (a != b)
  | .inf a, .fin b n _ => if n = 0 then F64.nan else F64.infOf (a != b)
  | .fin a m _, .inf b => if m = 0 then F64.nan else F64.infOf (a != b)
  | .fin a m e, .fin b n d => F64.enc (a != b) (m * n) (e + d)
/-- Quotient. -/
def F64.div (x y : F64) : F64 :=
  match x.val, y.val with
  | .nan, _ => F64.nan
  | _, .nan => F64.nan
  | .inf _, .inf _ => F64.nan
  | .inf a, .fin b _ _ => F64.infOf (a != b)
  | .fin a _ _, .inf b => F64.enc (a != b) 0 0
  | .fin a m e, .fin b n d =>
    if n = 0 then (if m = 0 then F64.nan else F64.infOf (a != b)) else
    let k := 64 + n.log2
    let w := m * 2 ^ k
    F64.enc (a != b) (2 * (w / n) + (if w % n = 0 then 0 else 1)) (e - d - k - 1)

/-- Order: x < y, false when either is not a number. -/
def F64.lt (x y : F64) : Bool :=
  match x.val, y.val with
  | .nan, _ => false
  | _, .nan => false
  | .inf a, .inf b => a && !b
  | .inf a, _ => a
  | _, .inf b => !b
  | .fin a m e, .fin b n d =>
    let q := min e d
    let u : Int := (if a then -(m : Int) else m) * 2 ^ (e - q).toNat
    let v : Int := (if b then -(n : Int) else n) * 2 ^ (d - q).toNat
    decide (u < v)
/-- Whether the word is a number. -/
def F64.isNum (x : F64) : Bool := x.val != .nan
/-- x ≤ y, false when either is not a number. -/
def F64.le (x y : F64) : Bool := x.isNum && y.isNum && !(y.lt x)
/-- Equality of values (±0 are equal). -/
def F64.eq (x y : F64) : Bool := x.le y && y.le x
/-- Zero test. -/
def F64.isZero (x : F64) : Bool := x.abs.bits == 0
/-- clamp(x, lo, hi) of R184. -/
def F64.clamp (x lo hi : F64) : F64 := if x.lt lo then lo else if hi.lt x then hi else x
/-- Rounded to the nearest whole unit, halves away from zero, saturating at signed 32 bits (R182). -/
def F64.toI32 (x : F64) : Int :=
  match x.val with
  | .nan => 0
  | .inf ng => if ng then -2147483648 else 2147483647
  | .fin ng m e =>
    let r : Int := if e ≥ 0 then (m * 2 ^ e.toNat : Nat) else divRound m (2 ^ (-e).toNat)
    satI32 (if ng then -r else r)
/-- Finite test. -/
def F64.isFinite (x : F64) : Bool :=
  match x.val with
  | .fin _ _ _ => true
  | _ => false

end Sys2Proof

namespace Sys2Proof.Machine

/-- Taylor terms of the sine in Q40: Σ (−1)^k x^(2k+1)/(2k+1)!. -/
def sinTerms : Nat → Nat → Int → Int → Int → Int
  | 0, _, _, _, acc => acc
  | f + 1, k, x2, term, acc => sinTerms f (k + 1) x2 (-(term * x2) / 2 ^ 40 / ((2 * k + 2) * (2 * k + 3) : Nat)) (acc + term)

/-- sin(2πn/1,024) in Q30 for 0 ≤ n ≤ 256 (log 12: fixed-point Taylor, error below 2^-28). -/
def sinQuarter (n : Nat) : Int :=
  let x : Int := (3454217652358 * (2 * n) / 1024 : Nat)
  sinTerms 12 0 (x * x / 2 ^ 40) x 0 / 1024

/-- sin(2πn/1,024) in Q30 (log 12). -/
def sin1024 (n : Int) : Int :=
  let k := (n % 1024).toNat
  if k ≤ 256 then sinQuarter k
  else if k ≤ 512 then sinQuarter (512 - k)
  else if k ≤ 768 then -(sinQuarter (k - 512))
  else -(sinQuarter (1024 - k))

/-- sin(2πn/d) in Q30 (log 12). -/
def sinFrac (n d : Nat) : Int :=
  let k := n % d
  let q (num : Nat) : Int := let x : Int := (3454217652358 * num / d : Nat); sinTerms 12 0 (x * x / 2 ^ 40) x 0 / 1024
  if 4 * k ≤ d then q (2 * k)
  else if 2 * k ≤ d then q (d - 2 * k)
  else if 4 * k ≤ 3 * d then -(q (2 * k - d))
  else -(q (2 * d - 2 * k))

/-- cos(2πn/d) in Q30. -/
def cosFrac (n d : Nat) : Int := sinFrac (4 * n + d) (4 * d)

/-- Hundredths of a degree, 0 to 9,000, nearest to the angle of a point of the first quadrant. -/
def quadGo (re im : Int) : Nat → Nat → Nat → Nat
  | 0, lo, _ => lo
  | f + 1, lo, hi =>
    if hi ≤ lo then lo
    else
      let m := (lo + hi + 1) / 2
      if re * sinFrac (2 * m - 1) 72000 ≤ im * cosFrac (2 * m - 1) 72000 then quadGo re im f m hi else quadGo re im f lo (m - 1)

/-- The angle of a phasor in 0.01 degree, −18,000 to 18,000. -/
def angleOf (re im : Int) : Int :=
  let a : Int := quadGo re.natAbs im.natAbs 15 0 9000
  let b := if re < 0 then 18000 - a else a
  if im < 0 then -b else b

/-- cos(2πn/1,024) in Q30. -/
def cos1024 (n : Int) : Int := sin1024 (n + 256)

end Sys2Proof.Machine
end

