-- ==== Sys2Proof/Machine/Sections.lean ====
section
/-! DEFINITION. The configuration sections: record sizes, roles, field ranges that CONFIG_WRITE checks (R98, with the
limits of R465 left to the enable check), defaults, and one accessor per field, under the manual's field names. A
record is its bytes. -/

namespace Sys2Proof.Machine

/-- A field of a section record: offset, size in bytes, signed, and the range CONFIG_WRITE checks. -/
structure Fld where
  off : Nat
  sz  : Nat
  sgn : Bool
  lo  : Int
  hi  : Int
deriving DecidableEq, Repr

/-- A section: identifier, role (1 LANE, 2 CAR, 3 both), record size, whether it holds one record, its fields. -/
structure SecDef where
  id   : Nat
  role : Nat
  size : Nat
  one  : Bool
  flds : List Fld
deriving DecidableEq, Repr

namespace Cfg


/-! Section 0x0001, 17 R427. -/

def Start.SFLG (r : List Byte) : Nat := rd r 0 1
def Start.INSPUP (r : List Byte) : Nat := rd r 1 1
def Start.INSPDN (r : List Byte) : Nat := rd r 2 1
def Start.INSPRUN (r : List Byte) : Nat := rd r 3 1
def Start.IDLET (r : List Byte) : Nat := rd r 4 2
def Start.WAKECAN (r : List Byte) : Nat := rd r 6 1
def Start.WAKEFI (r : List Byte) : Nat := rd r 8 8
def Start.WAKEETH (r : List Byte) : Nat := rd r 16 1
/-- Defaults of section 0x0001; fields without one read zero (log 1). -/
def Start.dflt : List Byte := [0, 255, 255, 255, 60] ++ zeros 11 ++ [15] ++ zeros 7
def Start.sec : SecDef := ⟨0x0001, 3, 24, true, [⟨4, 2, false, 10, 3600⟩]⟩

/-! Section 0x0002, 01 R19. -/

def Points.sec : SecDef := ⟨0x0002, 3, 8, false, []⟩

/-! Section 0x0200, 04 R97. -/

def Lane.LANE (r : List Byte) : Nat := rd r 0 1
def Lane.DIR (r : List Byte) : Nat := rd r 1 1
def Lane.NLAND (r : List Byte) : Nat := rd r 2 2
def Lane.LEN (r : List Byte) : Nat := rd r 4 4
def Lane.LIMLO (r : List Byte) : Int := rdS r 8 4
def Lane.LIMHI (r : List Byte) : Int := rdS r 12 4
def Lane.XLO (r : List Byte) : Nat := rd r 16 1
def Lane.XHI (r : List Byte) : Nat := rd r 17 1
def Lane.sec : SecDef := ⟨0x0200, 1, 24, false, [⟨0, 1, false, 0, 3⟩, ⟨1, 1, false, 0, 1⟩, ⟨2, 2, false, 1, 320⟩, ⟨8, 4, true, 0, 2147483647⟩, ⟨16, 1, false, 0, 7⟩, ⟨17, 1, false, 0, 7⟩]⟩

/-! Section 0x0201, 04 R97. -/

def Xing.XING (r : List Byte) : Nat := rd r 0 1
def Xing.FROMLANE (r : List Byte) : Nat := rd r 1 1
def Xing.TOLANE (r : List Byte) : Nat := rd r 2 1
def Xing.ENDS (r : List Byte) : Nat := rd r 3 1
def Xing.TRAVEL (r : List Byte) : Nat := rd r 4 4
def Xing.FROMJOIN (r : List Byte) : Int := rdS r 8 4
def Xing.TOJOIN (r : List Byte) : Int := rdS r 12 4
def Xing.VALIGN (r : List Byte) : Nat := rd r 16 4
def Xing.sec : SecDef := ⟨0x0201, 1, 24, false, [⟨0, 1, false, 0, 7⟩, ⟨1, 1, false, 0, 3⟩, ⟨2, 1, false, 0, 3⟩, ⟨16, 4, false, 100, 50000⟩]⟩

/-! Section 0x0202, 04 R97. -/

def Landings.sec : SecDef := ⟨0x0202, 1, 4, false, []⟩

/-! Section 0x0203, 04 R97. -/

def Block.BLOCK (r : List Byte) : Nat := rd r 0 2
def Block.ELEM (r : List Byte) : Nat := rd r 2 1
def Block.START (r : List Byte) : Int := rdS r 4 4
def Block.END (r : List Byte) : Int := rdS r 8 4
def Block.sec : SecDef := ⟨0x0203, 1, 12, false, [⟨0, 2, false, 0, 8191⟩]⟩

/-! Section 0x0204, 04 R97. -/

def Segment.SEG (r : List Byte) : Nat := rd r 0 2
def Segment.ELEM (r : List Byte) : Nat := rd r 2 1
def Segment.TRUNK (r : List Byte) : Nat := rd r 3 1
def Segment.START (r : List Byte) : Int := rdS r 4 4
def Segment.END (r : List Byte) : Int := rdS r 8 4
def Segment.ADDR (r : List Byte) : Nat := rd r 12 2
def Segment.POLE (r : List Byte) : Nat := rd r 14 2
def Segment.sec : SecDef := ⟨0x0204, 1, 16, false, [⟨0, 2, false, 0, 6143⟩, ⟨3, 1, false, 0, 11⟩, ⟨14, 2, false, 100, 20000⟩]⟩

/-! Section 0x0205, 04 R97. -/

def Waymark.WM (r : List Byte) : Nat := rd r 0 2
def Waymark.ELEM (r : List Byte) : Nat := rd r 2 1
def Waymark.SRCK (r : List Byte) : Nat := rd r 3 1
def Waymark.SRC (r : List Byte) : Nat := rd r 4 4
def Waymark.NOM (r : List Byte) : Int := rdS r 8 4
def Waymark.VANE (r : List Byte) : Nat := rd r 12 4
def Waymark.LAT (r : List Byte) : Nat := rd r 16 4
def Waymark.sec : SecDef := ⟨0x0205, 1, 20, false, [⟨0, 2, false, 0, 2047⟩, ⟨3, 1, false, 0, 1⟩, ⟨12, 4, false, 10000, 500000⟩]⟩

/-! Section 0x0206, 04 R97. -/

def CarPos.CAR (r : List Byte) : Nat := rd r 0 1
def CarPos.EXTUP (r : List Byte) : Nat := rd r 4 4
def CarPos.EXTDN (r : List Byte) : Nat := rd r 8 4
def CarPos.WMOFF (r : List Byte) : Int := rdS r 12 4
def CarPos.DWTAPE (r : List Byte) : Nat := rd r 16 4
def CarPos.DWBEMF (r : List Byte) : Nat := rd r 20 4
def CarPos.DWWAY (r : List Byte) : Nat := rd r 24 4
def CarPos.TAPEAGE (r : List Byte) : Nat := rd r 28 4
def CarPos.ALPHAT (r : List Byte) : Nat := rd r 32 2
def CarPos.BETAT (r : List Byte) : Nat := rd r 34 2
def CarPos.ALPHAB (r : List Byte) : Nat := rd r 36 2
def CarPos.BETAB (r : List Byte) : Nat := rd r 38 2
def CarPos.ALPHAW (r : List Byte) : Nat := rd r 40 2
def CarPos.BEMFMIN (r : List Byte) : Nat := rd r 42 2
def CarPos.HALFW (r : List Byte) : Nat := rd r 44 2
def CarPos.COARSEWIN (r : List Byte) : Nat := rd r 46 2
/-- Defaults of section 0x0206; fields without one read zero (log 1). -/
def CarPos.dflt : List Byte := zeros 16 ++ [208, 7, 0, 0, 136, 19, 0, 0, 184, 11, 0, 0, 128, 132, 30, 0, 0, 32, 0, 2, 0, 16, 0, 1, 0, 128, 200] ++ zeros 3 ++ [50, 0]
def CarPos.sec : SecDef := ⟨0x0206, 3, 48, false, [⟨0, 1, false, 0, 23⟩, ⟨28, 4, false, 250000, 8000000⟩]⟩

/-! Section 0x0207, 04 R97. -/

def Tape.ELEM (r : List Byte) : Nat := rd r 0 1
def Tape.SCALE (r : List Byte) : Int := rdS r 4 4
def Tape.OFFSET (r : List Byte) : Int := rdS r 8 4
def Tape.TAPELAT (r : List Byte) : Nat := rd r 12 4
def Tape.sec : SecDef := ⟨0x0207, 3, 16, false, []⟩

/-! Section 0x0300, 05 R141. -/

def CarMotion.CAR (r : List Byte) : Nat := rd r 0 1
def CarMotion.PROF (r : List Byte) : Nat := rd r 1 1
def CarMotion.VLANE (r : List Byte) : Nat := rd r 4 4
def CarMotion.VXING (r : List Byte) : Nat := rd r 8 4
def CarMotion.AMAX (r : List Byte) : Nat := rd r 12 4
def CarMotion.JMAX (r : List Byte) : Nat := rd r 16 4
def CarMotion.QAMAX (r : List Byte) : Nat := rd r 20 4
def CarMotion.QJMAX (r : List Byte) : Nat := rd r 24 4
def CarMotion.REVSPEED (r : List Byte) : Nat := rd r 28 4
def CarMotion.BRAKEDEC (r : List Byte) : Nat := rd r 32 4
/-- Defaults of section 0x0300; fields without one read zero (log 1). -/
def CarMotion.dflt : List Byte := zeros 4 ++ [128, 150, 152, 0, 64, 66, 15, 0, 128, 79, 18, 0, 96, 227, 22, 0, 128, 132, 30, 0, 0, 9, 61, 0, 32, 161, 7, 0, 192, 198, 45, 0]
def CarMotion.sec : SecDef := ⟨0x0300, 1, 36, false, [⟨0, 1, false, 0, 23⟩, ⟨4, 4, false, 1, 4294967295⟩, ⟨8, 4, false, 1, 4294967295⟩, ⟨12, 4, false, 1, 4294967295⟩, ⟨16, 4, false, 1, 4294967295⟩, ⟨20, 4, false, 1, 4294967295⟩, ⟨24, 4, false, 1, 4294967295⟩, ⟨28, 4, false, 1, 1000000⟩, ⟨32, 4, false, 1000000, 10000000⟩]⟩

/-! Section 0x0301, 05 R141. -/

def AxisMotion.AXIS (r : List Byte) : Nat := rd r 0 1
def AxisMotion.PROF (r : List Byte) : Nat := rd r 1 1
def AxisMotion.MSPMM (r : List Byte) : Nat := rd r 2 2
def AxisMotion.VMAX (r : List Byte) : Nat := rd r 4 4
def AxisMotion.AMAX (r : List Byte) : Nat := rd r 8 4
def AxisMotion.JMAX (r : List Byte) : Nat := rd r 12 4
/-- Defaults of section 0x0301; fields without one read zero (log 1). -/
def AxisMotion.dflt : List Byte := zeros 20
def AxisMotion.sec : SecDef := ⟨0x0301, 2, 20, false, [⟨0, 1, false, 0, 3⟩, ⟨2, 2, false, 1, 65535⟩, ⟨4, 4, false, 1, 2000000⟩, ⟨8, 4, false, 1, 20000000⟩, ⟨12, 4, false, 1, 400000000⟩]⟩

/-! Section 0x0302, 05 R141. -/

def StepIn.AXIS (r : List Byte) : Nat := rd r 0 1
def StepIn.SRCK (r : List Byte) : Nat := rd r 1 1
def StepIn.STEPDIV (r : List Byte) : Nat := rd r 2 2
def StepIn.STEP (r : List Byte) : Nat := rd r 4 4
def StepIn.DIR (r : List Byte) : Nat := rd r 8 4
def StepIn.sec : SecDef := ⟨0x0302, 2, 12, false, [⟨0, 1, false, 0, 3⟩, ⟨1, 1, false, 0, 2⟩, ⟨2, 2, false, 1, 256⟩]⟩

/-! Section 0x0310, 06 R176. -/

def TrunkCfg.TRUNK (r : List Byte) : Nat := rd r 0 1
def TrunkCfg.EN (r : List Byte) : Nat := rd r 1 1
def TrunkCfg.VDCMIN (r : List Byte) : Nat := rd r 2 2
def TrunkCfg.FMAX (r : List Byte) : Nat := rd r 4 4
/-- Defaults of section 0x0310; fields without one read zero (log 1). -/
def TrunkCfg.dflt : List Byte := [0, 0, 144, 1] ++ zeros 12
def TrunkCfg.sec : SecDef := ⟨0x0310, 1, 16, false, [⟨0, 1, false, 0, 11⟩, ⟨1, 1, false, 0, 1⟩, ⟨4, 4, false, 1, 200000⟩]⟩

/-! Section 0x0311, 06 R176. -/

def CarProp.CAR (r : List Byte) : Nat := rd r 0 1
def CarProp.MAGLO (r : List Byte) : Int := rdS r 4 4
def CarProp.MAGHI (r : List Byte) : Int := rdS r 8 4
def CarProp.BLENDW (r : List Byte) : Nat := rd r 12 4
def CarProp.ARMDIST (r : List Byte) : Nat := rd r 16 4
def CarProp.MINCOVER (r : List Byte) : Nat := rd r 20 2
def CarProp.HOLDRAMP (r : List Byte) : Nat := rd r 22 2
def CarProp.HOLDTOL (r : List Byte) : Nat := rd r 24 2
def CarProp.BRKLIFT (r : List Byte) : Nat := rd r 26 2
def CarProp.BRKENG (r : List Byte) : Nat := rd r 28 2
/-- Defaults of section 0x0311; fields without one read zero (log 1). -/
def CarProp.dflt : List Byte := zeros 12 ++ [160, 134, 1, 0, 144, 208, 3, 0, 0, 192, 16, 0, 154, 25, 44, 1, 30] ++ zeros 3
def CarProp.sec : SecDef := ⟨0x0311, 1, 32, false, [⟨0, 1, false, 0, 23⟩, ⟨12, 4, false, 1000, 4294967295⟩, ⟨16, 4, false, 0, 2000000⟩, ⟨22, 2, false, 4, 255⟩, ⟨26, 2, false, 10, 2000⟩, ⟨28, 2, false, 1, 500⟩]⟩

/-! Section 0x0312, 06 R176. -/

def CarBrake.HOLDTO (r : List Byte) : Nat := rd r 0 1
/-- Defaults of section 0x0312; fields without one read zero (log 1). -/
def CarBrake.dflt : List Byte := [3] ++ zeros 3
def CarBrake.sec : SecDef := ⟨0x0312, 2, 4, true, [⟨0, 1, false, 3, 24⟩]⟩

/-! Section 0x0400, 07 R202. -/

def Channel.CH (r : List Byte) : Nat := rd r 0 1
def Channel.RATE (r : List Byte) : Nat := rd r 1 1
def Channel.REFSEL (r : List Byte) : Nat := rd r 2 1
def Channel.FBSEL (r : List Byte) : Nat := rd r 3 1
def Channel.NODE (r : List Byte) : Nat := rd r 4 4
def Channel.DEST (r : List Byte) : Nat := rd r 8 1
def Channel.FFMODE (r : List Byte) : Nat := rd r 9 1
def Channel.SUPSEL (r : List Byte) : Nat := rd r 10 1
def Channel.MODEL (r : List Byte) : Nat := rd r 11 1
def Channel.REFARG (r : List Byte) : Nat := rd r 12 4
def Channel.FBARG (r : List Byte) : Nat := rd r 16 4
def Channel.DESTARG (r : List Byte) : Nat := rd r 20 4
def Channel.OLO (r : List Byte) : Nat := rd r 24 4
def Channel.OHI (r : List Byte) : Nat := rd r 28 4
def Channel.SATLIM (r : List Byte) : Nat := rd r 32 2
def Channel.SATDEC (r : List Byte) : Nat := rd r 34 2
def Channel.PLAUSWIN (r : List Byte) : Nat := rd r 36 4
def Channel.PLAUSN (r : List Byte) : Nat := rd r 40 2
def Channel.LMOD (r : List Byte) : Nat := rd r 42 2
def Channel.INJMAX (r : List Byte) : Nat := rd r 44 4
def Channel.KMOD (r : List Byte) : Nat := rd r 48 4
def Channel.PMOD (r : List Byte) : Nat := rd r 52 4
def Channel.REFK (r : List Byte) : Nat := rd r 56 4
/-- Defaults of section 0x0400; fields without one read zero (log 1). -/
def Channel.dflt : List Byte := zeros 10 ++ [3] ++ zeros 21 ++ [32, 3, 1] ++ zeros 5 ++ [16, 0, 154, 25] ++ zeros 20
def Channel.sec : SecDef := ⟨0x0400, 3, 64, false, [⟨0, 1, false, 0, 95⟩, ⟨1, 1, false, 0, 1⟩, ⟨2, 1, false, 0, 4⟩, ⟨3, 1, false, 0, 3⟩, ⟨8, 1, false, 0, 5⟩, ⟨9, 1, false, 0, 2⟩, ⟨11, 1, false, 0, 2⟩, ⟨32, 2, false, 1, 65535⟩, ⟨34, 2, false, 0, 65535⟩, ⟨40, 2, false, 1, 65535⟩, ⟨42, 2, false, 1, 65535⟩]⟩

/-! Section 0x0401, 07 R202. -/

def Bank.CH (r : List Byte) : Nat := rd r 0 1
def Bank.BANK (r : List Byte) : Nat := rd r 1 1
def Bank.FORM (r : List Byte) : Nat := rd r 2 1
def Bank.NEN (r : List Byte) : Nat := rd r 3 1
def Bank.KI (r : List Byte) : Nat := rd r 72 4
def Bank.ILO (r : List Byte) : Nat := rd r 76 4
def Bank.IHI (r : List Byte) : Nat := rd r 80 4
def Bank.KM (r : List Byte) : Nat := rd r 84 4
def Bank.KV (r : List Byte) : Nat := rd r 88 4
def Bank.KB (r : List Byte) : Nat := rd r 92 4
def Bank.BUMPT (r : List Byte) : Nat := rd r 96 2
def Bank.INTFRZ (r : List Byte) : Nat := rd r 98 1
def Bank.sec : SecDef := ⟨0x0401, 3, 104, false, [⟨0, 1, false, 0, 95⟩, ⟨1, 1, false, 0, 1⟩, ⟨2, 1, false, 2, 3⟩, ⟨98, 1, false, 0, 1⟩]⟩

/-! Section 0x0402, 07 R202. -/

def CarMass.CAR (r : List Byte) : Nat := rd r 0 1
def CarMass.MCAR (r : List Byte) : Nat := rd r 4 4
def CarMass.LOADDEF (r : List Byte) : Nat := rd r 8 2
def CarMass.GLOC (r : List Byte) : Nat := rd r 12 4
/-- Defaults of section 0x0402; fields without one read zero (log 1). -/
def CarMass.dflt : List Byte := zeros 12 ++ [58, 163, 149, 0]
def CarMass.sec : SecDef := ⟨0x0402, 1, 16, false, [⟨0, 1, false, 0, 23⟩, ⟨4, 4, false, 100, 20000⟩, ⟨8, 2, false, 0, 10000⟩, ⟨12, 4, false, 9760000, 9840000⟩]⟩

/-! Section 0x0500, 08 R230. -/

def Authority.TAILMARGIN (r : List Byte) : Nat := rd r 0 4
def Authority.LOOKMARGIN (r : List Byte) : Nat := rd r 4 4
def Authority.MAXCHAIN (r : List Byte) : Nat := rd r 8 2
def Authority.DWELLMAX (r : List Byte) : Nat := rd r 10 2
/-- Defaults of section 0x0500; fields without one read zero (log 1). -/
def Authority.dflt : List Byte := [32, 161, 7, 0, 128, 132, 30, 0, 64, 0, 60] ++ zeros 5
def Authority.sec : SecDef := ⟨0x0500, 1, 16, true, [⟨4, 4, false, 0, 20000000⟩, ⟨8, 2, false, 8, 1024⟩, ⟨10, 2, false, 5, 600⟩]⟩

/-! Section 0x0501, 08 R230. -/

def BlockAuth.BLOCK (r : List Byte) : Nat := rd r 0 2
def BlockAuth.RANK (r : List Byte) : Nat := rd r 2 2
def BlockAuth.THRU (r : List Byte) : Nat := rd r 4 2
def BlockAuth.AGING (r : List Byte) : Nat := rd r 6 2
def BlockAuth.sec : SecDef := ⟨0x0501, 1, 8, false, [⟨0, 2, false, 0, 8191⟩, ⟨2, 2, false, 0, 8191⟩]⟩

/-! Section 0x0502, 08 R230. -/

def Floor.FLOOR (r : List Byte) : Nat := rd r 0 2
def Floor.LAND0 (r : List Byte) : Nat := rd r 4 2
def Floor.LAND1 (r : List Byte) : Nat := rd r 6 2
def Floor.LAND2 (r : List Byte) : Nat := rd r 8 2
def Floor.LAND3 (r : List Byte) : Nat := rd r 10 2
def Floor.sec : SecDef := ⟨0x0502, 1, 12, false, [⟨0, 2, false, 0, 1023⟩]⟩

/-! Section 0x0503, 08 R230. -/

def Source.SRC (r : List Byte) : Nat := rd r 0 1
def Source.KIND (r : List Byte) : Nat := rd r 1 1
def Source.CHAN (r : List Byte) : Nat := rd r 2 1
def Source.SFLG (r : List Byte) : Nat := rd r 3 1
def Source.ID (r : List Byte) : Nat := rd r 4 4
def Source.ANSID (r : List Byte) : Nat := rd r 8 4
def Source.FLOOR (r : List Byte) : Nat := rd r 12 2
def Source.RATE (r : List Byte) : Nat := rd r 14 2
def Source.BURST (r : List Byte) : Nat := rd r 16 1
def Source.SRCPEND (r : List Byte) : Nat := rd r 17 1
def Source.sec : SecDef := ⟨0x0503, 1, 24, false, [⟨0, 1, false, 1, 255⟩, ⟨1, 1, false, 0, 1⟩, ⟨2, 1, false, 0, 5⟩, ⟨14, 2, false, 0, 600⟩, ⟨16, 1, false, 1, 32⟩, ⟨17, 1, false, 1, 64⟩]⟩

/-! Section 0x0504, 08 R230. -/

def DispParam.WW (r : List Byte) : Nat := rd r 0 2
def DispParam.WR (r : List Byte) : Nat := rd r 2 2
def DispParam.WE (r : List Byte) : Nat := rd r 4 2
def DispParam.WC (r : List Byte) : Nat := rd r 6 2
def DispParam.REASSMAX (r : List Byte) : Nat := rd r 8 1
def DispParam.REGEN (r : List Byte) : Nat := rd r 10 2
def DispParam.REASSGAIN (r : List Byte) : Nat := rd r 12 4
def DispParam.DWELLBASE (r : List Byte) : Nat := rd r 16 2
def DispParam.PAXT (r : List Byte) : Nat := rd r 18 2
def DispParam.DUPWIN (r : List Byte) : Nat := rd r 20 2
def DispParam.REEVAL (r : List Byte) : Nat := rd r 22 2
/-- Defaults of section 0x0504; fields without one read zero (log 1). -/
def DispParam.dflt : List Byte := [4, 0, 1, 0, 1, 0, 2, 0, 2] ++ zeros 3 ++ [32, 78, 0, 0, 112, 23, 32, 3, 232, 3, 232, 3] ++ zeros 8
def DispParam.sec : SecDef := ⟨0x0504, 1, 32, true, [⟨16, 2, false, 1000, 60000⟩, ⟨18, 2, false, 0, 5000⟩, ⟨20, 2, false, 0, 10000⟩, ⟨22, 2, false, 100, 10000⟩]⟩

/-! Section 0x0505, 08 R230. -/

def CarDisp.CAR (r : List Byte) : Nat := rd r 0 1
def CarDisp.CAPPAX (r : List Byte) : Nat := rd r 1 1
def CarDisp.CFL (r : List Byte) : Nat := rd r 2 1
def CarDisp.PARKFLOOR (r : List Byte) : Nat := rd r 4 2
def CarDisp.sec : SecDef := ⟨0x0505, 1, 8, false, [⟨0, 1, false, 0, 23⟩, ⟨1, 1, false, 1, 80⟩]⟩

/-! Section 0x0600, 09 R260. -/

def DoorAxis.AXIS (r : List Byte) : Nat := rd r 0 1
def DoorAxis.CLSW (r : List Byte) : Nat := rd r 1 1
def DoorAxis.CLFLG (r : List Byte) : Nat := rd r 2 1
def DoorAxis.STROKE (r : List Byte) : Nat := rd r 4 4
def DoorAxis.PANELKG (r : List Byte) : Nat := rd r 8 2
def DoorAxis.LANDKG (r : List Byte) : Nat := rd r 10 2
def DoorAxis.KF (r : List Byte) : Nat := rd r 12 2
def DoorAxis.RCOIL (r : List Byte) : Nat := rd r 14 2
def DoorAxis.LCOIL (r : List Byte) : Nat := rd r 16 2
def DoorAxis.KEMF (r : List Byte) : Nat := rd r 18 2
def DoorAxis.VDRV (r : List Byte) : Nat := rd r 20 2
def DoorAxis.IMAX (r : List Byte) : Nat := rd r 22 2
def DoorAxis.IHOLD (r : List Byte) : Nat := rd r 24 2
def DoorAxis.IOBS (r : List Byte) : Nat := rd r 26 2
def DoorAxis.OBSN (r : List Byte) : Nat := rd r 28 1
def DoorAxis.REGERR (r : List Byte) : Nat := rd r 30 2
def DoorAxis.VSUP (r : List Byte) : Nat := rd r 32 4
def DoorAxis.VSDN (r : List Byte) : Nat := rd r 36 4
def DoorAxis.TOFF (r : List Byte) : Nat := rd r 40 2
def DoorAxis.TFAST (r : List Byte) : Nat := rd r 42 2
def DoorAxis.CLWIN (r : List Byte) : Nat := rd r 44 2
def DoorAxis.HOMEV (r : List Byte) : Nat := rd r 46 2
/-- Defaults of section 0x0600; fields without one read zero (log 1). -/
def DoorAxis.dflt : List Byte := zeros 20 ++ [240] ++ zeros 7 ++ [2] ++ zeros 11 ++ [200, 0, 50, 0, 244, 1, 30, 0]
def DoorAxis.sec : SecDef := ⟨0x0600, 2, 48, false, [⟨0, 1, false, 0, 3⟩, ⟨4, 4, false, 50000, 2000000⟩, ⟨8, 2, false, 0, 2000⟩, ⟨10, 2, false, 0, 2000⟩, ⟨12, 2, false, 1, 1000⟩, ⟨14, 2, false, 100, 50000⟩, ⟨16, 2, false, 1, 10000⟩, ⟨18, 2, false, 1, 60000⟩, ⟨20, 2, false, 120, 600⟩, ⟨22, 2, false, 100, 8000⟩, ⟨28, 1, false, 1, 16⟩, ⟨30, 2, false, 10, 8000⟩, ⟨40, 2, false, 10, 500⟩, ⟨44, 2, false, 100, 5000⟩, ⟨46, 2, false, 5, 100⟩]⟩

/-! Section 0x0601, 09 R260. -/

def DoorCfg.DOOR (r : List Byte) : Nat := rd r 0 1
def DoorCfg.MEMBERS (r : List Byte) : Nat := rd r 1 1
def DoorCfg.FLIM (r : List Byte) : Nat := rd r 2 2
def DoorCfg.KELIM (r : List Byte) : Nat := rd r 4 2
def DoorCfg.FOBS (r : List Byte) : Nat := rd r 6 2
def DoorCfg.OBSA (r : List Byte) : Nat := rd r 8 4
def DoorCfg.LCIN (r : List Byte) : Nat := rd r 12 1
def DoorCfg.NUDGEN (r : List Byte) : Nat := rd r 13 1
def DoorCfg.NUDGEQ (r : List Byte) : Nat := rd r 14 1
def DoorCfg.NUDGEV (r : List Byte) : Nat := rd r 16 4
def DoorCfg.REDWELL (r : List Byte) : Nat := rd r 20 2
def DoorCfg.LCHOLD (r : List Byte) : Nat := rd r 22 2
def DoorCfg.CLTIME (r : List Byte) : Nat := rd r 24 2
/-- Defaults of section 0x0601; fields without one read zero (log 1). -/
def DoorCfg.dflt : List Byte := [0, 0, 150, 0, 16, 39, 120, 0, 0, 45, 49, 1, 255, 3, 255, 0, 160, 134, 1, 0, 184, 11, 20, 0, 244, 1, 0, 0]
def DoorCfg.sec : SecDef := ⟨0x0601, 2, 28, false, [⟨0, 1, false, 0, 7⟩, ⟨2, 2, false, 1, 65535⟩, ⟨4, 2, false, 1, 65535⟩, ⟨6, 2, false, 1, 65535⟩, ⟨8, 4, false, 1000000, 20000000⟩, ⟨13, 1, false, 0, 15⟩, ⟨16, 4, false, 10000, 4294967295⟩, ⟨20, 2, false, 500, 30000⟩, ⟨22, 2, false, 5, 300⟩, ⟨24, 2, false, 100, 2000⟩]⟩

/-! Section 0x0700, 10 R263. -/

def SafePair.PAIR (r : List Byte) : Nat := rd r 0 1
def SafePair.FUNC (r : List Byte) : Nat := rd r 1 1
def SafePair.CHA (r : List Byte) : Nat := rd r 2 1
def SafePair.CHB (r : List Byte) : Nat := rd r 3 1
def SafePair.MODE (r : List Byte) : Nat := rd r 4 1
def SafePair.LANE (r : List Byte) : Nat := rd r 5 1
def SafePair.DISCT (r : List Byte) : Nat := rd r 6 2
/-- Defaults of section 0x0700; fields without one read zero (log 1). -/
def SafePair.dflt : List Byte := [0, 0, 255, 255, 0, 0, 20] ++ zeros 5
def SafePair.sec : SecDef := ⟨0x0700, 3, 12, false, [⟨0, 1, false, 0, 7⟩, ⟨1, 1, false, 0, 7⟩, ⟨5, 1, false, 0, 3⟩, ⟨6, 2, false, 1, 500⟩]⟩

/-! Section 0x0701, 10 R268. -/

def SafeOut.SO (r : List Byte) : Nat := rd r 0 1
def SafeOut.SOFUNC (r : List Byte) : Nat := rd r 1 1
def SafeOut.sec : SecDef := ⟨0x0701, 3, 4, false, [⟨0, 1, false, 0, 7⟩, ⟨1, 1, false, 0, 4⟩]⟩

/-! Section 0x0702, 10 R273. -/

def Zone.ZONE (r : List Byte) : Nat := rd r 0 4
def Zone.LEVZ (r : List Byte) : Nat := rd r 4 4
def Zone.LEVV (r : List Byte) : Nat := rd r 8 4
def Zone.PREV (r : List Byte) : Nat := rd r 12 4
def Zone.ZFLG (r : List Byte) : Nat := rd r 16 1
def Zone.RSTFI (r : List Byte) : Nat := rd r 17 1
def Zone.TESTPER (r : List Byte) : Nat := rd r 20 1
/-- Defaults of section 0x0702; fields without one read zero (log 1). -/
def Zone.dflt : List Byte := [64, 13, 3, 0, 32, 78, 0, 0, 160, 134, 1, 0, 32, 161, 7, 0, 0, 255, 0, 0, 8] ++ zeros 3
def Zone.sec : SecDef := ⟨0x0702, 1, 24, true, [⟨0, 4, false, 10000, 4294967295⟩, ⟨4, 4, false, 1000, 4294967295⟩, ⟨8, 4, false, 1000, 300000⟩, ⟨12, 4, false, 0, 4294967295⟩, ⟨20, 1, false, 1, 24⟩]⟩

/-! Section 0x0703, 10 R272. -/

def LandLock.LANE (r : List Byte) : Nat := rd r 0 1
def LandLock.LANDING (r : List Byte) : Nat := rd r 2 2
def LandLock.SIDES (r : List Byte) : Nat := rd r 4 1
def LandLock.LSRCK (r : List Byte) : Nat := rd r 5 1
def LandLock.LSRC (r : List Byte) : Nat := rd r 8 4
def LandLock.sec : SecDef := ⟨0x0703, 1, 12, false, [⟨0, 1, false, 0, 3⟩, ⟨2, 2, false, 0, 319⟩]⟩

/-! Section 0x0704, 10 R277. -/

def Gear.UCMD (r : List Byte) : Nat := rd r 0 4
def Gear.GEARV (r : List Byte) : Nat := rd r 4 4
/-- Defaults of section 0x0704; fields without one read zero (log 1). -/
def Gear.dflt : List Byte := [80, 195, 0, 0, 224, 121, 175, 0]
def Gear.sec : SecDef := ⟨0x0704, 2, 8, true, [⟨0, 4, false, 10000, 200000⟩, ⟨4, 4, false, 10500000, 12000000⟩]⟩

/-! Section 0x0800, 11 R299. -/

def FieldIn.FI (r : List Byte) : Nat := rd r 0 1
def FieldIn.IFLG (r : List Byte) : Nat := rd r 1 1
def FieldIn.DEB (r : List Byte) : Nat := rd r 2 2
/-- Defaults of section 0x0800; fields without one read zero (log 1). -/
def FieldIn.dflt : List Byte := [0, 0, 232, 3]
def FieldIn.sec : SecDef := ⟨0x0800, 3, 4, false, [⟨0, 1, false, 0, 63⟩]⟩

/-! Section 0x0801, 11 R299. -/

def FieldOut.FQ (r : List Byte) : Nat := rd r 0 1
def FieldOut.OFLG (r : List Byte) : Nat := rd r 1 1
def FieldOut.RBT (r : List Byte) : Nat := rd r 2 2
/-- Defaults of section 0x0801; fields without one read zero (log 1). -/
def FieldOut.dflt : List Byte := [0, 0, 200, 0]
def FieldOut.sec : SecDef := ⟨0x0801, 3, 4, false, [⟨0, 1, false, 0, 31⟩, ⟨2, 2, false, 50, 10000⟩]⟩

/-! Section 0x0802, 11 R299. -/

def FieldGrp.GRP (r : List Byte) : Nat := rd r 0 1
def FieldGrp.RESTT (r : List Byte) : Nat := rd r 2 2
/-- Defaults of section 0x0802; fields without one read zero (log 1). -/
def FieldGrp.dflt : List Byte := [0, 0, 100, 0]
def FieldGrp.sec : SecDef := ⟨0x0802, 3, 4, false, [⟨0, 1, false, 0, 3⟩, ⟨2, 2, false, 10, 10000⟩]⟩

/-! Section 0x0900, 12 R322. -/

def CanCh.CH (r : List Byte) : Nat := rd r 0 1
def CanCh.CFLG (r : List Byte) : Nat := rd r 1 1
def CanCh.NBRP (r : List Byte) : Nat := rd r 2 1
def CanCh.NSJW (r : List Byte) : Nat := rd r 3 1
def CanCh.NTSEG1 (r : List Byte) : Nat := rd r 4 2
def CanCh.NTSEG2 (r : List Byte) : Nat := rd r 6 1
def CanCh.DBRP (r : List Byte) : Nat := rd r 7 1
def CanCh.DTSEG1 (r : List Byte) : Nat := rd r 8 1
def CanCh.DTSEG2 (r : List Byte) : Nat := rd r 9 1
def CanCh.DSJW (r : List Byte) : Nat := rd r 10 1
def CanCh.TDCO (r : List Byte) : Nat := rd r 11 1
def CanCh.DETWAIT (r : List Byte) : Nat := rd r 12 2
def CanCh.VERIFYT (r : List Byte) : Nat := rd r 14 2
def CanCh.WAKEMODE (r : List Byte) : Nat := rd r 16 1
def CanCh.WAKEID (r : List Byte) : Nat := rd r 20 4
def CanCh.WAKEMASK (r : List Byte) : Nat := rd r 24 4
def CanCh.WAKEDATA (r : List Byte) : Nat := rd r 28 8
def CanCh.WAKEDMSK (r : List Byte) : Nat := rd r 36 8
/-- Defaults of section 0x0900; fields without one read zero (log 1). -/
def CanCh.dflt : List Byte := [0, 5, 1, 32, 127, 0, 32, 1, 31, 8, 8, 0, 232, 3, 50] ++ zeros 33
def CanCh.sec : SecDef := ⟨0x0900, 3, 48, false, [⟨0, 1, false, 0, 5⟩, ⟨2, 1, false, 1, 32⟩, ⟨3, 1, false, 1, 128⟩, ⟨4, 2, false, 2, 256⟩, ⟨6, 1, false, 1, 128⟩, ⟨7, 1, false, 1, 32⟩, ⟨8, 1, false, 1, 32⟩, ⟨9, 1, false, 1, 16⟩, ⟨10, 1, false, 1, 16⟩, ⟨11, 1, false, 0, 127⟩, ⟨12, 2, false, 10, 10000⟩, ⟨14, 2, false, 1, 1000⟩, ⟨16, 1, false, 0, 1⟩]⟩

/-! Section 0x0901, 12 R322. -/

def CanRxObj.CH (r : List Byte) : Nat := rd r 0 1
def CanRxObj.STALET (r : List Byte) : Nat := rd r 2 2
def CanRxObj.ID (r : List Byte) : Nat := rd r 4 4
def CanRxObj.sec : SecDef := ⟨0x0901, 3, 8, false, [⟨0, 1, false, 0, 5⟩, ⟨2, 2, false, 0, 60000⟩]⟩

/-! Section 0x0902, 12 R322. -/

def CanTxObj.CH (r : List Byte) : Nat := rd r 0 1
def CanTxObj.TFLG (r : List Byte) : Nat := rd r 1 1
def CanTxObj.ID (r : List Byte) : Nat := rd r 4 4
def CanTxObj.BOFFT (r : List Byte) : Nat := rd r 8 2
def CanTxObj.BOFFMAX (r : List Byte) : Nat := rd r 10 2
/-- Defaults of section 0x0902; fields without one read zero (log 1). -/
def CanTxObj.dflt : List Byte := zeros 8 ++ [100, 0, 128, 12]
def CanTxObj.sec : SecDef := ⟨0x0902, 3, 12, false, [⟨0, 1, false, 0, 5⟩, ⟨4, 4, false, 0, 536870911⟩, ⟨8, 2, false, 0, 10000⟩, ⟨10, 2, false, 0, 60000⟩]⟩

/-! Section 0x0A00, 13 R341. -/

def AdcCh.CH (r : List Byte) : Nat := rd r 0 1
def AdcCh.PHCOR (r : List Byte) : Int := rdS r 1 3
def AdcCh.SCALE (r : List Byte) : Nat := rd r 4 4
/-- Defaults of section 0x0A00; fields without one read zero (log 1). -/
def AdcCh.dflt : List Byte := zeros 8
def AdcCh.sec : SecDef := ⟨0x0A00, 1, 8, false, [⟨0, 1, false, 0, 7⟩, ⟨1, 3, true, -50000, 50000⟩]⟩

/-! Section 0x0A01, 13 R341. -/

def Meter.UNOM (r : List Byte) : Nat := rd r 0 2
def Meter.FNOM (r : List Byte) : Nat := rd r 2 1
def Meter.SAGTH (r : List Byte) : Nat := rd r 3 1
def Meter.SWELLTH (r : List Byte) : Nat := rd r 4 1
def Meter.INTTH (r : List Byte) : Nat := rd r 5 1
def Meter.HYST (r : List Byte) : Nat := rd r 6 1
def Meter.NEUTH (r : List Byte) : Nat := rd r 7 1
def Meter.NOLOAD (r : List Byte) : Nat := rd r 8 2
def Meter.SAGHOLD (r : List Byte) : Nat := rd r 10 2
def Meter.DERV (r : List Byte) : Nat := rd r 12 4
/-- Defaults of section 0x0A01; fields without one read zero (log 1). -/
def Meter.dflt : List Byte := [230, 0, 50, 90, 110, 5, 2, 15, 20, 0, 232, 3, 160, 37, 38] ++ zeros 5
def Meter.sec : SecDef := ⟨0x0A01, 1, 20, true, [⟨0, 2, false, 100, 400⟩, ⟨3, 1, false, 50, 95⟩, ⟨4, 1, false, 105, 150⟩, ⟨5, 1, false, 1, 10⟩, ⟨6, 1, false, 1, 5⟩, ⟨7, 1, false, 5, 50⟩, ⟨10, 2, false, 0, 60000⟩, ⟨12, 4, false, 300000, 10000000⟩]⟩

/-! Section 0x0A02, 13 R341. -/

def PulseCh.PCH (r : List Byte) : Nat := rd r 0 1
def PulseCh.SRC (r : List Byte) : Nat := rd r 1 1
def PulseCh.CONST (r : List Byte) : Nat := rd r 2 2
def PulseCh.PW (r : List Byte) : Nat := rd r 4 1
def PulseCh.CMPTOL (r : List Byte) : Nat := rd r 5 1
def PulseCh.PMAXKW (r : List Byte) : Nat := rd r 6 2
def PulseCh.CMPWIN (r : List Byte) : Nat := rd r 8 4
/-- Defaults of section 0x0A02; fields without one read zero (log 1). -/
def PulseCh.dflt : List Byte := zeros 4 ++ [32, 2, 0, 0, 132, 3, 0, 0]
def PulseCh.sec : SecDef := ⟨0x0A02, 1, 12, false, [⟨0, 1, false, 0, 3⟩, ⟨1, 1, false, 0, 3⟩, ⟨4, 1, false, 30, 100⟩, ⟨5, 1, false, 1, 50⟩, ⟨8, 4, false, 60, 86400⟩]⟩

/-! Section 0x0B00, 14 R360. -/

def PairCfg.EN (r : List Byte) : Nat := rd r 0 1
def PairCfg.PROVEWARN (r : List Byte) : Nat := rd r 2 2
/-- Defaults of section 0x0B00; fields without one read zero (log 1). -/
def PairCfg.dflt : List Byte := [0, 0, 208, 2] ++ zeros 4
def PairCfg.sec : SecDef := ⟨0x0B00, 3, 8, true, [⟨0, 1, false, 0, 1⟩, ⟨2, 2, false, 0, 8760⟩]⟩

/-! Section 0x0C00, 15 R386. -/

def SignRec.CHKVER (r : List Byte) : Nat := rd r 0 4
def SignRec.sec : SecDef := ⟨0x0C00, 3, 3409, true, [⟨0, 4, false, 0, 0⟩]⟩

/-! Section 0x0C01, 15 R386. -/

def Peer.KIND (r : List Byte) : Nat := rd r 0 1
def Peer.CAR (r : List Byte) : Nat := rd r 1 1
def Peer.sec : SecDef := ⟨0x0C01, 3, 20, false, [⟨0, 1, false, 1, 2⟩]⟩

/-! Section 0x0D00, 16 R400. -/

/-- Defaults of section 0x0D00; fields without one read zero (log 1). -/
def LogMask.dflt : List Byte := List.replicate 32 255
def LogMask.sec : SecDef := ⟨0x0D00, 3, 32, true, []⟩

end Cfg

/-- Every section of the manual, in ascending identifier. -/
def allSections : List SecDef :=

  [Cfg.Start.sec, Cfg.Points.sec, Cfg.Lane.sec, Cfg.Xing.sec, Cfg.Landings.sec, Cfg.Block.sec, Cfg.Segment.sec, Cfg.Waymark.sec] ++
  [Cfg.CarPos.sec, Cfg.Tape.sec, Cfg.CarMotion.sec, Cfg.AxisMotion.sec, Cfg.StepIn.sec, Cfg.TrunkCfg.sec, Cfg.CarProp.sec, Cfg.CarBrake.sec] ++
  [Cfg.Channel.sec, Cfg.Bank.sec, Cfg.CarMass.sec, Cfg.Authority.sec, Cfg.BlockAuth.sec, Cfg.Floor.sec, Cfg.Source.sec, Cfg.DispParam.sec] ++
  [Cfg.CarDisp.sec, Cfg.DoorAxis.sec, Cfg.DoorCfg.sec, Cfg.SafePair.sec, Cfg.SafeOut.sec, Cfg.Zone.sec, Cfg.LandLock.sec, Cfg.Gear.sec] ++
  [Cfg.FieldIn.sec, Cfg.FieldOut.sec, Cfg.FieldGrp.sec, Cfg.CanCh.sec, Cfg.CanRxObj.sec, Cfg.CanTxObj.sec, Cfg.AdcCh.sec, Cfg.Meter.sec] ++
  [Cfg.PulseCh.sec, Cfg.PairCfg.sec, Cfg.SignRec.sec, Cfg.Peer.sec, Cfg.LogMask.sec]

/-- The section of an identifier. -/
def sectionOf (id : Nat) : Option SecDef := allSections.find? (fun s => s.id == id)

/-- Value of a field in a record. -/
def Fld.val (f : Fld) (r : List Byte) : Int := if f.sgn then rdS r f.off f.sz else rd r f.off f.sz

/-- Element codes: 0x00-0x03 lanes, 0x08-0x0F Crossings (R94). -/
def elemOk (e : Nat) : Bool := e < 4 || (8 ≤ e && e < 16)

/-- Offset of the first field of a record out of its range by the section's table. -/
def SecDef.badField (s : SecDef) (r : List Byte) : Option Nat :=
  (s.flds.find? fun f => decide (f.val r < f.lo) || decide (f.hi < f.val r)).map (·.off)

/-- Cut bytes into records of `n` bytes, at most `fuel` of them. -/
def chunks : Nat → Nat → List Byte → List (List Byte)
  | 0, _, _ => []
  | _ + 1, _, [] => []
  | k + 1, n, d => d.take n :: chunks k n (d.drop n)

/-- The records of a section's bytes. -/
def records (n : Nat) (d : List Byte) : List (List Byte) := chunks (d.length / n) n d

/-- Where binary32 field at `o` is not finite or fails a test. -/
def f32Bad (r : List Byte) (o : Nat) : Bool := rd r o 4 / 2 ^ 23 % 256 = 255

/-- First offset of a test list that fails. -/
def firstBad (l : List (Nat × Bool)) : Option Nat := (l.find? fun p => !p.2).map (·.1)

/-- Binary32 order on finite words, as signed integers of the same order. -/
def f32Key (w : Nat) : Int := if w < 2 ^ 31 then (w : Int) else -((w - 2 ^ 31 : Nat) : Int)

open Cfg in
/-- Ranges of a record that name another field of it, or a set of values (R97, R141, R176, R183, R202, R230, R260,
R263, R272, R273, R322, R341, R360). The channel number bound of R202 and the door-record FOBS bound use the record. -/
def recordRel (id role : Nat) (r : List Byte) : Option Nat :=
  match id with
  | 0x0200 => firstBad [(8, decide (Lane.LIMLO r < Lane.LIMHI r)), (12, decide (Lane.LIMHI r ≤ Lane.LEN r))]
  | 0x0203 => firstBad [(2, elemOk (Block.ELEM r)), (8, decide (Block.START r < Block.END r))]
  | 0x0204 => firstBad [(2, elemOk (Segment.ELEM r)), (8, decide (Segment.START r < Segment.END r))]
  | 0x0205 => firstBad [(2, elemOk (Waymark.ELEM r)), (4, Waymark.SRCK r != 0 || decide (Waymark.SRC r < 64))]
  | 0x0207 => firstBad [(0, elemOk (Tape.ELEM r))]
  | 0x0300 => firstBad [
      (20, decide (CarMotion.AMAX r ≤ CarMotion.QAMAX r) && decide (CarMotion.QAMAX r ≤ 2000000)),
      (24, decide (CarMotion.JMAX r ≤ CarMotion.QJMAX r) && decide (CarMotion.QJMAX r ≤ 4000000))]
  | 0x0302 => firstBad [(2, [1, 2, 4, 8, 16, 32, 64, 128, 256].contains (StepIn.STEPDIV r))]
  | 0x0311 => firstBad [(8, decide (CarProp.MAGLO r < CarProp.MAGHI r))]
  | 0x0400 => firstBad [
      (0, role != 2 || decide (Channel.CH r < 32)),
      (1, Channel.RATE r == 0 || !(Channel.REFSEL r == 1 || Channel.FBSEL r < 2 || Channel.DEST r == 1 || Channel.DEST r == 2)),
      (2, !(Channel.REFSEL r == 1 && role == 2)),
      (3, !(Channel.FBSEL r < 2 && role == 2) && !(Channel.FBSEL r == 2 && role == 1)),
      (8, !((Channel.DEST r == 1 || Channel.DEST r == 2) && role == 2) && !(Channel.DEST r == 3 && role == 1)),
      (24, !f32Bad r 24), (28, !f32Bad r 28 && decide (f32Key (Channel.OLO r) < f32Key (Channel.OHI r))),
      (36, !f32Bad r 36 && decide (0 < f32Key (Channel.PLAUSWIN r))),
      (44, !f32Bad r 44 && decide (0 ≤ f32Key (Channel.INJMAX r))),
      (52, !f32Bad r 52 && decide (0 ≤ f32Key (Channel.PMOD r)) && decide (f32Key (Channel.PMOD r) < 0x3F800000))]
  | 0x0401 => firstBad [(0, role != 2 || decide (Bank.CH r < 32))]
  | 0x0503 => firstBad [(2, Source.KIND r == 0 || decide (Source.CHAN r < 4))]
  | 0x0600 => firstBad [
      (24, decide (DoorAxis.IHOLD r ≤ DoorAxis.IMAX r)),
      (26, decide (DoorAxis.IHOLD r ≤ DoorAxis.IOBS r) && decide (DoorAxis.IOBS r ≤ DoorAxis.IMAX r)),
      (42, decide (DoorAxis.TFAST r ≤ DoorAxis.TOFF r))]
  | 0x0601 => firstBad [(1, DoorCfg.DOOR r < 4 || DoorCfg.MEMBERS r == 0), (6, decide (DoorCfg.FOBS r ≤ DoorCfg.FLIM r))]
  | 0x0700 => firstBad [
      (1, !(SafePair.FUNC r == 3 && role == 2) && !([4, 5, 6].contains (SafePair.FUNC r) && role == 1)),
      (2, SafePair.CHA r < 16 || SafePair.CHA r == 255), (3, SafePair.CHB r < 16 || SafePair.CHB r == 255),
      (5, SafePair.FUNC r == 3 || SafePair.LANE r == 0)]
  | 0x0701 => firstBad [(1, !([2, 3].contains (SafeOut.SOFUNC r) && role == 1))]
  | 0x0702 => firstBad [(4, decide (Zone.LEVZ r ≤ Zone.ZONE r))]
  | 0x0703 => firstBad [(5, LandLock.LSRCK r < 2 || LandLock.LSRCK r == 255)]
  | 0x0801 => firstBad [(1, FieldOut.OFLG r / 2 % 8 < 2)]
  | 0x0902 => firstBad [(10, decide (CanTxObj.BOFFT r ≤ CanTxObj.BOFFMAX r))]
  | 0x0A01 => firstBad [(2, Meter.FNOM r == 50 || Meter.FNOM r == 60)]
  | _ => none

/-- Offset of the first field of a record that CONFIG_WRITE refuses (R98). -/
def recordBad (s : SecDef) (role : Nat) (r : List Byte) : Option Nat :=
  match s.badField r, recordRel s.id role r with
  | none, b => b
  | some a, none => some a
  | some a, some b => some (min a b)

/-- Offset within a section of the first refused field, records in order. -/
def recordsBad (s : SecDef) (role : Nat) : Nat → List (List Byte) → Option Nat
  | _, [] => none
  | o, r :: rs =>
    match recordBad s role r with
    | some b => some (o + b)
    | none => recordsBad s role (o + s.size) rs

/-- Point records stand in strictly ascending POINT order (R19): offset of the first that does not. -/
def pointsBad : Nat → Option Nat → List (List Byte) → Option Nat
  | _, _, [] => none
  | o, last, r :: rs =>
    let p := rd r 0 8 % 2 ^ 18
    match last with
    | some l => if l < p then pointsBad (o + 8) (some p) rs else some o
    | none => pointsBad (o + 8) (some p) rs

/-- Landing entries of section 0x0202 (R97): offset of the COUNT field of the first bad entry. -/
def landingsBad : Nat → Nat → List Byte → Option Nat
  | 0, _, _ => none
  | _ + 1, _, [] => none
  | k + 1, o, d =>
    let n := rd d 2 2
    if n = 0 ∨ n > 320 ∨ d.length < 4 + 4 * n then some (o + 2)
    else landingsBad k (o + 4 + 4 * n) (d.drop (4 + 4 * n))

/-- The landing entries: lane and sill positions in order. -/
def landingEntries : Nat → List Byte → List (Nat × List Int)
  | 0, _ => []
  | _ + 1, [] => []
  | k + 1, d =>
    let n := rd d 2 2
    if n = 0 then [] else (rd d 0 1, (records 4 ((d.drop 4).take (4 * n))).map fun r => rdS r 0 4) :: landingEntries k (d.drop (4 + 4 * n))

/-- At most this many records for one channel in 0x0901 (extended only) and 0x0902 (R322). -/
def channelCountOk (id : Nat) (rs : List (List Byte)) : Bool :=
  if id == 0x0901 then (List.range 6).all fun c => (rs.filter fun r => Cfg.CanRxObj.CH r == c && bit (Cfg.CanRxObj.ID r) 30).length ≤ 4096
  else if id == 0x0902 then (List.range 6).all fun c => (rs.filter fun r => Cfg.CanTxObj.CH r == c).length ≤ 64
  else true

/-- The check CONFIG_WRITE makes of a completed section (R98, R19, R97): `some DETAIL` where it refuses with 0x2015. -/
def sectionBad (s : SecDef) (role : Nat) (d : List Byte) : Option Nat :=
  if s.id = 0x0002 then pointsBad 0 none (records 8 d)
  else if s.id = 0x0202 then landingsBad (d.length / 4) 0 d
  else if !channelCountOk s.id (records s.size d) then some 0
  else recordsBad s role 0 (records s.size d)

/-- Greatest TOTAL of a section (R19, R97, CONFIG_WRITE). -/
def SecDef.maxTotal (s : SecDef) : Nat :=
  if s.id = 0x0002 then 2097152 else if s.id = 0x0202 then 5136 else if s.one then s.size else 262144

end Sys2Proof.Machine
end

