-- ==== Sys2Proof/Machine/State.lean ====
section
/-! DEFINITION. The state of the block: everything the manual gives it, as plain data, and `State.reset`. Instants are
Milestone times in ns (R67) as naturals; positions are integers in micrometres, or in 2^-32 micrometre where a name
ends in `Q` (R9, R115). Counters that wrap are held reduced to their width (R431). -/

namespace Sys2Proof.Machine

/-- Why a step can stop. No meaning of this block answers a fault: the manual answers every command, right or wrong,
with an effect or a reply. -/
inductive Fault where
  /-- Raised by no meaning; kept because the step's type has the outcome. Safe. -/
  | none
deriving DecidableEq, Repr

/-- Why a command has no meaning here. -/
inductive Refusal where
  /-- Raised by an arm of `exec` whose meaning is not written. Safe: the run stops. -/
  | notModelled (mnemonic : String)
deriving DecidableEq, Repr

/-! ## Host side (file 02) -/

/-- The device's role (R1-R3). -/
inductive Role where
  | none | lane | car
deriving DecidableEq, Repr

/-- A reply or event record (R41's table), before its EQ sequence number is fixed. `src` is the event source; `key` and
`nonce` seal it from the moment it is placed (R46). -/
structure Rec where
  opc    : Nat := 0
  flg    : Nat := 0
  dom    : Nat := 0
  tag    : Nat := 0
  seq    : Nat := 0
  tgt    : Nat := 0
  stamp  : Nat := 0
  status : Nat := 0
  coal   : Nat := 0
  reason : Nat := 0
  data   : List Byte := []
  src    : Option Nat := none
  key    : Nat := 0
  nonce  : Nat := 0
deriving DecidableEq, Repr

/-- A bound session (R33, R46, R380). -/
structure Session where
  pair  : Nat := 0
  dom   : Nat := 0
  tr    : Transport := .spi
  prov  : Bool := false
  epoch : Nat := 0
  prk   : Nat := 0
  keyIn  : Nat := 0
  keyOut : Nat := 0
  salt  : Nat := 0
deriving DecidableEq, Repr

/-- Ring pair `n`: registers of R34, ownership (R49), session, sequence numbers (R45), tags (R43), records. -/
structure Ring where
  sqBase  : Nat := 0
  eqBase  : Nat := 0
  sqSize  : Nat := 0
  eqSize  : Nat := 0
  en      : Bool := false
  owner   : Option Nat := none
  quota   : Nat := 0
  sess    : Option Session := none
  sqPi    : Nat := 0
  sqCi    : Nat := 0
  eqPi    : Nat := 0
  eqCi    : Nat := 0
  err     : Nat := 0
  rxSeq   : Nat := 1
  txSeq   : Nat := 1
  recent  : List (Nat × Option Rec) := []
  discards : Nat := 0
  tags    : List TagRec := []
  held    : List Rec := []
  placed  : List Rec := []
  fullSince : Option Nat := none
  nearRx  : Bool := false
  nearTx  : Bool := false
  lastSent : Option Rec := none
deriving DecidableEq, Repr

/-- An event source's route and flag (R64-R66). -/
structure EvSrc where
  enabled : Bool := false
  eq      : Nat := 0
  vec     : Nat := 255
  balls   : Nat := 0
  mod     : Nat := 0
  flag    : Bool := false
deriving DecidableEq, Repr

/-- Event state: sources, the 1 ms limit of R47, rate limits of R222 stand with the dispatcher. -/
structure Events where
  src      : List EvSrc := []
  lastAuth : Option Nat := none
deriving DecidableEq, Repr

/-- MSI-X table and pending-bit array (R34), moderation (R65). -/
structure Msix where
  addr    : List Nat := []
  data    : List Nat := []
  masked  : List Bool := []
  pba     : List Bool := []
  last    : List (Option Nat) := []
  mod     : List Nat := []
  modPend : List Bool := []
  signals : List Nat := []
deriving DecidableEq, Repr

/-- A protection entry (R51). -/
structure ProtEntry where
  edom : Nat := 0
  ctl  : Nat := 0
  qry  : Nat := 0
  node : Nat := 0
deriving DecidableEq, Repr

/-- A PROTECT_SET waiting for its boundary or for MRAM (R53, R55). -/
structure ProtChange where
  tag     : TagRec := {}
  op      : Nat := 0
  purge   : Bool := false
  edom    : Nat := 0
  entries : List ProtEntry := []
  newGen  : Nat := 0
  effAt   : Nat := 0
  purged  : Nat := 0
deriving DecidableEq, Repr

/-- Protection table, generation, changes waiting and changes being stored (R51-R55). -/
structure Prot where
  entries : List ProtEntry := []
  gen     : Nat := 0
  waiting : List ProtChange := []
  storing : List (ProtChange × List ProtEntry × Nat) := []
deriving DecidableEq, Repr

/-- A host command waiting for its launch edge (R86). -/
structure Launch where
  tag  : TagRec := {}
  launch : Nat := 0
  data : List Byte := []
deriving DecidableEq, Repr

/-! ## Start-up, power, memory (files 01, 17) -/

/-- A byte memory in canonical form: addresses strictly rising, no zero byte listed (log 7). -/
abbrev Memory := List Host.Cell

/-- A firmware image region (R416): STATE and TRIES of its control record, and its bytes. -/
structure Image where
  state   : Nat := 0
  tries   : Nat := 0
  mem     : Memory := []
deriving DecidableEq, Repr

/-- Progress of a fragmented transfer: next offset, total. -/
structure Frag where
  next  : Nat := 0
  total : Nat := 0
  bytes : List Byte := []
deriving DecidableEq, Repr

/-- Start-up state and the bootstrap window (R29-R32, R403-R418). -/
structure Boot where
  powerGood  : Bool := false
  held       : Bool := true
  rstLow     : Bool := false
  stage      : Nat := 0
  role       : Role := .none
  strapF     : Bool := false
  unit       : Nat := 0
  cause      : Nat := 0
  nextCause  : Nat := 1
  fault      : Nat := 0
  clockFault : Bool := false
  simNow     : Nat := 0
  ticks      : Nat := 0
  scratch    : Nat := 0
  reduced    : Bool := false
  startAt    : Nat := 0
  stageAt    : List Nat := [0, 0, 0, 0, 0, 0]
  late       : Bool := false
  lateDue    : Bool := false
  purel      : Bool := false
  autoFail   : Bool := false
  shutMark   : Bool := false
  ready5     : Bool := false
  shutRecord : Bool := false
  image      : Nat := 0
  imgA       : Image := {}
  imgB       : Image := {}
  writing    : Option Frag := none
  trialRun   : Bool := false
  recovery   : Bool := false
  recBytes   : Nat := 0
  mRom       : List Byte := []
  mFw        : List Byte := []
deriving DecidableEq, Repr

/-- Power states (R419). -/
inductive PowerMode where
  | off | run | idle | sleep | batteryOnly
deriving DecidableEq, Repr

/-- Power state (R419-R426). -/
structure Power where
  mode      : PowerMode := .off
  wakeSrc   : Nat := 0
  idleSince : Option Nat := none
  pend      : Option (Nat × TagRec) := none
  shutDown  : Bool := false
  resetDue  : Option (Nat × Bool) := none
  spiStat   : Nat := 0
  miso      : List Byte := []
deriving DecidableEq, Repr

/-- ECC bookkeeping of the SRAM (R27). -/
structure Ecc where
  poisoned : List (SramRegion × Nat) := []
  faults   : Nat := 0
deriving DecidableEq, Repr

/-! ## Timebase (file 03) -/

/-- Timebase states (R69). -/
inductive TbState where
  | unset | free | acquiring | locked | holdover
deriving DecidableEq, Repr

/-- One CANREF entry of TIME_CONFIG. -/
structure CanRef where
  id     : Nat := 0
  ext    : Bool := false
  en     : Bool := false
  period : Nat := 0
  fd     : Bool := false
deriving DecidableEq, Repr

/-- TIME_CONFIG settings. -/
structure TimeCfg where
  ptpDom    : Nat := 0
  prio1     : Nat := 0
  prio2     : Nat := 0
  ports     : Nat := 0
  delayM    : Nat := 0
  xport     : Nat := 0
  logSync   : Int := 0
  logAnn    : Int := 0
  asym      : List Int := []
  holdRate  : Nat := 20
  holdLimit : Nat := 5000
  stepMin   : Nat := 1000
  canRef    : List CanRef := []
deriving DecidableEq, Repr

/-- The timebase (R67-R75, R467). -/
structure Time where
  now       : Nat := 0
  frac      : Nat := 0
  phase   : Nat := 0
  tb        : TbState := .unset
  source    : Nat := 0
  utcOff    : Int := 0
  offset    : Int := 0
  pathDly   : Nat := 0
  freqAdj   : Int := 0
  gmid      : Nat := 0
  steps     : Nat := 0
  gm        : Bool := false
  holdExc   : Bool := false
  cfg       : TimeCfg := {}
  cfgPend   : Option TimeCfg := none
  setPend   : List (TagRec × Nat × Int) := []
  stepPend  : Option Int := none
  slew      : Int := 0
  lastSync  : Nat := 0
  under40   : Nat := 0
  noServo   : Bool := false
  lateCnt   : Nat := 0
  lastCopy  : Nat := 0
  nextTick  : Nat := 0
  nextFast  : Nat := 0
deriving DecidableEq, Repr

/-! ## Configuration, calibration, enable check (files 02, 04) -/

/-- A section being staged by CONFIG_WRITE (R112). -/
structure Staging where
  id    : Nat := 0
  next  : Nat := 0
  total : Nat := 0
  data  : List Byte := []
deriving DecidableEq, Repr

/-- A completed section on its way to both copies, with its command (R112). -/
structure SecWrite where
  tag  : TagRec := {}
  id   : Nat := 0
  data : List Byte := []
deriving DecidableEq, Repr

/-- Calibration (R110): present, learned Waymark edges (leading, trailing), learned BEMFOFF by segment, tied CRC. -/
structure Calib where
  present : Bool := false
  edges   : List (Nat × Int × Int) := []
  bemf    : List (Nat × Int) := []
  crc     : Nat := 0
deriving DecidableEq, Repr

/-- The configuration store (R28, R112) and calibration. -/
structure ConfigStore where
  a       : List (Nat × List Byte) := []
  b       : List (Nat × List Byte) := []
  crcOk   : Bool := true
  staging : Option Staging := none
  writing : List SecWrite := []
  calib   : Calib := {}
deriving DecidableEq, Repr

/-- An enable-check report entry (CHECK_REPORT). -/
structure ChkEntry where
  code   : Nat := 0
  node   : Nat := 0
  detail : Nat := 0
deriving DecidableEq, Repr

/-- What started the running check: a command, or the automatic check (R415). -/
structure ChkRun where
  tag : Option TagRec := none
  crc : Nat := 0
  at0 : Nat := 0
  found : List ChkEntry := []
  speed : Nat := 0
deriving DecidableEq, Repr

/-- Enable check state (R58-R62). -/
structure Check where
  running  : Option ChkRun := none
  report   : Option (List ChkEntry) := none
  total    : Nat := 0
  crc      : Nat := 0
  disable  : List TagRec := []
  autoDone : Bool := false
  learn    : Option ChkRun := none
deriving DecidableEq, Repr

/-- Run-time part of a defined point (R18). `at0` is the whole instant of its STAMP. -/
structure Point where
  idx   : Nat := 0
  value : Nat := 0
  flags : Nat := 0
  at0   : Nat := 0
deriving DecidableEq, Repr

/-! ## Safety path (file 10) -/

/-- Pair states (R264). -/
inductive PairSt where
  | closed | opened | disc
deriving DecidableEq, Repr

/-- A safety input pair (R263, R264, R269, R280). -/
structure SPair where
  st       : PairSt := .opened
  armed    : Bool := false
  differAt : Option Nat := none
  bothDem  : Bool := false
  closedT  : Nat := 0
  wantOff  : Bool := false
deriving DecidableEq, Repr

/-- A standing fault (R277, SAFETY_STATUS). -/
structure FaultRec where
  code  : Nat := 0
  react : Nat := 0
  car   : Nat := 0
  elem  : Nat := 0
  since : Nat := 0
  begun : Bool := false
deriving DecidableEq, Repr

/-- SAFETY_RESET or a local reset edge, waiting (R280). -/
structure ResetReq where
  tag : Option TagRec := none
  at0 : Nat := 0
deriving DecidableEq, Repr

/-- The safety path and interlock logic (R263-R286, R353). -/
structure Safe where
  si        : List Bool := []
  pairs     : List SPair := []
  latch     : Bool := true
  netA      : Bool := false
  netB      : Bool := false
  firstC    : Nat := 0
  tripAt    : Nat := 0
  trips     : Nat := 0
  causes    : Nat := 0
  so        : List Bool := []
  soBad     : List Bool := []
  trunkLvl  : Bool := true
  faults    : List FaultRec := []
  land      : Bool := false
  selfOk    : Bool := false
  tested    : Bool := false
  perBase   : Nat := 0
  perRun    : Bool := false
  perFail   : Bool := false
  perStep   : Nat := 0
  lastTest  : Nat := 0
  testing   : Option (Option TagRec × Bool) := none
  testFail  : Nat := 0
  resets    : List ResetReq := []
  lockFault : List (Nat × Nat) := []
  lockRun   : List Nat := []
  tripIn    : Bool := false
  tripOut   : Bool := false
  latchSeen : Bool := false
  pend0D    : List (Nat × Nat × Nat) := []
deriving DecidableEq, Repr

/-! ## Field I/O (file 11) -/

/-- Drive states of an output. -/
inductive Drive where
  | high | low | released
deriving DecidableEq, Repr

/-- A field input (R287-R289). -/
structure Fi where
  level : Bool := false
  at0   : Nat := 0
  stale : Bool := false
deriving DecidableEq, Repr

/-- A field output (R290-R296). -/
structure Fq where
  cmd   : Bool := false
  sag   : Bool := false
  rbFlt : Bool := false
  therm : Bool := false
deriving DecidableEq, Repr

/-- Supply group states (R294). -/
inductive GrpSt where
  | ok | low | missing
deriving DecidableEq, Repr

/-- A field die's watchdog (R297, R298). -/
structure Die where
  released  : Bool := true
  byTimeout : Bool := false
  goodRun   : Nat := 0
  everDrive : Bool := false
  wdRel     : Bool := false
  report    : Bool := false
  due       : Bool := false
  linkDown  : Bool := false
deriving DecidableEq, Repr

/-- Field I/O (file 11). -/
structure Field where
  fi    : List Fi := []
  fq    : List Fq := []
  grp   : List GrpSt := []
  grpV  : List Nat := []
  die   : List Die := []
  evGrp : List Nat := []
  evLow : Nat := 0
  evStale : List Nat := []
deriving DecidableEq, Repr

/-! ## CAN (file 12) -/

/-- Channel states (R306). -/
inductive CanSt where
  | off | detect | active | passive | busOff | verify | mismatch | asleep | listen
deriving DecidableEq, Repr

/-- A stored object (R310). -/
structure CanObj where
  idx   : Nat := 0
  id    : Nat := 0
  flags : Nat := 0
  dlc   : Nat := 0
  ovw   : Nat := 0
  stamp : Nat := 0
  data  : List Byte := []
deriving DecidableEq, Repr

/-- Why a frame is in the queue. -/
inductive TxKind where
  | host (tag : TagRec)
  | answer (call : Nat) (astat : Nat)
  | sync (seq8 : Nat)
  | follow (seq8 : Nat)
deriving DecidableEq, Repr

/-- A waiting frame (R315). -/
structure TxFrame where
  id     : Nat := 0
  ext    : Bool := false
  fd     : Bool := false
  brs    : Bool := false
  dlc    : Nat := 0
  data   : List Byte := []
  expire : Nat := 0
  tries  : Nat := 0
  kind   : TxKind
  order  : Nat := 0
deriving DecidableEq, Repr

/-- A transmit object's contest state and last sent frame (R317, R318). -/
structure TxObj where
  id      : Nat := 0
  ext     : Bool := false
  last    : Option (Nat × List Byte) := none
  backoff : Nat := 0
  until0  : Option Nat := none
  lastContest : Nat := 0
  skip    : Nat := 0
deriving DecidableEq, Repr

/-- A CAN channel. -/
structure Can where
  st      : CanSt := .off
  prev    : CanSt := .off
  tec     : Nat := 0
  recv    : Nat := 0
  detBit  : Nat := 0
  rxFr    : Nat := 0
  txFr    : Nat := 0
  errFr   : Nat := 0
  lostCnt : Nat := 0
  contest : Nat := 0
  busOffs : Nat := 0
  unmatched : Nat := 0
  lastErr : Nat := 0
  errRun  : Nat := 0
  dirty   : Bool := false
  valid   : Nat := 0
  objs    : List CanObj := []
  txq     : List TxFrame := []
  txObjs  : List TxObj := []
  order   : Nat := 0
  sleeping : Option TagRec := none
  seq8    : Nat := 0
  refDue  : Nat := 0
deriving DecidableEq, Repr

/-! ## Metering (file 13) -/

/-- A metering slot (R329). -/
structure Slot80 where
  valid  : Bool := false
  seq    : Nat := 0
  regs   : List Nat := []
  ep     : List Nat := []
  mp     : List Nat := []
  commit : Nat := 0
deriving DecidableEq, Repr

/-- Quantities of the last completed cycle (R326, SUPPLY_READ), in µV, µA, pW, pvar, pVA, mHz. -/
structure Cycle where
  urms : List Nat := []
  irms : List Nat := []
  vdc  : Int := 0
  freq : Nat := 0
  p    : Int := 0
  q    : Int := 0
  s    : Nat := 0
  pf   : List Int := []
  ang  : List Int := []
  at0  : Nat := 0
deriving DecidableEq, Repr

/-- A supply event in progress (R336): start, phases, extreme in 0.01 % of UNOM. -/
structure SupEv where
  start : Nat := 0
  mask  : Nat := 0
  ext   : Nat := 0
deriving DecidableEq, Repr

/-- Metering and supply (file 13). Registers are in 2^-16 µWh, samples in µV and µA, `part` is the time of this tick whose
energy is already added. -/
structure Meter where
  regs     : List Nat := []
  slot0    : Slot80 := {}
  slot1    : Slot80 := {}
  seq      : Nat := 0
  commit   : Nat := 0
  ep       : List Nat := []
  mp       : List Nat := []
  epOvf    : List Bool := []
  mpBase   : List (Nat × Nat × Nat) := []
  mflg     : Nat := 0
  restored : Bool := false
  storeFlt : Bool := false
  samples  : List (List Int) := []
  prevSamp : List (List Int) := []
  cycStart : Option Nat := none
  periods  : List Nat := []
  cyc      : Option Cycle := none
  part     : Nat := 0
  sampAt   : Nat := 0
  seqBad   : Nat := 0
  seqGood  : Nat := 0
  neuBad   : Nat := 0
  neuGood  : Nat := 0
  seqErr   : Bool := false
  neutLoss : Bool := false
  freqErr  : Bool := false
  sag      : Option SupEv := none
  swell    : Option SupEv := none
  intr     : Option SupEv := none
  sagHold  : Option Nat := none
  derate   : Bool := false
  sagDue   : Option Nat := none
  noLoad   : Bool := false
  mpDev    : Bool := false
  lastPulse : List Nat := []
deriving DecidableEq, Repr

/-! ## Pair (file 14) -/

/-- Pair states (R352). -/
inductive PrSt where
  | unpaired | active | alone | syncing | ready | stale | orphan | taking
deriving DecidableEq, Repr

/-- A proving swap (R359): command, BACK, DWELL, step, its boundary. -/
structure Prove where
  tag   : TagRec := {}
  back  : Bool := false
  dwell : Nat := 0
  step  : Nat := 0
  b0    : Nat := 0
  taken : Nat := 0
deriving DecidableEq, Repr

/-- Pair state (file 14). -/
structure Pair where
  st       : PrSt := .unpaired
  pntOut   : Bool := false
  pntIn    : Bool := false
  hbLine   : Bool := false
  link     : Bool := false
  linkSess : Bool := false
  pfault   : Bool := false
  partner  : Nat := 0
  cfgMatch : Bool := false
  fwMatch  : Bool := false
  iseq     : Nat := 0
  image    : Option PairImg := none
  imageAt  : Nat := 0
  ackMiss  : Nat := 0
  lastSw   : Nat := 0
  proveAt  : Nat := 0
  warned   : Bool := false
  swCount  : Nat := 0
  defers   : Nat := 0
  imgMax   : Nat := 0
  prove    : Option Prove := none
  raisedAt : Nat := 0
  refresh  : Nat := 0
  takeAt   : Option Nat := none
  pntInAt  : Nat := 0
  hbOut    : Bool := false
  cold     : Bool := false
  held     : Bool := false
deriving DecidableEq, Repr

/-! ## Vault, keys, sessions (file 15) -/

/-- Vault states (R366). -/
inductive VState where
  | provisioned | unprovisioned | erased | fault
deriving DecidableEq, Repr

/-- A tamper log entry (VAULT_STATUS). -/
structure TLog where
  sensor : Nat := 0
  cause  : Nat := 0
  coarse : Nat := 0
deriving DecidableEq, Repr

/-- The vault die (R364-R366, R383, R384). -/
structure Vault where
  st      : VState := .provisioned
  checked : Bool := false
  root    : Bool := false
  share   : Option Nat := none
  ctr     : List Nat := []
  writes  : List Nat := []
  log     : List TLog := []
  sense   : Nat := 0
  swAct   : Nat := 0xAA
  swPol   : Nat := 0
  tAct    : Nat := 2
  vbat    : Nat := 0
  coarse  : Option Nat := none
  refuse  : Bool := false
  trngBad : Bool := false
deriving DecidableEq, Repr

/-- Key slot states (R371). -/
inductive KSt where
  | empty | valid | invalid | erased
deriving DecidableEq, Repr

/-- A key slot (R370, R371): `fw` is the M_FW of the firmware whose KWK wraps it. -/
structure KSlot where
  st    : KSt := .empty
  use   : Nat := 0
  dom   : Nat := 0
  flg   : Nat := 0
  key   : Nat := 0
  fw    : List Byte := []
deriving DecidableEq, Repr

/-- A handshake in progress (R379-R381). -/
structure Hs where
  pair  : Nat := 0
  hsid  : Nat := 0
  tr    : Transport := .spi
  hello : Hello
  prov  : Bool := false
  nd    : Nat := 0
  secret : Nat := 0
  reply : List Byte := []
  at0   : Nat := 0
deriving DecidableEq, Repr

/-- A handshake message the device gives: 2 REPLY, 3 FINISH, 4 DONE, 5 ERROR, its bytes and the next fragment to be read. -/
structure HsOut where
  pair   : Nat := 0
  hsid   : Nat := 0
  msg    : Nat := 0
  bytes  : List Byte := []
  frag   : Nat := 0
deriving DecidableEq, Repr

/-- A KEY_OP running (R370, R385). -/
structure KeyOp where
  tag  : TagRec := {}
  data : List Byte := []
  key  : Nat := 0
  free : Nat := 0
deriving DecidableEq, Repr

/-- A quote or ledger head kept for a ring pair for 10 s (R377, R396). -/
structure Quote where
  pair  : Nat := 0
  which : Nat := 0
  nonce : List Byte := []
  bytes : List Byte := []
  at0   : Nat := 0
deriving DecidableEq, Repr

/-- Identity records and the security engine (R367-R382). -/
structure Sec where
  slots   : List KSlot := []
  cust    : Option (Nat × Nat) := none
  creds   : List (Option (Nat × Nat)) := []
  keyMsg  : Option Frag := none
  keyOps  : List KeyOp := []
  quotes  : List Quote := []
  hs      : List Hs := []
  hsOut   : List HsOut := []
  tamper  : Bool := false
  tamperDue : List Nat := []
  kwk     : Bool := false
  keys    : Bool := false
  recsOk : Bool := false
deriving DecidableEq, Repr

/-! ## Ledger and journal (file 16) -/

/-- A ledger record before its CHAIN (R389). -/
structure LRec where
  time   : Nat := 0
  type   : Nat := 0
  code   : Nat := 0
  reason : Nat := 0
  node   : Nat := 0
  data   : List Byte := []
deriving DecidableEq, Repr

/-- A LEDGER_CLEAR waiting for its boundary. -/
structure Clear where
  tag    : TagRec := {}
  seenHi : Nat := 0
deriving DecidableEq, Repr

/-- The event ledger (R389-R398): committed records of the epoch with their CHAINs, the staging queue, counters. -/
structure Ledger where
  recs     : List (LRec × List Byte) := []
  staged   : List LRec := []
  dropped  : Nat := 0
  dropNew  : Nat := 0
  dropFirst : Nat := 0
  dropLast : Nat := 0
  lostFull : Nat := 0
  q75      : Bool := false
  full     : Bool := false
  clear    : Option Clear := none
  torn     : Bool := false
deriving DecidableEq, Repr

/-- A journal record (R399). -/
structure JRec where
  seq  : Nat := 0
  type : Nat := 0
  car  : Nat := 0
  time : Nat := 0
  data : List Byte := []
deriving DecidableEq, Repr

/-- The trip journal (R399, R400). -/
structure Journal where
  recs  : List JRec := []
  jseq  : Nat := 0
  jrd   : Nat := 0
  jover : Nat := 0
  fired : Bool := false
deriving DecidableEq, Repr

/-- The machine. `free` counts the free values taken (log 6) and is the model's own; `pending` is the command queue. -/
structure State where
  boot   : Boot := {}
  power  : Power := {}
  ecc    : Ecc := {}
  time   : Time := {}
  rings  : List Ring := []
  ev     : Events := {}
  msix   : Msix := {}
  prot   : Prot := {}
  launchQ : List Launch := []
  miles  : List Ms := []
  cfg    : ConfigStore := {}
  chk    : Check := {}
  pts    : List Point := []
  cars   : List Car := []
  trunks : List Trunk := []
  segs   : List Seg := []
  enumRun : List (Option TagRec × Nat × Nat) := []
  chans  : List Chan := []
  caps   : List Cap := []
  auth   : Auth := {}
  disp   : Disp := {}
  axes   : List Axis := []
  doors  : List Door := []
  crole  : CarRole := {}
  safe   : Safe := {}
  field  : Field := {}
  can    : List Can := []
  meter  : Meter := {}
  pair   : Pair := {}
  vault  : Vault := {}
  sec    : Sec := {}
  led    : Ledger := {}
  jrn    : Journal := {}
  free   : Nat := 0
  pending : List Instr := []
deriving DecidableEq, Repr

/-- A source as at reset: disabled, no vector; source 0x00 is enabled and routed to EQ0 (R66, log 1). -/
def EvSrc.atReset (n : Nat) : EvSrc := { enabled := n == 0 }

/-- Pair 0 leaves module test with quota 16 and no owner (R49). -/
def Ring.atReset (n : Nat) : Ring := { quota := if n = 0 then 16 else 0 }

/-- The machine as power is applied to a module fresh from module test (log 2): stage 0 held in reset (R403), the root
stored and nothing provisioned (R375), every register at the value the manual gives, and at the value of log 1 where it
gives none. -/
def State.reset : State := {
  rings  := (List.range 16).map Ring.atReset
  ev     := { src := (List.range 256).map EvSrc.atReset }
  msix   := { addr := List.replicate 32 0, data := List.replicate 32 0, masked := List.replicate 32 false, mod := List.replicate 32 0,
              pba := List.replicate 32 false, last := List.replicate 32 none, modPend := List.replicate 32 false,
              signals := List.replicate 32 0 }
  cars   := List.replicate 24 {}
  trunks := List.replicate 12 {}
  chans  := List.replicate 96 {}
  caps   := List.replicate 8 {}
  axes   := List.replicate 4 {}
  doors  := List.replicate 8 {}
  safe   := { si := List.replicate 16 false, pairs := List.replicate 8 {}, so := List.replicate 8 false,
              soBad := List.replicate 8 false }
  field  := { fi := List.replicate 64 { stale := true }, fq := List.replicate 32 {}, grp := List.replicate 4 .missing,
              grpV := List.replicate 4 0, die := List.replicate 2 {} }
  can    := List.replicate 6 {}
  meter  := { regs := List.replicate 4 0, ep := [0, 0], mp := [0, 0], epOvf := [false, false] }
  vault  := { st := .unprovisioned, root := true, ctr := List.replicate 4 0, writes := List.replicate 4 0 }
  sec    := { slots := List.replicate 128 {}, creds := List.replicate 8 none }
}

end Sys2Proof.Machine
end

