-- ==== Sys2Proof/Machine/Ops.lean ====
section
/-! DEFINITION. The named operations every meaning is written over: configuration lookup, the passage of Milestone time,
event sources, replies, rings, ledger and journal records, image memory. -/

namespace Sys2Proof.Machine

/-! ## Configuration lookup -/

/-- Bytes of a stored section; empty where it is not configured (R112). -/
def State.secBytes (s : State) (id : Nat) : List Byte := ((s.cfg.a.find? fun p => p.1 == id).map (·.2)).getD []

/-- Records of a stored section of fixed-size records. -/
def State.recs (s : State) (sec : SecDef) : List (List Byte) := records sec.size (s.secBytes sec.id)

/-- The one record of a section that holds one, or its defaults. -/
def State.one (s : State) (sec : SecDef) (dflt : List Byte) : List Byte := ((s.recs sec).head?).getD dflt

/-- The record of a section whose key is `k`, or its defaults. -/
def State.keyed (s : State) (sec : SecDef) (key : List Byte → Nat) (k : Nat) (dflt : List Byte) : List Byte :=
  ((s.recs sec).find? fun r => key r == k).getD dflt

/-- Whether a section holds a record with this key. -/
def State.hasKey (s : State) (sec : SecDef) (key : List Byte → Nat) (k : Nat) : Bool :=
  (s.recs sec).any fun r => key r == k

/-! ## Indexed parts -/

def State.ring (s : State) (p : Nat) : Ring := s.rings.getD p {}
def State.car (s : State) (c : Nat) : Car := s.cars.getD c {}
def State.modRing (s : State) (p : Nat) (f : Ring → Ring) : State := { s with rings := s.rings.modify p f }
def State.modCar (s : State) (c : Nat) (f : Car → Car) : State := { s with cars := s.cars.modify c f }

/-- The next free value (log 6) and the state that has taken it. -/
def State.takeFree (s : State) : BitVec 256 × State := (Config.freeValue s.free, { s with free := s.free + 1 })

/-! ## The passage of time (R67, R137, R139) -/

/-- Timebase edges after `a` and up to `b`: edges fall at times equal to `ph` modulo 4 (log 14). -/
def edgesBetween (ph a b : Nat) : Nat := (b + 4 - ph % 4) / 4 - (a + 4 - ph % 4) / 4

/-- R137: `n` edges of a car's commutation accumulator. INC is Q16.48, ACC Q32.32; the sum is aligned once (log 13). -/
def Prop0.run (n : Nat) (p : Prop0) : Prop0 :=
  { p with acc := p.acc + ((n : Int) * p.inc + p.add * ((n : Int) * ((n : Int) - 1) / 2)) / 65536
           inc := p.inc + (n : Int) * p.add }

/-- R139: `n` edges of an axis's microstep accumulator. -/
def Axis.run (n : Nat) (a : Axis) : Axis := { a with macc := a.macc + (n : Int) * a.minc }

/-- Move Milestone time on to `t`, never back (log 4), and with it the accumulators and the time since power-good. -/
def State.advance (t : Nat) (s : State) : State :=
  let now := max s.time.now t
  let n := edgesBetween s.time.phase s.time.now now
  { s with
    time := { s.time with now := now, frac := if now = s.time.now then s.time.frac else 0 }
    boot := { s.boot with simNow := s.boot.simNow + (now - s.time.now) }
    cars := s.cars.map fun c => { c with prop := c.prop.run n }
    axes := s.axes.map (Axis.run n) }

/-- R82: the first timebase edge at or after `x`, on the grid of phase `ph` (log 14). -/
def edgeAt (ph x : Nat) : Nat := x + (ph + 4 - x % 4) % 4

/-- R74: the first timebase edge at which Milestone time reaches a multiple of `per`, after `now`. -/
def boundaryAfter (ph per now : Nat) : Nat :=
  let e := edgeAt ph (now / per * per)
  if now < e then e else edgeAt ph ((now / per + 1) * per)

def State.after (s : State) (t0 d : Nat) : Bool := decide (t0 + d ≤ s.time.now)

/-! ## Ledger and journal records (R392, R393, R399) -/

/-- LOGMASK bit of a source (section 0x0D00, R401); all ones by default. -/
def State.logged (s : State) (src : Nat) : Bool := bit (leNat (s.one Cfg.LogMask.sec (List.replicate 32 0xFF))) src

/-- R392, R393: stage a record; a TYPE 0x01 record that finds fewer than 257 places free is dropped and counted. -/
def Ledger.stage (l : Ledger) (r : LRec) : Ledger :=
  if r.type = 1 ∧ 8192 - l.staged.length < 257 then
    { l with dropped := wrapAdd 32 l.dropped 1, dropNew := l.dropNew + 1,
             dropFirst := if l.dropNew = 0 then r.time else l.dropFirst, dropLast := r.time }
  else { l with staged := l.staged ++ [r] }

/-- Stage a ledger record of the present instant. -/
def State.ledger (s : State) (type code reason node : Nat) (data : List Byte) : State :=
  { s with led := s.led.stage ⟨s.time.now, type, code, reason, node, data⟩ }

/-! ## Event sources (R64-R66, R468) -/

/-- An event record (R468). -/
def Rec.event (dom src tgt reason stamp : Nat) (data : List Byte) : Rec :=
  { opc := 0xF000 + src, flg := 0x12, dom := dom, tag := 0xFFFF, tgt := tgt, stamp := stamp, reason := reason,
    data := data, src := some src }

/-- Whether a record of the source waits in the ring's EQ. -/
def Ring.waits (src : Nat) (r : Ring) : Bool := (r.held ++ r.placed).any fun x => x.src == some src

/-- R64: one more occurrence in the waiting record's COAL, saturating at 255. -/
def Rec.fold (src : Nat) (x : Rec) : Rec := if x.src = some src then { x with coal := min 255 (x.coal + 1) } else x

def Ring.fold (src : Nat) (r : Ring) : Ring := { r with held := r.held.map (Rec.fold src), placed := r.placed.map (Rec.fold src) }

/-- R64: whether a firing of the source folds into a record that still waits. -/
def State.folds (s : State) (src : Nat) : Bool := (s.ev.src.getD src {}).flag && s.rings.any (Ring.waits src)

/-- R47: source 0x00 queues no new record within 1 ms of the last. -/
def State.authQuiet (s : State) (src : Nat) : Bool :=
  src == 0 && match s.ev.lastAuth with
    | some t => decide (s.time.now < t + 1000000)
    | none => false

/-- R64, R66: whether a firing of the source queues a record. -/
def State.queues (s : State) (src : Nat) : Bool :=
  (s.ev.src.getD src {}).enabled && !s.folds src && !s.authQuiet src

/-- An event source fires: its flag, its record or the waiting record's COAL (R64), its ledger record (R391). The
payload is padded to a multiple of four (R468). -/
def State.fire (src tgt reason : Nat) (items : List Byte) (s : State) : State :=
  let e := s.ev.src.getD src {}
  { s with
    ev := { src := s.ev.src.modify src fun e => { e with flag := true }
            lastAuth := if src = 0 ∧ s.queues src then some s.time.now else s.ev.lastAuth }
    rings :=
      if s.folds src then s.rings.map (Ring.fold src)
      else if s.queues src then
        s.rings.modify e.eq fun r =>
          { r with held := r.held ++ [Rec.event (r.owner.getD 0) src tgt reason s.time.now (pad4 items)] }
      else s.rings
    led := if s.logged src then s.led.stage ⟨s.time.now, 1, src, reason, tgt, (pad4 items).take 24⟩ else s.led }

/-- R64: the record of a source was consumed; its flag clears. -/
def State.unflag (src : Nat) (s : State) : State :=
  { s with ev := { s.ev with src := s.ev.src.modify src fun e => { e with flag := false } } }

/-- R65: the balls INT0-INT3 asserted. -/
def State.intBalls (s : State) : Nat := s.ev.src.foldl (fun m e => if e.flag then m ||| e.balls % 16 else m) 0

/-! ## Replies (R41-R44) -/

/-- A reply record to a command. -/
def TagRec.reply (tr : TagRec) (flg status reason stamp : Nat) (data : List Byte) : Rec :=
  { opc := tr.opc, flg := flg, dom := tr.dom, tag := tr.tag, tgt := tr.tgt, stamp := stamp, status := status,
    reason := reason, data := data }

/-- R45: note the latest reply of an accepted SEQ, for the last 64. -/
def Ring.note (seq : Nat) (x : Rec) (r : Ring) : Ring :=
  { r with recent := r.recent.map fun p => if p.1 = seq then (p.1, some x) else p }

/-- Queue a reply on the command's EQ (R42), remembering it (R45). -/
def State.queue (tr : TagRec) (x : Rec) (s : State) : State :=
  s.modRing tr.pair fun r => { r.note tr.seq x with held := r.held ++ [x] }

/-- Whether the command is in flight on its ring: its tag, accepted as this command was. -/
def Ring.inFlight (tr : TagRec) (r : Ring) : Bool := r.tags.contains tr

def State.flying (tr : TagRec) (s : State) : Bool := (s.ring tr.pair).inFlight tr

/-- An ACCEPTED reply of this command. -/
def Rec.isAcc (tr : TagRec) (x : Rec) : Bool := x.status == 1 && x.flg % 2 == 1 && x.tag == tr.tag && x.opc == tr.opc

/-- R82: the final reply of a launched command carries its launch edge; that of BANK_SWAP its pass (LOOP cards). -/
def TagRec.stampFor (tr : TagRec) (stamp : Nat) : Nat := if tr.lit && tr.opc != 0x4003 then tr.edge else stamp

/-- R42, R43: the final reply of a command in flight. The tag is free, a waiting ACCEPTED reply is dropped. A LATE
reply counts in LATECNT. Nothing where the tag ended before (R42). -/
def State.finish (tr : TagRec) (status reason stamp : Nat) (data : List Byte) (s : State) : State :=
  if s.flying tr then
    { s with
      rings := s.rings.modify tr.pair fun r =>
        let x := tr.reply 0x05 status reason (tr.stampFor stamp) data
        { r.note tr.seq x with
          tags := r.tags.filter fun y => y != tr
          held := (r.held.filter fun y => !y.isAcc tr) ++ [x] }
      time := { s.time with lateCnt := if status = 5 then wrapAdd 32 s.time.lateCnt 1 else s.time.lateCnt } }
  else s

/-- DONE at the present instant. -/
def State.done (tr : TagRec) (data : List Byte) (s : State) : State := s.finish tr 2 0 s.time.now data
/-- REFUSED by the card's own check. -/
def State.refuse (tr : TagRec) (reason : Nat) (s : State) : State := s.finish tr 3 reason s.time.now []
/-- ABORTED at the present instant. -/
def State.abort (tr : TagRec) (reason : Nat) (s : State) : State := s.finish tr 4 reason s.time.now []
/-- LATE (R84, R85): counts, and event source 0x16 fires (R93). -/
def State.late (tr : TagRec) (reason : Nat) (s : State) : State :=
  if s.flying tr then (s.finish tr 5 reason s.time.now []).fire 0x16 tr.tgt reason [] else s

/-- R41: the ACCEPTED reply, unless NOACC is set. -/
def State.accepted (tr : TagRec) (data : List Byte) (s : State) : State :=
  if s.flying tr ∧ bit tr.flg 2 = false then s.queue tr (tr.reply 0x01 1 0 s.time.now data) else s

/-- The final reply of a packet refused before acceptance, with or without NOTAG (R44, R57). -/
def State.refusePacket (tr : TagRec) (notag : Bool) (reason : Nat) (s : State) : State :=
  s.queue tr (tr.reply (if notag then 0x15 else 0x05) 3 reason s.time.now [])

/-! ## Rings: placing records (R36, R37, R40, R48) -/

/-- Slots a record or packet of LEN bytes takes. -/
def slotsOf (len : Nat) : Nat := (32 + len + 16 + 63) / 64

/-- Ring size in slots (RING_CFG). -/
def ringSlots (code : Nat) : Nat := 64 * 2 ^ min 8 code

/-- R48: either direction's SEQ has reached 0xFFFF_FFF0. -/
def Ring.rekeyOnly (r : Ring) : Bool := decide (0xFFFFFFF0 ≤ r.rxSeq) || decide (0xFFFFFFF0 ≤ r.txSeq)

/-- SESSION_REKEY and SESSION_CLOSE (R48). -/
def rekeyOpc (opc : Nat) : Bool := opc == 0xC030 || opc == 0xC031

/-- Slots in use in the EQ. -/
def Ring.eqUsed (r : Ring) : Nat := (r.eqPi + 2 ^ 32 - r.eqCi) % 2 ^ 32

/-- Whether the next record can be placed now. -/
def Ring.room (r : Ring) (x : Rec) : Bool :=
  match r.sess with
  | none => false
  | some se =>
    match se.tr with
    | .pcie => r.en && decide (r.eqUsed + slotsOf x.data.length ≤ ringSlots r.eqSize)
    | _ => true

/-- R46: the 12-byte nonce as a number, byte 0 least. -/
def nonceOf (se : Session) (toHost : Bool) (seq : Nat) : Nat :=
  se.salt % 2 ^ 32 + 2 ^ 32 * (se.pair % 16 + 128 * b2n toHost) + 2 ^ 40 * (se.epoch % 2 ^ 24) + 2 ^ 64 * (seq % 2 ^ 32)

/-- R380: the keys and the salt of a rekey epoch. -/
def Session.atEpoch (e : Nat) (se : Session) : Session :=
  let k := Config.hkdfExpand se.prk ([0x4C, 0x47, 0x2D, 0x45, 0x50] ++ le 3 e ++ le 1 se.pair)
  { se with epoch := e, keyIn := k % 2 ^ 256, keyOut := k / 2 ^ 256 % 2 ^ 256, salt := k / 2 ^ 512 % 2 ^ 32 }

/-- R382: both directions move to the next epoch, SEQ from 1. -/
def Ring.rekeyed (r : Ring) : Ring :=
  { r with sess := r.sess.map fun se => se.atEpoch (se.epoch + 1), rxSeq := 1, txSeq := 1, recent := [], nearRx := false, nearTx := false }

/-- R382: the DONE reply of SESSION_REKEY, the last record of its epoch. -/
def Rec.rekeys (x : Rec) : Bool := x.src.isNone && x.opc == 0xC030 && x.status == 2 && !bit x.flg 3

/-- Place one record, sealed under the present epoch: over PCIe in host memory, over SPI in the read queue, over Ethernet
it is sent. -/
def Ring.place (r : Ring) (x : Rec) : Ring :=
  let se := r.sess.getD {}
  let y := { x with seq := r.txSeq, key := se.keyOut, nonce := nonceOf se true r.txSeq }
  match (r.sess.map (·.tr)).getD Transport.ethernet with
  | .pcie => { r with txSeq := r.txSeq + 1, eqPi := wrapAdd 32 r.eqPi (slotsOf x.data.length), placed := r.placed ++ [y] }
  | .spi => { r with txSeq := r.txSeq + 1, placed := r.placed ++ [y] }
  | .ethernet => { r with txSeq := r.txSeq + 1, lastSent := some y }

/-- Place held records in order while there is room, up to a rekey; in a rekey-only pair only the replies of R48. Answers
the records placed now. -/
def Ring.pumpList (r : Ring) : List Rec → Ring × List Rec
  | [] => (r, [])
  | x :: xs =>
    if r.rekeyOnly && !(x.src.isNone && rekeyOpc x.opc) then
      Ring.pumpList { r with held := r.held ++ [x] } xs
    else if r.room x && x.rekeys then ({ (r.place x).rekeyed with held := r.held ++ xs }, [x])
    else if r.room x then
      let p := Ring.pumpList (r.place x) xs
      (p.1, x :: p.2)
    else ({ r with held := r.held ++ x :: xs }, [])

/-- Place held records until none can be placed: a rekey ends a round, and the next goes on under the new epoch. -/
def Ring.pumpAll : Nat → Ring → Ring × List Rec
  | 0, r => (r, [])
  | n + 1, r =>
    let p := Ring.pumpList { r with held := [] } r.held
    if p.2.any Rec.rekeys then
      let q := Ring.pumpAll n p.1
      (q.1, p.2 ++ q.2)
    else p

/-- Place what can be placed, and note since when the ring is held full (R63). -/
def Ring.pump (now : Nat) (r : Ring) : Ring × List Rec :=
  let p := Ring.pumpAll (r.held.length + 1) r
  let full := p.1.sess.map (·.tr) == some Transport.pcie && p.1.en && !p.1.held.isEmpty && !p.1.rekeyOnly
  ({ p.1 with fullSince := if full then some (p.1.fullSince.getD now) else none }, p.2)

/-- R65: signal a vector for a written record, masked into the pending-bit array, moderated. -/
def Msix.signal (now vec : Nat) (m : Msix) : Msix :=
  if m.masked.getD vec false then { m with pba := m.pba.set vec true }
  else match m.last.getD vec none with
    | some t =>
      if now < t + 1000 * m.mod.getD vec 0 then { m with modPend := m.modPend.set vec true }
      else { m with last := m.last.set vec (some now), signals := m.signals.modify vec (· + 1) }
    | none => { m with last := m.last.set vec (some now), signals := m.signals.modify vec (· + 1) }

/-- What follows a placed event record: over PCIe the routed vector, over Ethernet the flag clears (R64). -/
def State.placedRec (tr : Transport) (src : Option Nat) (s : State) : State :=
  match src with
  | none => s
  | some n =>
    match tr with
    | .pcie =>
      let v := (s.ev.src.getD n {}).vec
      { s with msix := if v < 32 then s.msix.signal s.time.now v else s.msix }
    | .ethernet => s.unflag n
    | .spi => s

/-- Pump one ring. -/
def State.pumpRing (p : Nat) (s : State) : State :=
  let q := (s.ring p).pump s.time.now
  let tr := (q.1.sess.map (·.tr)).getD Transport.spi
  q.2.foldl (fun s x => s.placedRec tr x.src) { s with rings := s.rings.set p q.1 }

/-- R48: event source 0x04 when either direction's SEQ reaches 0xFFFF_0000, once for each direction and session. -/
def State.nearLimit (p : Nat) (s : State) : State :=
  let r := s.ring p
  let rx := decide (0xFFFF0000 ≤ r.rxSeq) && !r.nearRx
  let tx := decide (0xFFFF0000 ≤ r.txSeq) && !r.nearTx
  if rx || tx then (s.modRing p fun r => { r with nearRx := r.nearRx || rx, nearTx := r.nearTx || tx }).fire 0x04 0 0 [] else s

/-- The sixteen ring pairs. -/
def pairNums : List Nat := List.range 16

/-- Place every record that can be placed: the end of every meaning. -/
def State.flush (s : State) : State :=
  let s := pairNums.foldl (fun s p => s.pumpRing p) s
  if s.rings.any fun r => (decide (0xFFFF0000 ≤ r.rxSeq) && !r.nearRx) || (decide (0xFFFF0000 ≤ r.txSeq) && !r.nearTx) then
    pairNums.foldl (fun s p => s.pumpRing p) (pairNums.foldl (fun s p => s.nearLimit p) s)
  else s

/-- A meaning's outcome: the next state, its records placed. -/
def ok (s : State) : Host.Outcome State Fault Refusal := .next s.flush

/-! ## Memory of the image regions -/

/-- What an unlisted byte reads as: zero (log 7). -/
def memDefault : Byte := 0

/-- Read one byte. -/
def Memory.read (m : Memory) (a : Nat) : Byte := ((m.find? fun c => c.1 == a).map (·.2)).getD memDefault

/-- Write one byte, keeping the canonical form. -/
def Memory.write : Memory → Nat → Byte → Memory
  | [], a, v => if v = memDefault then [] else [(a, v)]
  | c :: cs, a, v =>
    if a < c.1 then (if v = memDefault then c :: cs else (a, v) :: c :: cs)
    else if a = c.1 then (if v = memDefault then cs else (a, v) :: cs)
    else c :: Memory.write cs a v

/-- Write bytes from an address on. -/
def Memory.writeAll : Memory → Nat → List Byte → Memory
  | m, _, [] => m
  | m, a, v :: vs => Memory.writeAll (m.write a v) (a + 1) vs

/-- Read `n` bytes from an address on. -/
def Memory.readAll (m : Memory) : Nat → Nat → List Byte
  | _, 0 => []
  | a, n + 1 => m.read a :: m.readAll (a + 1) n

/-- Canonical form from an address on: strictly rising, no byte listed that an unlisted address reads as. -/
def Memory.wfFrom : Nat → Memory → Bool
  | _, [] => true
  | lo, c :: cs => decide (lo ≤ c.1) && c.2 != memDefault && Memory.wfFrom (c.1 + 1) cs

/-- The canonical form of a memory. -/
def Memory.wf (m : Memory) : Bool := Memory.wfFrom 0 m

/-! ## Order -/

/-- Insertion into a list that rises by a key. -/
def insKey {α : Type} (key : α → Int) (x : α) : List α → List α
  | [] => [x]
  | y :: ys => if key x < key y then x :: y :: ys else y :: insKey key x ys

def sortKey {α : Type} (key : α → Int) (l : List α) : List α := l.foldl (fun acc x => insKey key x acc) []

end Sys2Proof.Machine
end

