-- ==== Sys2Proof/Machine/Operands.lean ====
section
/-! DEFINITION. Operand forms: target nodes (R15-R17), the data hierarchy (R14, R21), protection (R51, R52), doors
(R233), blocks and elements (R94, R97), points (R18, R19). -/

namespace Sys2Proof.Machine

/-! ## Target encoding (R15) -/

def tgtKind (t : Nat) : Nat := t / 2 ^ 28
def tgtIdx (t : Nat) : Nat := t % 2 ^ 28
def tgtOf (k i : Nat) : Nat := k * 2 ^ 28 + i

/-- R15: whether a node kind is valid in the role. -/
def kindInRole (r : Role) (k : Nat) : Bool :=
  match r with
  | .lane => [0, 1, 2, 3, 4, 5, 6, 8].contains k
  | .car => [0, 6, 8, 9, 10].contains k
  | .none => false

/-! ## Elements and the configuration's nodes -/

def State.lanes (s : State) : List (List Byte) := s.recs Cfg.Lane.sec
def State.xings (s : State) : List (List Byte) := s.recs Cfg.Xing.sec
def State.blockCfgs (s : State) : List (List Byte) := s.recs Cfg.Block.sec
def State.segCfgs (s : State) : List (List Byte) := s.recs Cfg.Segment.sec
def State.lane? (s : State) (l : Nat) : Option (List Byte) := s.lanes.find? fun r => Cfg.Lane.LANE r == l
def State.xing? (s : State) (x : Nat) : Option (List Byte) := s.xings.find? fun r => Cfg.Xing.XING r == x
def State.block? (s : State) (b : Nat) : Option (List Byte) := s.blockCfgs.find? fun r => Cfg.Block.BLOCK r == b
def State.seg? (s : State) (g : Nat) : Option (List Byte) := s.segCfgs.find? fun r => Cfg.Segment.SEG r == g

/-- The configured cars: section 0x0206. -/
def State.carNums (s : State) : List Nat := (s.recs Cfg.CarPos.sec).map Cfg.CarPos.CAR

/-- The car number of a CAR device: its one 0x0206 record (log 15). -/
def State.ownCar (s : State) : Nat := ((s.recs Cfg.CarPos.sec).head?.map Cfg.CarPos.CAR).getD 0

/-- R14: the one block that contains a segment whole, if exactly one does. -/
def State.segBlock (s : State) (g : List Byte) : Option Nat :=
  match s.blockCfgs.filter fun b =>
    Cfg.Block.ELEM b == Cfg.Segment.ELEM g && decide (Cfg.Block.START b ≤ Cfg.Segment.START g)
      && decide (Cfg.Segment.END g ≤ Cfg.Block.END b) with
  | [b] => some (Cfg.Block.BLOCK b)
  | _ => none

/-- A node of an element code (R94). -/
def elemNode (e : Nat) : Nat := if e < 8 then tgtOf 2 e else tgtOf 3 (e - 8)

/-! ## Doors and groups (R17, R233) -/

def State.axisConfigured (s : State) (a : Nat) : Bool := s.hasKey Cfg.DoorAxis.sec Cfg.DoorAxis.AXIS a

/-- Configured members of group `g`: its 0x0601 record's, or those of R17. -/
def State.groupMembers (s : State) (g : Nat) : List Nat :=
  let m := match (s.recs Cfg.DoorCfg.sec).find? fun r => Cfg.DoorCfg.DOOR r == g with
    | some r => Cfg.DoorCfg.MEMBERS r
    | none => if g = 0 then 3 else if g = 1 then 12 else 0
  (List.range 4).filter fun a => bit m a && s.axisConfigured a

/-- The group an axis belongs to. -/
def State.groupOf (s : State) (a : Nat) : Option Nat := (List.range 4).find? fun g => (s.groupMembers g).contains a

/-- Members of door `d`: groups 0-3, then the ungrouped axes (R233). -/
def State.doorMembers (s : State) (d : Nat) : List Nat :=
  if d < 4 then s.groupMembers d
  else if d < 8 && s.axisConfigured (d - 4) && (s.groupOf (d - 4)).isNone then [d - 4] else []

/-- The doors of the configuration. -/
def State.doorNums (s : State) : List Nat := (List.range 8).filter fun d => !(s.doorMembers d).isEmpty

/-- The door a target names; an axis in a group names none (R261, 0x6014). -/
def State.doorOf (s : State) (t : Nat) : Option Nat :=
  if tgtKind t = 10 then some (tgtIdx t)
  else if tgtKind t = 9 ∧ s.groupOf (tgtIdx t) = none then some (4 + tgtIdx t) else none

/-- The door an axis moves with. -/
def State.axisDoor (s : State) (a : Nat) : Nat := (s.groupOf a).getD (4 + a)

/-! ## Points (R18, R19) -/

def ptIdx (r : List Byte) : Nat := leNat r % 2 ^ 18
def ptKind (r : List Byte) : Nat := leNat r / 2 ^ 18 % 16
def ptPIndex (r : List Byte) : Nat := leNat r / 2 ^ 22 % 2 ^ 18
def ptType (r : List Byte) : Nat := leNat r / 2 ^ 40 % 256
def ptSource (r : List Byte) : Nat := leNat r / 2 ^ 48 % 65536
def State.ptRecs (s : State) : List (List Byte) := records 8 (s.secBytes 0x0002)
def State.point? (s : State) (i : Nat) : Option (List Byte) := s.ptRecs.find? fun r => ptIdx r == i

/-! ## Node definedness and ancestry (R14, R16, R21) -/

/-- R16: the index lies in the kind's range and the configuration defines the node. -/
def State.defines (s : State) (t : Nat) : Bool :=
  let i := tgtIdx t
  match tgtKind t with
  | 0 => i == 0
  | 1 => i == 0
  | 2 => decide (i < 4) && (s.lane? i).isSome
  | 3 => decide (i < 8) && (s.xing? i).isSome
  | 4 => decide (i < 8192) && (s.block? i).isSome
  | 5 => decide (i < 6144) && ((s.seg? i).bind s.segBlock).isSome
  | 6 => decide (i < 262144) && (s.point? i).isSome
  | 8 => decide (i < 24) && (if s.boot.role = .car then i == s.ownCar && !s.carNums.isEmpty else s.carNums.contains i)
  | 9 => decide (i < 4) && s.axisConfigured i
  | 10 => decide (i < 4) && !(s.groupMembers i).isEmpty
  | _ => false

/-- The parent of a node (R14). -/
def State.parent (s : State) (t : Nat) : Option Nat :=
  let i := tgtIdx t
  match tgtKind t with
  | 1 => some 0
  | 2 => some (tgtOf 1 0)
  | 3 => some (tgtOf 1 0)
  | 4 => (s.block? i).map fun b => elemNode (Cfg.Block.ELEM b)
  | 5 => ((s.seg? i).bind s.segBlock).map (tgtOf 4)
  | 6 => (s.point? i).map fun p => tgtOf (ptKind p) (ptPIndex p)
  | 8 => some (if s.boot.role = .car then 0 else tgtOf 1 0)
  | 9 => some (tgtOf 8 s.ownCar)
  | 10 => some (tgtOf 8 s.ownCar)
  | _ => none

/-- A node and its ancestors, at most `fuel` of them. -/
def State.ancestry (s : State) : Nat → Nat → List Nat
  | 0, t => [t]
  | n + 1, t => t :: ((s.parent t).map (s.ancestry n)).getD []

/-- A node and all its ancestors: at most device, circuit, lane, block, segment, point. -/
def State.line (s : State) (t : Nat) : List Nat := s.ancestry 6 t

/-- Whether an entry grants a class and kind (a control grant implies the query grant). -/
def ProtEntry.grants (e : ProtEntry) (cls : Nat) (query : Bool) : Bool := bit e.ctl cls || (query && bit e.qry cls)

/-- R21, R51, R52: whether the protection entries permit a domain a class and kind on a node. -/
def State.permits (s : State) (es : List ProtEntry) (dom cls : Nat) (query : Bool) (t : Nat) : Bool :=
  (dom == 0 && cls == 0) || es.any fun e => e.edom == dom && e.grants cls query && (s.line t).contains e.node

/-! ## Blocks that contain positions (R97) -/

/-- R97: whether the block contains position `x` of element `e`; `top` is the highest END of the element's blocks. -/
def blockHolds (elem : Nat) (st en top : Int) (e : Nat) (x : Int) : Bool :=
  elem == e && decide (st ≤ x) && (decide (x < en) || (decide (x = en) && decide (en = top)))

/-- The far end of an element: the highest END of its blocks. -/
def State.elemTop (s : State) (e : Nat) : Int :=
  (s.blockCfgs.filter fun b => Cfg.Block.ELEM b == e).foldl (fun m b => max m (Cfg.Block.END b)) (-2147483648)

/-- The block that contains position `x` of element `e`. -/
def State.blockAt (s : State) (e : Nat) (x : Int) : Option Nat :=
  let top := s.elemTop e
  ((s.blockCfgs.find? fun b => blockHolds (Cfg.Block.ELEM b) (Cfg.Block.START b) (Cfg.Block.END b) top e x)).map Cfg.Block.BLOCK

/-- Direction of travel of an element: +1 up or from end to end, -1 down (lane DIR; a Crossing runs from 0 to TRAVEL). -/
def State.elemDir (s : State) (e : Nat) : Int :=
  if e < 8 then (if ((s.lane? e).map Cfg.Lane.DIR).getD 0 = 1 then -1 else 1) else 1

end Sys2Proof.Machine
end

