-- ==== Sys2Proof/Machine/Flags.lean ====
section
/-! DEFINITION. Status words and the events of start-up and power: BOOT_STAT, BOOT_FAULT, SSTAT, IMGST (files 01, 17),
the stage change of R406, wake (R422). -/

namespace Sys2Proof.Machine

/-- R366: BOOT_STAT VAULT. It reads 0b00, its reset value, until stage 1 has checked the vault. -/
def State.vaultCode (s : State) : Nat :=
  if s.vault.checked = false then 0
  else if s.vault.trngBad then 3
  else match s.vault.st with
    | .provisioned => 0
    | .unprovisioned => 1
    | .erased => 2
    | .fault => 3

def roleCode : Role → Nat
  | .none => 0
  | .lane => 1
  | .car => 2

/-- R352: a standby is a paired unit that does not hold the line. -/
def State.standby (s : State) : Bool :=
  match s.pair.st with
  | .syncing => true
  | .ready => true
  | .stale => true
  | .orphan => true
  | .taking => true
  | _ => false

/-- A unit that drives its outputs: unpaired, or holding the Pennant line. -/
def State.serves (s : State) : Bool := !s.standby

/-- PAIR_STATUS PSTATE (R352). -/
def PrSt.code : PrSt → Nat
  | .unpaired => 0
  | .active => 1
  | .alone => 2
  | .syncing => 3
  | .ready => 4
  | .stale => 5
  | .orphan => 6
  | .taking => 7

/-- PFLAGS (PAIR_STATUS). -/
def State.pflags (s : State) : Nat :=
  b2n s.pair.pntOut + 2 * b2n s.pair.pntIn + 4 * b2n s.pair.hbLine + 8 * b2n s.pair.link + 16 * b2n s.safe.tripIn
    + 32 * b2n s.safe.tripOut + 64 * b2n s.pair.pfault + 128 * b2n (s.pair.cfgMatch && s.pair.fwMatch)

/-- R363: payload of the class 0xB events. -/
def State.pairItems (s : State) : List Byte := le 1 s.pair.st.code ++ le 1 s.pair.partner ++ le 1 s.pflags ++ le 4 s.pair.iseq

/-- R359: a proving swap runs: from B0 on. -/
def State.swapping (s : State) : Bool := match s.pair.prove with
  | some p => decide (1 ≤ p.step)
  | none => false

/-- BOOT_STAT (R29). -/
def State.bootStat (s : State) : Nat :=
  s.boot.stage + 16 * roleCode s.boot.role + 64 * b2n s.boot.strapF + 128 * b2n (s.pair.st == .active || s.pair.st == .ready) + 256 * b2n s.pair.pntOut
    + 512 * s.boot.image + 1024 * s.vaultCode + 4096 * b2n s.boot.reduced + 8192 * b2n (s.rings.any fun r => r.sess.isSome)

/-- BOOT_UPTIME: microseconds since power-good, 32 bits. -/
def State.uptime (s : State) : Nat := s.boot.simNow / 1000 % 2 ^ 32

/-- R31: the BOOT_FAULT bits whose condition persists now. -/
def State.faultsPersisting (s : State) : Nat :=
  b2n s.boot.strapF + 8 * b2n (s.vaultCode == 3) + 64 * b2n ((s.field.die.getD 0 {}).linkDown)
    + 128 * b2n ((s.field.die.getD 1 {}).linkDown) + 256 * b2n s.boot.clockFault

/-- Set BOOT_FAULT bits. -/
def State.setFault (m : Nat) (s : State) : State := { s with boot := { s.boot with fault := s.boot.fault ||| m } }

def State.modPr (f : Pair → Pair) (s : State) : State := { s with pair := f s.pair }

/-! ## Inspection (R411) -/

/-- Safety pairs configured with a function (section 0x0700). -/
def State.pairsOf (s : State) (func : Nat) : List (List Byte) :=
  (s.recs Cfg.SafePair.sec).filter fun r => Cfg.SafePair.FUNC r == func

def State.pairClosed (s : State) (r : List Byte) : Bool := (s.safe.pairs.getD (Cfg.SafePair.PAIR r) {}).st == .closed

/-- R411: the INSP pair of this device is not CLOSED. -/
def State.ownInsp (s : State) : Bool := (s.pairsOf 7).any fun r => !s.pairClosed r

/-- R411: whether a car is in inspection. -/
def State.inspected (s : State) (c : Nat) : Bool := s.ownInsp || (s.boot.role == .lane && (s.car c).svc.insp)

/-- SSTAT INSP: a car, or the circuit, in inspection. -/
def State.anyInsp (s : State) : Bool := s.ownInsp || (s.boot.role == .lane && s.carNums.any fun c => (s.car c).svc.insp)

/-- SSTAT (START_STATUS). -/
def State.sstat (s : State) : Nat :=
  b2n s.boot.ready5 + 2 * b2n s.anyInsp + 4 * b2n s.boot.late + 8 * b2n s.boot.purel + 16 * b2n s.boot.autoFail
    + 32 * b2n s.boot.shutMark

/-- POWER: 0 RUN, 1 IDLE, 2 SLEEP. -/
def PowerMode.code : PowerMode → Nat
  | .idle => 1
  | .sleep => 2
  | _ => 0

/-- TRIES of the trial image, 0 where none is on trial. -/
def State.trialTries (s : State) : Nat :=
  if s.boot.imgA.state = 2 then s.boot.imgA.tries else if s.boot.imgB.state = 2 then s.boot.imgB.tries else 0

/-- IMGST: states of images A and B, TRIES of the trial. -/
def State.imgst (s : State) : Nat := s.boot.imgA.state % 8 + 8 * (s.boot.imgB.state % 8) + 64 * (s.trialTries % 4)

/-- R429: payload of the start-up and power events. -/
def State.startItems (s : State) : List Byte :=
  le 1 s.boot.stage ++ le 1 s.power.mode.code ++ le 1 s.sstat ++ le 2 s.imgst

/-- R406: a stage change: entry instant, event source 0x05, ledger record TYPE 0x04. -/
def State.setStage (n : Nat) (s : State) : State :=
  if s.boot.stage = n then s
  else
    let s1 := { s with boot := { s.boot with
      stage := n, stageAt := if 1 ≤ n then s.boot.stageAt.set (n - 1) s.uptime else List.replicate 6 0 } }
    (s1.fire 0x05 0 0 s1.startItems).ledger 4 n 0 0 (le 4 s1.boot.cause ++ le 4 s1.boot.fault ++ s1.boot.mFw.take 16)

/-- R419, R422: enter a power state; event source 0x06 with WAKESRC (log 16). -/
def State.setPower (m : PowerMode) (src : Nat) (s : State) : State :=
  let s1 := { s with power := { s.power with mode := m, wakeSrc := src, idleSince := none } }
  s1.fire 0x06 0 0 (s1.startItems ++ le 1 src)

/-- R422: the device wakes from SLEEP to RUN, and stage 5 ready is found afresh; a sleep entry that waits for its boundary
ends ABORTED with 0x0120 (R423). -/
def State.wakeUp (src : Nat) (s : State) : State :=
  if s.power.mode = .sleep then
    let s1 := s.setPower .run src
    { s1 with boot := { s1.boot with ready5 := false }, chk := { s1.chk with autoDone := false } }
  else match s.power.pend with
    | some (1, tr) => ({ s with power := { s.power with pend := none, wakeSrc := src } } : State).abort tr 0x0120
    | _ => s

/-! ## Supply (R338, R340, SUPPLY_READ) -/

/-- R338, R340: no release sequence begins. -/
def Meter.inhibit (m : Meter) : Bool := m.seqErr || m.neutLoss || m.sag.isSome || m.sagHold.isSome || m.derate

/-- SUPST. -/
def Meter.supst (m : Meter) : Nat :=
  bitsOf [m.sag.isSome, m.swell.isSome, m.intr.isSome, m.seqErr, m.neutLoss, m.freqErr, m.noLoad, m.inhibit, m.derate, m.storeFlt,
    m.epOvf.any id, m.mpDev]

/-! ## Standing cars (R110 "stands", TQ[1]) -/

/-- A car stands with TQ[1] = 1 in its newest report. -/
def State.carStands (s : State) (c : Nat) : Bool := ((s.car c).rep.map fun p => bit p.1.tq 1).getD false

/-- Every configured car stands with TQ[1] = 1. -/
def State.allStand (s : State) : Bool := s.carNums.all s.carStands

end Sys2Proof.Machine
end

