-- ==== Sys2Proof/Machine/Geometry.lean ====
section
/-! DEFINITION. The circuit's geometry as every chapter uses it: elements, routes and joins (R94-R97, R126), car extents
and uncertainty (R95, R105), fixed limits (R108), segment weights (R155), landings (R274). Positions ending in `Q` are
in 2^-32 micrometre. -/

namespace Sys2Proof.Machine

/-- One micrometre in Q32.32. -/
def oneQ : Int := 4294967296

/-- Q32.32 to whole units, halves away from zero (R102). -/
def roundQ (x : Int) : Int := divRound x 4294967296

/-- Planning period in ns. -/
def tickNs : Nat := 125000

/-! ## Records by car -/

def State.carPos (s : State) (c : Nat) : List Byte := s.keyed Cfg.CarPos.sec Cfg.CarPos.CAR c Cfg.CarPos.dflt
def State.carMotion (s : State) (c : Nat) : List Byte := s.keyed Cfg.CarMotion.sec Cfg.CarMotion.CAR c Cfg.CarMotion.dflt
def State.carProp (s : State) (c : Nat) : List Byte := s.keyed Cfg.CarProp.sec Cfg.CarProp.CAR c Cfg.CarProp.dflt
def State.carMass (s : State) (c : Nat) : List Byte := s.keyed Cfg.CarMass.sec Cfg.CarMass.CAR c Cfg.CarMass.dflt
def State.zone (s : State) : List Byte := s.one Cfg.Zone.sec Cfg.Zone.dflt
def State.authCfg (s : State) : List Byte := s.one Cfg.Authority.sec Cfg.Authority.dflt
def State.tailMargin (s : State) : Nat := Cfg.Authority.TAILMARGIN s.authCfg

/-! ## Elements and routes -/

def isLane (e : Nat) : Bool := decide (e < 8)

/-- The elements of the configuration. -/
def State.elems (s : State) : List Nat := s.lanes.map Cfg.Lane.LANE ++ s.xings.map fun x => 8 + Cfg.Xing.XING x

/-- The Crossing record of an element code. -/
def State.xingOf (s : State) (e : Nat) : List Byte := (s.xing? (e - 8)).getD (zeros 24)

/-- Elements that follow `e` in the direction of travel (R126). -/
def State.nexts (s : State) (e : Nat) : List Nat :=
  if isLane e then (s.xings.filter fun x => Cfg.Xing.FROMLANE x == e).map fun x => 8 + Cfg.Xing.XING x
  else match s.xing? (e - 8) with
    | some x => [Cfg.Xing.TOLANE x]
    | none => []

/-- Shortest route from `e` to `t`: the elements after `e`, at most `fuel` of them, each element at most once. -/
def State.routeGo (s : State) (t : Nat) : Nat → List (List Nat) → Option (List Nat)
  | 0, _ => none
  | n + 1, paths =>
    match paths.find? fun p => p.head? == some t with
    | some p => some p.reverse
    | none => s.routeGo t n (paths.flatMap fun p => match p with
        | [] => []
        | e :: _ => ((s.nexts e).filter fun x => !p.contains x).map fun x => x :: p)

/-- The route ahead from element `e` to another element, the first element after `e` first; empty for `e` itself. -/
def State.route (s : State) (e t : Nat) : Option (List Nat) :=
  if e = t then some [] else (s.routeGo t 12 [[e]]).map fun p => p.drop 1

/-- R108, R126: the position in `e` at which the car changes to the following element `n`. -/
def State.joinOut (s : State) (e n : Nat) : Int :=
  if isLane e then Cfg.Xing.FROMJOIN (s.xingOf n) else Cfg.Xing.TRAVEL (s.xingOf e)

/-- The join position of `e` toward another element. -/
def State.joinToward (s : State) (e other : Nat) : Int :=
  match s.route e other with
  | some (n :: _) => s.joinOut e n
  | _ => 0


/-! ## Limits and extents (R95, R105, R108) -/

/-- Fixed limits of an element. -/
def State.limits (s : State) (e : Nat) : Int × Int :=
  if isLane e then match s.lane? e with
    | some l => (Cfg.Lane.LIMLO l, Cfg.Lane.LIMHI l)
    | none => (0, 0)
  else (0, Cfg.Xing.TRAVEL (s.xingOf e))

/-- The car's timebase state of its newest report; UNSET before the first. -/
def Car.tbs (c : Car) : Nat := (c.rep.map fun p => p.1.tbState).getD 0

/-- TQ[1] of the newest report. -/
def Car.stands (c : Car) : Bool := (c.rep.map fun p => bit p.1.tq 1).getD false

/-- R105: the uncertainty of a car's position, in µm. -/
def State.unc (s : State) (c : Nat) : Int :=
  let r := s.carPos c
  let x := s.car c
  let base : Int := match x.pos.trust with
    | 3 => Cfg.CarPos.DWTAPE r
    | 2 => 2 * Cfg.CarPos.DWTAPE r
    | _ => 1000 * Cfg.CarPos.COARSEWIN r
  if x.tbs = 4 then base + divRound (x.pos.vQ.natAbs * s.time.cfg.holdLimit) (4294967296 * 1000000000) else base

/-- R95: extent of a car from its reference point, in µm: above (or ahead of) it, and below it. -/
def State.extUp (s : State) (c e : Nat) : Int :=
  if isLane e then Cfg.CarPos.EXTUP (s.carPos c) else 1000 * Cfg.CarPos.HALFW (s.carPos c)
def State.extDn (s : State) (c e : Nat) : Int :=
  if isLane e then Cfg.CarPos.EXTDN (s.carPos c) else 1000 * Cfg.CarPos.HALFW (s.carPos c)

/-- Extent in a direction, with UNC. -/
def State.reach (s : State) (c e : Nat) (dir : Int) : Int := (if 0 ≤ dir then s.extUp c e else s.extDn c e) + s.unc c

/-! ## Segment weights (R155) -/

/-- Integral up to `x` of a ramp from 0 to 1 of width `b` centred on `c`. -/
def rampArea (b c x : Int) : Int :=
  if x ≤ c - b / 2 then 0
  else if c + b / 2 ≤ x then x - c
  else (x - c + b / 2) * (x - c + b / 2) / (2 * b)

/-- R155: weight of a segment under the array [lo, hi], all in Q32.32. -/
def weightQ (b st en lo hi : Int) : Nat :=
  let area (x : Int) : Int := rampArea b st x - rampArea b en x
  (area hi - area lo).toNat

/-- The magnet array of a car where it is: element, ends, BLENDW and ARMDIST, in Q32.32 µm (R155, R157). -/
structure MagArray where
  car  : Nat
  elem : Nat
  lo   : Int
  hi   : Int
  b    : Int
  arm  : Int
deriving DecidableEq, Repr

def State.magArray (s : State) (c : Nat) : MagArray :=
  let x := (s.car c).pos
  let r := s.carProp c
  { car := c, elem := x.elem, lo := x.pQ + Cfg.CarProp.MAGLO r * oneQ, hi := x.pQ + Cfg.CarProp.MAGHI r * oneQ,
    b := Cfg.CarProp.BLENDW r * oneQ, arm := Cfg.CarProp.ARMDIST r * oneQ }

/-- The arrays of every configured car. -/
def State.magArrays (s : State) : List MagArray := s.carNums.map s.magArray

/-- Array length in µm. -/
def State.arrayLen (s : State) (c : Nat) : Nat := (Cfg.CarProp.MAGHI (s.carProp c) - Cfg.CarProp.MAGLO (s.carProp c)).toNat

/-- R155: weight of a segment record under an array. -/
def MagArray.weight (x : MagArray) (g : List Byte) : Nat :=
  if Cfg.Segment.ELEM g = x.elem then
    let st := Cfg.Segment.START g * oneQ
    let en := Cfg.Segment.END g * oneQ
    if en + x.b ≤ x.lo ∨ x.hi ≤ st - x.b then 0 else weightQ x.b st en x.lo x.hi
  else 0

/-- R157: the array lies within ARMDIST of a segment's soft span. -/
def MagArray.arms (x : MagArray) (g : List Byte) : Bool :=
  let out : Int := x.b / 2 + x.arm
  Cfg.Segment.ELEM g == x.elem && decide (Cfg.Segment.START g * oneQ - out ≤ x.hi) && decide (x.lo ≤ Cfg.Segment.END g * oneQ + out)

/-- The running part of a segment. -/
def State.segRun (s : State) (id : Nat) : Seg := (s.segs.find? fun x => x.id == id).getD { id := id }

/-- Each segment record with its running part; `xs` runs along `gs` and is searched where it does not. -/
def alignSegs (all : List Seg) : List (List Byte) → List Seg → List (List Byte × Seg)
  | [], _ => []
  | g :: gs, x :: xs =>
    if x.id = Cfg.Segment.SEG g then (g, x) :: alignSegs all gs xs
    else (g, (all.find? fun y => y.id == Cfg.Segment.SEG g).getD { id := Cfg.Segment.SEG g }) :: alignSegs all gs (x :: xs)
  | g :: gs, [] => (g, (all.find? fun y => y.id == Cfg.Segment.SEG g).getD { id := Cfg.Segment.SEG g }) :: alignSegs all gs []

/-- The configured segments with their running parts. -/
def State.segPairs (s : State) : List (List Byte × Seg) := alignSegs s.segs s.segCfgs s.segs

/-- Put back the running part of a segment. -/
def State.putSeg (x : Seg) (s : State) : State :=
  { s with segs := if s.segs.any fun y => y.id == x.id then s.segs.map fun y => if y.id = x.id then x else y else s.segs ++ [x] }

/-- Segments that carry a car, with their weights. -/
def State.carrying (s : State) (c : Nat) : List (List Byte × Nat) :=
  let x := s.magArray c
  (s.segCfgs.map fun g => (g, x.weight g)).filter fun p => decide (0 < p.2)

/-- The entry of greatest weight; equal weights go to the lower segment number (R100, R156). -/
def heaviest : List (List Byte × Nat) → Option (List Byte × Nat)
  | [] => none
  | p :: ps => match heaviest ps with
    | none => some p
    | some q => if q.2 < p.2 ∨ (q.2 = p.2 ∧ Cfg.Segment.SEG p.1 < Cfg.Segment.SEG q.1) then some p else some q

/-! ## Landings (R97, R274) -/

/-- Sill positions of a lane's landings. -/
def State.sills (s : State) (l : Nat) : List Int :=
  let d := s.secBytes Cfg.Landings.sec.id
  ((landingEntries (d.length / 4) d).find? fun p => p.1 == l).map (·.2) |>.getD []

/-- Landings of a lane within a distance of a position, after the car's uncertainty. -/
def State.landingNear (s : State) (c : Nat) (win : Int) : Option Nat :=
  let x := (s.car c).pos
  if isLane x.elem then
    (List.range (s.sills x.elem).length).find? fun i =>
      decide ((x.pQ - (s.sills x.elem).getD i 0 * oneQ).natAbs + (s.unc c * oneQ).natAbs ≤ (win * oneQ).natAbs)
  else none

/-- Cars configured and in an element. -/
def State.carsIn (s : State) (e : Nat) : List Nat := s.carNums.filter fun c => (s.car c).pos.elem == e

end Sys2Proof.Machine
end

