-- ==== Sys2Proof/Machine/Accept.lean ====
section
/-! DEFINITION. Acceptance of a command packet (R57 from the SEQ check on) and the running of a card: refusals, replies,
launch (R82-R84). A card row carries a packet that framing and authentication have passed. -/

namespace Sys2Proof.Machine

/-- How a card grants its rights. -/
inductive Rights where
  /-- By the protection table, class and kind (R21). -/
  | cls
  /-- Built in, every domain (R378). -/
  | everyone
  /-- On a provisional session only (R375). -/
  | provisional
  /-- Built in, on its own pair (R382). -/
  | ownPair
deriving DecidableEq, Repr

/-- What a card states: opcode, role (1 LANE, 2 CAR, 3 both), query or control, node kinds it addresses (all where
empty; `kindsC` in the CAR role where it differs), preparation lead in ns where it is launchable, rights, R466, its length rule. -/
structure Card where
  opc     : Nat
  role    : Nat
  query   : Bool
  kinds   : List Nat
  kindsC  : Option (List Nat) := none
  lead    : Option Nat := none
  rights  : Rights := .cls
  enabled : Bool := false
deriving DecidableEq, Repr

/-- OPC[15:12]. -/
def Card.cls (k : Card) : Nat := k.opc / 4096

/-- The node kinds a card addresses in a role. -/
def Card.addresses (k : Card) (r : Role) (kind : Nat) : Bool :=
  let ks := if r = .car then k.kindsC.getD k.kinds else k.kinds
  ks.isEmpty || ks.contains kind

/-- A refusal by a card's own check: reason and reply payload. -/
abbrev Own := Option (Nat × List Byte)

/-- Refuse with a reason and no payload where the test holds. -/
def refuseIf (b : Bool) (reason : Nat) : Own := if b then some (reason, []) else none

/-- The first refusal of a list of checks. -/
def firstOf : List Own → Own
  | [] => none
  | none :: xs => firstOf xs
  | some r :: _ => some r

/-- The tag record a packet would have. -/
def hdrTag (h : Hdr) (opc now edge : Nat) : TagRec :=
  { pair := h.pair, tag := h.tag, opc := opc, flg := h.flg, dom := h.dom, seq := h.seq, tgt := h.tgt, edge := edge, acc := now }

/-! ## Step 3: session and SEQ (R45, R48) -/

/-- What the SEQ rules say of a packet. -/
inductive Hear where
  /-- No session, or the pair is not read: nothing happens. -/
  | ignored
  /-- Rekey-only: discarded silently and counted. -/
  | discarded
  /-- PCIe or SPI, not the next SEQ: 0x0013. -/
  | misordered
  /-- Ethernet, within the last 64 accepted. -/
  | duplicate
  /-- Ethernet, ahead or older: discarded, counted, event source 0x01. -/
  | stray
  /-- The next expected SEQ. -/
  | next
deriving DecidableEq, Repr

/-- R45, R48 for a packet of opcode `opc` and SEQ on a ring. -/
def Ring.hear (r : Ring) (opc seq : Nat) : Hear :=
  match r.sess with
  | none => .ignored
  | some se =>
    if se.tr = .pcie ∧ r.en = false then .ignored
    else if r.rekeyOnly && !rekeyOpc opc then .discarded
    else if seq = r.rxSeq then .next
    else if se.tr = .ethernet then
      (if r.recent.any fun p => p.1 == seq then .duplicate else .stray)
    else .misordered

/-- R45: the packet is taken: the next SEQ is expected, the SEQ joins the last 64 accepted. -/
def Ring.takeSeq (seq : Nat) (r : Ring) : Ring := { r with rxSeq := seq + 1, recent := ((seq, none) :: r.recent).take 64 }

/-- R45: resend the latest reply of a duplicate with DUP = 1, or an ACCEPTED reply where none was given yet. -/
def State.resend (tr : TagRec) (s : State) : State :=
  match ((s.ring tr.pair).recent.find? fun p => p.1 == tr.seq).bind (·.2) with
  | some x => s.modRing tr.pair fun r => { r with held := r.held ++ [{ x with flg := x.flg ||| 8 }] }
  | none =>
    match (s.ring tr.pair).tags.find? fun y => y.seq == tr.seq && y.tag == tr.tag with
    | some y => s.modRing tr.pair fun r => { r with held := r.held ++ [y.reply 0x09 1 0 s.time.now []] }
    | none => s

/-! ## Steps 4-14 (R49, R44, R16, R50, R21, R466, R83) -/

/-- R50: stages and domains. -/
def stageAdmits (stage dom cls : Nat) (prov : Bool) : Bool :=
  match stage with
  | 4 => dom == 2 || prov
  | 5 => dom == 2 || (dom == 0 && [0x0, 0x1, 0x2, 0xB, 0xC, 0xD, 0xE].contains cls)
  | 6 => true
  | _ => false

/-- R375: what a provisional session accepts, by card. -/
def State.provAdmits (s : State) (k : Card) : Bool :=
  k.rights == .provisional || (k.cls == 0xC && k.query) || (k.opc == 0xC011 && s.vault.st != .unprovisioned)

/-- R49, R375: the domain that owns the pair, as the session sees it. -/
def Ring.ownerFor (r : Ring) (se : Session) : Option Nat := if se.prov then some 0 else r.owner

/-- Step 12: rights. -/
def State.rightsOk (s : State) (k : Card) (tr : TagRec) (prov : Bool) : Bool :=
  match k.rights with
  | .cls => prov || s.permits s.prot.entries tr.dom k.cls k.query tr.tgt
  | .everyone => true
  | .provisional => prov
  | .ownPair => true

/-- R83: the launch-time check. -/
def State.launchBad (s : State) (k : Card) (launch : Nat) : Option Nat :=
  if launch = 0 then none
  else if launch < s.time.now then some 0xFF03
  else if launch > s.time.now + 86400 * 10 ^ 9 then some 0x1005
  else if k.lead.isNone then some 0x1006
  else if s.time.tb = .unset then some 0x1001
  else none

/-- Steps 4-6 of R57, which a packet of any opcode meets: domain (R49), tag and credit (R44); `some (notag, reason)` where
the packet is refused. -/
def State.admitRing (s : State) (tr : TagRec) : Option (Bool × Nat) :=
  let r := s.ring tr.pair
  let se := r.sess.getD {}
  if r.ownerFor se ≠ some tr.dom ∨ se.dom ≠ tr.dom then some (false, 0xFF01)
  else if 0xFF < tr.tag then some (true, 0xFF07)
  else if r.tags.any fun x => x.tag == tr.tag then some (true, 0xFF08)
  else if r.quota ≤ r.tags.length then some (true, 0xFF04)
  else none

/-- Steps 8-14 of R57 for a known card. -/
def State.admitCard (s : State) (k : Card) (tr : TagRec) (lenOk : Bool) (launch : Nat) : Option (Bool × Nat) :=
  let prov := ((s.ring tr.pair).sess.getD {}).prov
  if !bit k.role (roleCode s.boot.role - 1) || s.boot.role == .none then some (false, 0xFF06)
  else if !lenOk then some (false, 0xFF07)
  else if !kindInRole s.boot.role (tgtKind tr.tgt) then some (false, 0x0011)
  else if !s.defines tr.tgt then some (false, 0x0012)
  else if !k.addresses s.boot.role (tgtKind tr.tgt) then some (false, 0x0011)
  else if !stageAdmits s.boot.stage tr.dom k.cls prov then some (false, 0x0014)
  else if s.power.shutDown then some (false, 0x0111)
  else if prov && !s.provAdmits k then some (false, 0xC011)
  else if s.standby && !k.query && !([0x0, 0xB, 0xC, 0xD, 0xE] : List Nat).contains k.cls then some (false, 0xB011)
  else if !s.rightsOk k tr prov then some (false, 0xFF01)
  else if k.enabled && s.boot.stage != 6 then some (false, 0xFF09)
  else (s.launchBad k launch).map fun x => (false, x)

/-- Steps 4-14 of R57 for a known card. -/
def State.passes (s : State) (k : Card) (tr : TagRec) (lenOk : Bool) (launch : Nat) : Option (Bool × Nat) :=
  match s.admitRing tr with
  | some x => some x
  | none => s.admitCard k tr lenOk launch

/-- R43, R54: the command is accepted: its tag is in flight, and the device is not idle (R420). -/
def State.addTag (tr : TagRec) (s : State) : State :=
  { s with rings := s.rings.modify tr.pair fun r => { r with tags := r.tags ++ [tr] }
           power := { s.power with idleSince := none } }

/-- A card: what it states, its length rule, its own checks, its effect, and the payload of its ACCEPTED reply. -/
structure CardDef where
  k     : Card
  lenOk : List Byte → Bool
  own   : State → TagRec → List Byte → Own := fun _ _ _ => none
  eff   : TagRec → List Byte → State → State
  acc   : State → TagRec → List Byte := fun _ _ => []

/-- Run an accepted immediate command: its own checks, else its effect, then ACCEPTED if it is still in flight. -/
def runNow (d : CardDef) (tr : TagRec) (data : List Byte) (s : State) : State :=
  match d.own s tr data with
  | some (reason, body) => (s.addTag tr).finish tr 3 reason s.time.now body
  | none =>
    let s1 := d.eff tr data (s.addTag tr)
    s1.accepted tr (d.acc s1 tr)

/-- Queue an accepted command for its launch edge (R82, R86), or answer LATE where the lead is not met (R84). -/
def runLater (d : CardDef) (tr : TagRec) (launch : Nat) (data : List Byte) (s : State) : State :=
  match d.own s tr data with
  | some (reason, body) => (s.addTag tr).finish tr 3 reason s.time.now body
  | none =>
    if launch - s.time.now < d.k.lead.getD 250000 then (s.addTag tr).late tr 0x1010
    else
      let tr := { tr with edge := edgeAt s.time.phase launch }
      let s1 := s.addTag tr
      { s1 with launchQ := s1.launchQ ++ [Launch.mk tr launch data] }.accepted tr []

/-- Steps 4-15 and the effect. -/
def State.accept (s : State) (d : CardDef) (tr : TagRec) (launch : Nat) (data : List Byte) : State :=
  match s.passes d.k tr (d.lenOk data) launch with
  | some (notag, reason) => s.refusePacket tr notag reason
  | none => if launch = 0 then runNow d tr data s else runLater d tr launch data s

/-- R422: a packet on a port that stays awake wakes a sleeping device. -/
def State.packetWakes (s : State) (p : Nat) : Bool :=
  let w := Cfg.Start.WAKEETH (s.one Cfg.Start.sec Cfg.Start.dflt)
  match (s.ring p).sess.map (·.tr) with
  | some Transport.ethernet => w % 16 != 0
  | some Transport.pcie => bit w 4
  | some Transport.spi => bit w 5
  | none => false

def State.packetSource (s : State) (p : Nat) : Nat :=
  match (s.ring p).sess.map (·.tr) with
  | some Transport.pcie => 4
  | some Transport.spi => 5
  | _ => 3

/-- R419, R422: what the power state makes of an arriving packet: nothing is heard in SLEEP on a port that is down. -/
def State.arrival (s : State) (p : Nat) : Option State :=
  if s.packetWakes p then some (s.wakeUp (s.packetSource p)) else if s.power.mode = .sleep then none else some s

/-- R57 step 3, and what follows for a packet that is the next of its ring: its SEQ is taken. -/
def State.heard (s : State) (opc : Nat) (h : Hdr) (next : TagRec → State → State) : State :=
  let tr := hdrTag h opc s.time.now 0
  match (s.ring h.pair).hear opc h.seq with
  | .ignored => s
  | .discarded => s.modRing h.pair fun r => { r with discards := wrapAdd 32 r.discards 1 }
  | .misordered => s.refusePacket tr false 0x0013
  | .duplicate => s.resend tr
  | .stray => (s.modRing h.pair fun r => { r with discards := wrapAdd 32 r.discards 1 }).fire 0x01 0 0 []
  | .next => next tr (s.modRing h.pair (Ring.takeSeq h.seq))

/-- R57 from step 3 on. -/
def State.receive (s : State) (d : CardDef) (h : Hdr) (data : List Byte) : State :=
  s.heard d.k.opc h fun tr s => s.accept d tr h.launch data

/-- A card row: the packet arrives at its instant and is carried through R57. -/
def runCard (d : CardDef) (h : Hdr) (data : List Byte) (s : State) : State :=
  let s := s.advance h.t
  match s.arrival h.pair with
  | none => s
  | some s => s.receive d h data

/-- A query card: its effect is a DONE reply with a payload read from the state. -/
def answer (f : State → TagRec → List Byte → List Byte) : TagRec → List Byte → State → State :=
  fun tr data s => s.done tr (f s tr data)

/-- Length of exactly `n` bytes. -/
def lenIs (n : Nat) : List Byte → Bool := fun d => d.length == n

end Sys2Proof.Machine
end

