-- ==== Sys2Proof/Machine/Crypto.lean ====
section
/-! DEFINITION. The cryptographic checks every chapter shares (file 15): signatures, keys, certificates, over the
uninterpreted primitives of Config (log 5). -/

namespace Sys2Proof.Machine

/-- An ECDSA P-384 signature verifies under a public key. -/
def ecdsaOk (pub : Nat) (msg : List Byte) (sig : Nat) : Bool :=
  sig == (Config.ecdsaSig pub msg).toNat || Config.ecdsaOther pub msg sig

/-- An ML-DSA-65 signature verifies under a public key. -/
def mldsaOk (pub : Nat) (msg : List Byte) (sig : Nat) : Bool :=
  sig == (Config.mldsaSig pub msg).toNat || Config.mldsaOther pub msg sig

/-- R372, R386: both signatures verify under a pair of public keys (ECDSA, ML-DSA). -/
def bothOk (keys : Nat × Nat) (msg : List Byte) (sigE sigQ : Nat) : Bool := ecdsaOk keys.1 msg sigE && mldsaOk keys.2 msg sigQ

end Sys2Proof.Machine
end

