-- ==== Sys2Proof/Machine/Ledger.lean ====
section
/-! DEFINITION. The event ledger and the trip journal (file 16): records, commit at ticks, clearing, LEDGER_SNAPSHOT,
LEDGER_READ, LEDGER_HEAD, LEDGER_CLEAR, JOURNAL_READ. -/

namespace Sys2Proof.Machine

/-! ## Identity the ledger names (R367) -/

/-- The ID public keys: the 97-byte P-384 key, then the 1,952-byte ML-DSA-65 key (R367). -/
def idKeys : List Byte := le 2049 (Config.idPublic Config.rootSecret).toNat

/-- DEVID: the first 16 bytes of SHA-384 over the identity public keys (R367). -/
def devid : List Byte := (le 48 (Config.sha384 idKeys).toNat).take 16

/-- The present epoch: vault counter 1 (R389). -/
def State.epoch (s : State) : Nat := s.vault.ctr.getD 1 0

/-- The most writes a vault counter is granted (R365). -/
def ctrEndurance : Nat := 2 ^ 20

/-- R365: raise a vault counter, one write. -/
def State.raiseCtr (i v : Nat) (s : State) : State :=
  { s with vault := { s.vault with ctr := s.vault.ctr.set i v, writes := s.vault.writes.modify i (· + 1) } }

/-- Whether a counter has endurance left. -/
def State.ctrLeft (s : State) (i : Nat) : Bool := decide (s.vault.writes.getD i 0 < ctrEndurance)

/-! ## Records (R389, R390) -/

/-- Bytes 8-47 of a ledger record. -/
def LRec.body (r : LRec) : List Byte :=
  le 8 r.time ++ le 1 r.type ++ le 1 r.code ++ le 2 r.reason ++ le 4 r.node ++ (r.data ++ zeros 24).take 24

/-- R390: the CHAIN that precedes SEQ 0. -/
def chainSeed (epoch : Nat) : List Byte :=
  (le 48 (Config.sha384 ([0x4C, 0x47, 0x2D, 0x4C, 0x45, 0x44, 0x47, 0x45, 0x52] ++ devid ++ le 4 epoch)).toNat).take 16

/-- CHAIN of the committed head, or the seed. -/
def Ledger.headChain (l : Ledger) (epoch : Nat) : List Byte := (l.recs.getLast?.map (·.2)).getD (chainSeed epoch)

/-- R389: CHAIN of a record at SEQ. -/
def chainOf (prev : List Byte) (epoch seq : Nat) (r : LRec) : List Byte :=
  (le 48 (Config.sha384 (prev ++ le 4 seq ++ le 4 epoch ++ r.body)).toNat).take 16

/-- The 64 bytes of a committed record. -/
def recBytes (epoch seq : Nat) (p : LRec × List Byte) : List Byte := le 4 seq ++ le 4 epoch ++ p.1.body ++ p.2

/-- Append a record to the committed ones. -/
def Ledger.put (l : Ledger) (epoch : Nat) (r : LRec) : Ledger :=
  { l with recs := l.recs ++ [(r, chainOf (l.headChain epoch) epoch l.recs.length r)] }

/-! ## The trip journal (R399, R400) -/

/-- Records the journal holds. -/
def journalSize : Nat := 65536

/-- R399, R400: one journal record; the oldest is overwritten; JOVER counts what JRD had not passed; 0xD4 past 49,152
unread. -/
def State.journal (type car : Nat) (data : List Byte) (s : State) : State :=
  let j := s.jrn
  let r : JRec := { seq := j.jseq, type := type, car := car, time := s.time.now, data := (data ++ zeros 48).take 48 }
  let kept := if journalSize ≤ j.recs.length then j.recs.drop 1 else j.recs
  let lost := match j.recs.head? with
    | some o => decide (journalSize ≤ j.recs.length) && decide ((o.seq + 2 ^ 32 - j.jrd) % 2 ^ 32 < 2 ^ 31)
    | none => false
  let next := wrapAdd 32 j.jseq 1
  let unread := (next + 2 ^ 32 - j.jrd) % 2 ^ 32
  let s1 := { s with jrn := { j with
    recs := kept ++ [r], jseq := next
    jrd := if lost then wrapAdd 32 j.jrd 1 else j.jrd
    jover := if lost then wrapAdd 32 j.jover 1 else j.jover
    fired := decide (49152 < unread) } }
  if decide (49152 < unread) && !j.fired then s1.fire 0xD4 0 0 (le 4 s1.epoch ++ le 4 s1.led.recs.length ++ le 4 s1.led.dropped ++ le 4 s1.led.lostFull) else s1

/-- R402: payload of the class 0xD events. -/
def State.ledItems (s : State) : List Byte := le 4 s.epoch ++ le 4 s.led.recs.length ++ le 4 s.led.dropped ++ le 4 s.led.lostFull

/-! ## Commit (R392, R393, R395) -/

/-- R395: what becomes of a record that cannot be written. -/
def State.notWritten (r : LRec) (s : State) : State :=
  { s with led := { s.led with lostFull := wrapAdd 32 s.led.lostFull 1 } }.journal 7 0xFF r.body

/-- R392, R395: commit one record: ordinary recording ends with SEQ 262,142, and SEQ 262,143 holds a TYPE 0x0B record. -/
def State.commitRec (r : LRec) (s : State) : State :=
  let n := s.led.recs.length
  if 262144 ≤ n then s.notWritten r
  else if n = 262143 then
    let s1 := { s with led := { s.led.put s.epoch ⟨s.time.now, 0x0B, 0, 0, 0, []⟩ with full := true } }.notWritten r
    s1.fire 0xD1 0 0 s1.ledItems
  else
    let s1 := { s with led := s.led.put s.epoch r }
    if n = 196607 then { s1 with led := { s1.led with q75 := true } }.fire 0xD0 0 0 s1.ledItems else s1

/-- Commit the first `n` staged records, in staging order. -/
def State.commitN (n : Nat) (s : State) : State :=
  let xs := s.led.staged.take n
  xs.foldl (fun s r => s.commitRec r) { s with led := { s.led with staged := s.led.staged.drop n } }

/-- R393: once the queue has drained below 4,096, the dropped records are told. -/
def State.tellDropped (s : State) : State :=
  if s.led.dropNew = 0 ∨ 4096 ≤ s.led.staged.length then s
  else
    let l := s.led
    let s1 := { s with led := { l with dropNew := 0 } }.ledger 0x0A 0 0 0 (le 4 l.dropNew ++ le 8 l.dropFirst ++ le 8 l.dropLast)
    s1.fire 0xD2 0 0 s1.ledItems

/-- LEDGER_COMMIT (R392, R393): up to 64 records each tick. -/
def State.ledgerCommit (s : State) : State := (s.commitN 64).tellDropped

/-- LEDGER_EPOCH_START (R398): a waiting clear takes effect. -/
def State.epochStart (s : State) : State :=
  match s.led.clear with
  | none => s
  | some c =>
    let s1 := s.commitN s.led.staged.length
    let old := s1.epoch
    let hi := s1.led.recs.length - 1
    let unseen := hi - c.seenHi
    let prev := s1.led.headChain old
    let s2 := s1.raiseCtr 1 (old + 1)
    let first : LRec := ⟨s.time.now, 0x03, 0, satN 16 unseen, 0, le 4 old ++ le 4 hi ++ prev⟩
    let l : Ledger := { s2.led with recs := [], dropped := 0, dropNew := 0, lostFull := 0, q75 := false, full := false, clear := none }
    let s3 := { s2 with led := l.put (old + 1) first }
    let s4 := s3.fire 0xD3 0 0 s3.ledItems
    s4.done c.tag (le 4 (old + 1) ++ le 4 unseen ++ le 8 s.time.now)

/-! ## Pieces of a signed statement (R377, R396) -/

/-- The piece of a statement asked for: OFFSET, MAXLEN. -/
def piece (bytes : List Byte) (off len : Nat) : List Byte := (bytes.drop off).take len

/-- Signatures over a body: ECDSA P-384 then ML-DSA-65, by the alias keys of this firmware (R367, log 5). -/
def aliasKey (mRom mFw : List Byte) : Nat :=
  Config.hkdf 0 (Config.hmac384 (Config.hmac384 Config.rootSecret mRom).toNat mFw).toNat [0x4C, 0x47, 0x2D, 0x41, 0x4C]

def State.aliasSigns (s : State) (body : List Byte) : List Byte :=
  let k := aliasKey s.boot.mRom s.boot.mFw
  body ++ le 96 (Config.ecdsaSig k body).toNat ++ le 3309 (Config.mldsaSig k body).toNat

/-- The statement kept for a pair: same kind, same NONCE, within 10 s. -/
def State.kept (s : State) (which pair : Nat) (nonce : List Byte) : Option Quote :=
  s.sec.quotes.find? fun q => q.which == which && q.pair == pair && q.nonce == nonce && decide (s.time.now < q.at0 + 10 * 10 ^ 9)

/-- Keep a statement for its pair, in place of any before it. -/
def State.keep (q : Quote) (s : State) : State :=
  { s with sec := { s.sec with quotes := q :: s.sec.quotes.filter fun x => !(x.which == q.which && x.pair == q.pair) } }

/-! ## Cards -/

def ledgerSnapshotReply (s : State) (_tr : TagRec) (_d : List Byte) : List Byte :=
  let l := s.led
  le 4 s.epoch ++ le 4 l.recs.length ++ (if l.recs.isEmpty then zeros 16 else l.headChain s.epoch) ++ le 8 s.time.now
    ++ le 4 l.staged.length ++ le 4 l.dropped ++ le 4 l.lostFull ++ le 1 (b2n l.q75 + 2 * b2n l.full + 4 * b2n l.clear.isSome) ++ zeros 3

def ledgerSnapshotCard : CardDef where
  k := { opc := 0xD002, role := 3, query := true, kinds := [0] }
  lenOk := lenIs 0
  eff := answer ledgerSnapshotReply

/-- LEDGER_SNAPSHOT (R396). -/
def execLedgerSnapshot (h : Hdr) (data : List Byte) (s : State) : Host.Outcome State Fault Refusal := ok (runCard ledgerSnapshotCard h data s)

/-- R396: the epoch and the range. -/
def ledgerReadOwn (s : State) (_tr : TagRec) (d : List Byte) : Own :=
  firstOf [refuseIf (rd d 0 4 != s.epoch) 0xD010, refuseIf (decide (s.led.recs.length < rd d 4 4 + rd d 8 2)) 0xD011]

def ledgerReadReply (s : State) (_tr : TagRec) (d : List Byte) : List Byte :=
  let st := rd d 4 4
  let n := rd d 8 2
  le 4 s.epoch ++ le 2 n ++ zeros 2
    ++ ((List.range n).flatMap fun i => match s.led.recs[st + i]? with
        | some p => recBytes s.epoch (st + i) p
        | none => [])

def ledgerReadCard : CardDef where
  k := { opc := 0xD003, role := 3, query := true, kinds := [0] }
  lenOk := fun d => d.length == 12 && decide (1 ≤ rd d 8 2) && decide (rd d 8 2 ≤ 62)
  own := ledgerReadOwn
  eff := answer ledgerReadReply

/-- LEDGER_READ (R396). -/
def execLedgerRead (h : Hdr) (data : List Byte) (s : State) : Host.Outcome State Fault Refusal := ok (runCard ledgerReadCard h data s)

/-- R396: the body that LEDGER_HEAD signs. -/
def State.headBody (s : State) (nonce : List Byte) : List Byte :=
  nonce ++ devid ++ le 4 s.epoch ++ le 4 s.led.recs.length ++ (if s.led.recs.isEmpty then zeros 16 else s.led.headChain s.epoch)
    ++ le 8 s.time.now ++ zeros 4

/-- Serving a statement in pieces (R377, R396): OFFSET 0 makes a new one and keeps it for the pair; another OFFSET is
served from the one kept. The reply: TOTAL, OFFSET, COUNT, DATA. -/
def State.serve (which : Nat) (mk : List Byte → List Byte) (tr : TagRec) (d : List Byte) (s : State) : State :=
  let nonce := d.take 32
  let fresh : Quote := { pair := tr.pair, which := which, nonce := nonce, bytes := mk nonce, at0 := s.time.now }
  let q := if rd d 32 2 = 0 then fresh else (s.kept which tr.pair nonce).getD fresh
  let max := if rd d 34 2 = 0 then q.bytes.length else rd d 34 2
  let p := piece q.bytes (rd d 32 2) max
  (s.keep q).done tr (le 2 q.bytes.length ++ le 2 (rd d 32 2) ++ le 2 p.length ++ zeros 2 ++ p)

/-- Refusals of a piece: no statement kept with this NONCE (0xC060), or OFFSET beyond TOTAL (0xC061). -/
def State.serveOwn (s : State) (which total : Nat) (tr : TagRec) (d : List Byte) : Own :=
  firstOf [
    refuseIf (rd d 32 2 != 0 && (s.kept which tr.pair (d.take 32)).isNone) 0xC060,
    refuseIf (decide (total ≤ rd d 32 2)) 0xC061]

/-- MAXLEN is 0, or 256 to TOTAL. -/
def maxLenOk (total : Nat) (n : Nat) : Bool := n == 0 || (decide (256 ≤ n) && decide (n ≤ total))

def ledgerHeadCard : CardDef where
  k := { opc := 0xD004, role := 3, query := true, kinds := [0] }
  lenOk := fun d => d.length == 36 && maxLenOk 3489 (rd d 34 2)
  own := fun s tr d => s.serveOwn 1 3489 tr d
  eff := fun tr d s => s.serve 1 (fun n => s.aliasSigns (s.headBody n)) tr d

/-- LEDGER_HEAD (R396). -/
def execLedgerHead (h : Hdr) (data : List Byte) (s : State) : Host.Outcome State Fault Refusal := ok (runCard ledgerHeadCard h data s)

/-- R397: the checks of a countersigned clear, in order. -/
def ledgerClearOwn (s : State) (tr : TagRec) (d : List Byte) : Own :=
  let body := d.take 56
  let hi := rd d 20 4
  let cred := s.sec.creds.getD 2 none
  firstOf [
    refuseIf (tr.dom != 0 || cred.isNone) 0xD015,
    refuseIf (s.led.clear.isSome) 0xD017,
    (match cred with
      | some c => refuseIf (!(bothOk c body (rd d 56 96) (rd d 152 3309))) 0xD012
      | none => none),
    refuseIf (d.take 16 != devid || rd d 16 4 != s.epoch || (s.led.recs[hi]?).map (·.2) != some ((d.drop 24).take 16)) 0xD013,
    refuseIf (decide (rd d 40 8 ≤ s.time.now)) 0xD014,
    refuseIf (!s.ctrLeft 1) 0xD016]

def ledgerClearEff (tr : TagRec) (d : List Byte) (s : State) : State :=
  { s with led := { s.led with clear := some { tag := tr, seenHi := rd d 20 4 } } }

def ledgerClearCard : CardDef where
  k := { opc := 0xD005, role := 3, query := false, kinds := [0] }
  lenOk := lenIs 3461
  own := ledgerClearOwn
  eff := ledgerClearEff

/-- LEDGER_CLEAR (R397, R398). -/
def execLedgerClear (h : Hdr) (data : List Byte) (s : State) : Host.Outcome State Fault Refusal := ok (runCard ledgerClearCard h data s)

/-- The 64 bytes of a journal record (R399). -/
def JRec.bytes (r : JRec) : List Byte := le 4 r.seq ++ le 1 r.type ++ le 1 r.car ++ zeros 2 ++ le 8 r.time ++ r.data

/-- R400: where a read begins: the record asked for, or the oldest held where it is overwritten. -/
def Journal.from (j : Journal) (seq : Nat) : List JRec × Bool :=
  let oldest := (j.recs.head?.map (·.seq)).getD j.jseq
  let skip := (seq + 2 ^ 32 - oldest) % 2 ^ 32
  if skip < 2 ^ 31 then (j.recs.drop skip, false) else (j.recs, true)

/-- JOURNAL_READ (R400): the records, and with ACK the host's place moves. -/
def journalReadEff (tr : TagRec) (d : List Byte) (s : State) : State :=
  let j := s.jrn
  let p := j.from (rd d 0 4)
  let xs := p.1.take (rd d 4 2)
  let first := (xs.head?.map (·.seq)).getD (rd d 0 4)
  let body := le 4 first ++ le 4 (wrapAdd 32 j.jseq (2 ^ 32 - 1)) ++ le 4 j.jover ++ le 2 xs.length ++ le 1 (b2n p.2) ++ zeros 1 ++ xs.flatMap JRec.bytes
  let s1 := if rd d 6 1 = 1 then
      let jrd := match xs.getLast? with
        | some r => wrapAdd 32 r.seq 1
        | none => j.jrd
      { s with jrn := { j with jrd := jrd, fired := decide (49152 < (j.jseq + 2 ^ 32 - jrd) % 2 ^ 32) } }
    else s
  s1.done tr body

def journalReadCard : CardDef where
  k := { opc := 0xD010, role := 3, query := false, kinds := [0] }
  lenOk := fun d => d.length == 8 && decide (1 ≤ rd d 4 2) && decide (rd d 4 2 ≤ 62)
  eff := journalReadEff

/-- JOURNAL_READ (R400). -/
def execJournalRead (h : Hdr) (data : List Byte) (s : State) : Host.Outcome State Fault Refusal := ok (runCard journalReadCard h data s)

end Sys2Proof.Machine
end

