-- ==== Sys2Proof/Machine/Faults.lean ====
section
/-! DEFINITION. Faults, their reactions and the trip latch (file 10: R264-R268, R276-R278). -/

namespace Sys2Proof.Machine

/-! ## Status words -/

/-- LATCH of SAFETY_STATUS. -/
def State.latchByte (s : State) : Nat :=
  b2n s.safe.latch + 2 * b2n s.safe.netA + 4 * b2n s.safe.netB + 8 * b2n s.safe.trunkLvl + 16 * b2n s.safe.land

/-- R286: payload of the class 0x7 events. -/
def State.safeItems (s : State) (fcode which car : Nat) : List Byte := le 1 fcode ++ le 1 which ++ le 1 car ++ le 1 s.latchByte

/-- R178: payload of the class 0x3 events. -/
def trunkItems (trunk hop seg car new : Nat) : List Byte := le 1 trunk ++ le 2 hop ++ le 2 seg ++ le 1 car ++ le 1 new

/-- R166, R178: STO injection begins (1) or ends (0) on the trunks of a LANE device. -/
def State.stoInjection (on : Nat) (s : State) : State :=
  if s.boot.role = .lane then s.fire 0x3A 0 0 (trunkItems 0xFF 0xFFFF 0xFFFF 0xFF on) else s

/-- R277: the reaction of each fault, as its rank in R278. -/
def reactOf (code : Nat) : Nat :=
  match code with
  | 0x01 => 6 | 0x02 => 6 | 0x03 => 6 | 0x04 => 6
  | 0x05 => 4 | 0x06 => 4 | 0x07 => 4 | 0x08 => 4
  | 0x09 => 1 | 0x0A => 1 | 0x0B => 3 | 0x0C => 1
  | 0x0D => 3 | 0x0E => 0 | 0x0F => 4 | 0x10 => 4
  | 0x11 => 4 | 0x12 => 5 | 0x13 => 5 | 0x14 => 2
  | 0x15 => 2 | 0x16 => 6 | 0x17 => 4
  | _ => 0

/-! ## Recording (R277, R278, R391) -/

/-- Whether a fault of this code, car and element stands. -/
def State.faulted (s : State) (code car : Nat) : Bool := s.safe.faults.any fun f => f.code == code && f.car == car

/-- A fault is detected: it stands from now, is recorded in the ledger (TYPE 0x02) and told (0x73); its reaction follows
at the fast tick (R278). A fault that stands is not recorded again. -/
def State.fault (code car elem : Nat) (s : State) : State :=
  if s.safe.faults.any fun f => f.code == code && f.car == car && f.elem == elem then s
  else
    let pos : Int := if car < 24 then roundQ (s.car car).pos.pQ else 0
    let s1 := { s with safe := { s.safe with faults := s.safe.faults ++
      [({ code := code, react := reactOf code, car := car, elem := elem, since := s.time.now } : FaultRec)] } }
    let s2 := s1.ledger 2 code (reactOf code) (if car < 24 then tgtOf 8 car else 0) (le 1 car ++ le 1 elem ++ zeros 2 ++ leS 4 pos)
    s2.fire 0x73 (if car < 24 then tgtOf 8 car else 0) 0 (s2.safeItems code 0xFF car)

/-- The faults of a kind end: each end is told (0x73). -/
def State.unfault (p : FaultRec → Bool) (s : State) : State :=
  let gone := s.safe.faults.filter p
  if gone.isEmpty then s else
  let left := s.safe.faults.filter fun f => !p f
  let s1 := { s with safe := { s.safe with faults := left, land := s.safe.land && left.any fun f => f.react == 2 } }
  gone.foldl (fun s f => s.fire 0x73 (if f.car < 24 then tgtOf 8 f.car else 0) 0 (s.safeItems f.code 0xFF f.car)) s1

/-- The cars in the scope of a fault (R277): a car, the cars of a lane, or every car. -/
def State.scope (s : State) (f : FaultRec) : List Nat :=
  if f.car < 24 then [f.car]
  else if f.code = 0x05 then s.carsIn f.elem
  else s.carNums

/-! ## Safe outputs (R265, R268) -/

/-- The safe outputs with a function (section 0x0701). -/
def State.soOf (s : State) (func : Nat) : List Nat :=
  ((s.recs Cfg.SafeOut.sec).filter fun r => Cfg.SafeOut.SOFUNC r == func).map Cfg.SafeOut.SO

/-- Set the asserted state of the outputs with a function. -/
def State.driveSo (func : Nat) (on : Bool) (s : State) : State :=
  { s with safe := { s.safe with so := (s.soOf func).foldl (fun l n => l.set n on) s.safe.so } }

/-! ## The trip latch (R265-R268) -/

/-- R171: the CAR device commands its brakes applied. -/
def State.applyBrakes (auto : Bool) (s : State) : State :=
  { s with crole := { s.crole with applied := true, releaseAt := none, auto := s.crole.auto || (auto && !s.crole.applied) } }.driveSo 2 false

/-- R268: from the latch on, the PSTATE of every car reads 0; the propulsion sequence is lost. -/
def Car.depower (c : Car) : Car :=
  { c with prop := { c.prop with pstate := 0, force := 0, forceV := 0, seq := .braked, action := 0, actAt := 0 } }

/-- R354: what the STO and BRAKE outputs may do: the latch is clear, and a standby is READY. -/
def State.soMay (s : State) : Bool := !s.safe.latch && (s.serves || s.pair.st == .ready)

/-- R265, R280, R354: the STO outputs follow the latch, the BRAKE outputs the latch and the brake command (R171). -/
def State.refreshSo (s : State) : State := (s.driveSo 1 s.soMay).driveSo 2 (s.soMay && !s.crole.applied)

/-- R352: the pair state changes: event source 0xB0, and the outputs that depend on it (R354). -/
def State.setPair (x : PrSt) (s : State) : State :=
  if s.pair.st = x then s
  else
    let s1 := { s with pair := { s.pair with st := x } }
    (s1.fire 0xB0 0 0 s1.pairItems).refreshSo

/-- R345, R346: the Pennant hold falls; the unit is a standby from then on. -/
def State.dropHold (s : State) : State :=
  if s.pair.pntOut then { s with pair := { s.pair with pntOut := false, held := true } }.setPair .stale else s

/-- Unit-internal causes of R353 among the causes of R266. -/
def internalCauses : Nat := 0x6700

/-- R265-R267: a trip. Causes in FIRSTC coding, networks 1 A and 2 B; only the first is recorded. STO and BRAKE outputs
go off, the trunk level asserts in the LANE role, TRIP_OUT and the Pennant hold answer as R353 says, a sleeping device
wakes (R422). TRIPAT has 25 ns steps. -/
def State.tripAs (internal : Bool) (causes nets : Nat) (s : State) : State :=
  let s0 := { s with safe := { s.safe with netA := s.safe.netA || bit nets 0, netB := s.safe.netB || bit nets 1 } }
  if s.safe.latch then s0
  else
    let hand := internal && s.pair.st == .active
    let s1 := { s0 with
      safe := { s0.safe with
        latch := true, firstC := causes, tripAt := s.time.now / 25 * 25
        trips := wrapAdd 32 s.safe.trips 1, latchSeen := false, tripOut := if internal then !hand else causes != 0x1000
        trunkLvl := s.safe.trunkLvl || decide (s.boot.role = Role.lane) }
      cars := if s.boot.role = Role.lane then s.cars.map Car.depower else s.cars
      power := { s.power with idleSince := none } }
    let s2 := s1.refreshSo
    let s3 := if s.boot.role = .car then s2.applyBrakes true else s2
    let s4 := if hand then s3.dropHold else s3
    (if s.safe.trunkLvl then s4 else s4.stoInjection 1).wakeUp 6

/-- A trip by causes of R266 or by pairs. -/
def State.trip (causes nets : Nat) (s : State) : State := s.tripAs (causes &&& internalCauses != 0) causes nets

/-- A cause of R266 begins to stand, and trips both networks. -/
def State.tripCause (causes : Nat) (s : State) : State :=
  { s with safe := { s.safe with causes := s.safe.causes ||| causes } }.trip causes 3

/-- A cause of R266 no longer stands. -/
def State.endCause (causes : Nat) (s : State) : State := { s with safe := { s.safe with causes := clearBits s.safe.causes causes } }

/-- SOFTTRIP (R276): a safety-core write sets the latch; the write does not stand on. -/
def State.softTrip (s : State) : State := s.trip 0x800 3

/-! ## Requests for stops (R116, R117, R131) -/

/-- Ask a car's plan for a stop; it takes effect at the boundary of R116. -/
def State.askStop (kind : StopKind) (tag : Option TagRec) (c : Nat) (s : State) : State :=
  s.modCar c fun x => { x with plan := { x.plan with stops := x.plan.stops ++ [{ kind := kind, tag := tag, due := s.time.now + 31250 }] } }

/-- Ask the plans of a door's member axes for a stop. -/
def State.askDoorStop (kind : StopKind) (tag : Option TagRec) (d : Nat) (s : State) : State :=
  let ms := s.doorMembers d
  { s with axes := s.axes.mapIdx fun i a =>
      if ms.contains i then { a with plan := { a.plan with stops := a.plan.stops ++
        [{ kind := kind, tag := if ms.head? = some i then tag else none, due := s.time.now + 31250 }] } } else a }

/-- R276, R278: one fault's reaction on its scope. -/
def State.react (f : FaultRec) (s : State) : State :=
  match f.react with
  | 6 => if f.code = 0x02 then s.softTrip else if f.code = 0x16 then s.tripAs true 0x800 3 else s
  | 5 =>
    let s1 := s.driveSo 3 false
    (s1.fire 0x77 (tgtOf 8 f.car) 0 (s1.safeItems f.code 0xFF f.car)).softTrip
  | 4 => (s.scope f).foldl (fun s c => s.askStop .s3 none c) s
  | 3 => (s.scope f).foldl (fun s c => s.askStop .s2 none c) s
  | 2 => { s with safe := { s.safe with land := true } }
  | 1 => (s.scope f).foldl (fun s c => s.askStop .s1 none c) s
  | _ => s.askDoorStop .s2 none f.elem

/-- FAULT_REACTION (R278): every fault detected since the last fast tick has its reaction; the planner applies the
strongest stop (R117). -/
def State.faultReactions (s : State) : State :=
  let new := s.safe.faults.filter fun f => !f.begun
  let s1 := { s with safe := { s.safe with faults := s.safe.faults.map fun f => { f with begun := true } } }
  new.foldl (fun s f => s.react f) s1

/-! ## Pairs and arming (R263, R264, R269) -/

def State.pairCfg (s : State) (p : Nat) : Option (List Byte) := (s.recs Cfg.SafePair.sec).find? fun r => Cfg.SafePair.PAIR r == p

/-- The pair record and channel (true: B) an SI feeds. -/
def State.siPair (s : State) (si : Nat) : Option (List Byte × Bool) :=
  (s.recs Cfg.SafePair.sec).findSome? fun r =>
    if Cfg.SafePair.CHA r = si then some (r, false) else if Cfg.SafePair.CHB r = si then some (r, true) else none

/-- R264: whether a channel of a pair is in its permit state. -/
def State.permit? (s : State) (r : List Byte) (b : Bool) : Bool :=
  let n := if b then Cfg.SafePair.CHB r else Cfg.SafePair.CHA r
  (s.safe.si.getD n false) != (b && bit (Cfg.SafePair.MODE r) 0)

def PairSt.code : PairSt → Nat
  | .closed => 0
  | .opened => 1
  | .disc => 2

def State.modPair (p : Nat) (f : SPair → SPair) (s : State) : State := { s with safe := { s.safe with pairs := s.safe.pairs.modify p f } }

/-- R264: a pair after a change of a channel: CLOSED or OPEN; DISC clears only by demand of both, then permit of both. -/
def SPair.settle (a b : Bool) (now : Nat) (x : SPair) : SPair :=
  let y := { x with
    differAt := if a != b then some (x.differAt.getD now) else none
    bothDem := (x.bothDem || (!a && !b)) && x.st == .disc }
  if x.st = .disc then (if a && b && x.bothDem then { y with st := .closed, bothDem := false } else y)
  else { y with st := if a && b then .closed else .opened }

/-- R264, R286: settle a pair, telling a change of its state (0x71). -/
def State.settlePair (r : List Byte) (s : State) : State :=
  let p := Cfg.SafePair.PAIR r
  let old := (s.safe.pairs.getD p {}).st
  let s1 := s.modPair p (SPair.settle (s.permit? r false) (s.permit? r true) s.time.now)
  let s2 := if (s1.safe.pairs.getD p {}).st = .closed then s1 else s1.modPair p fun x => { x with closedT := 0 }
  if (s2.safe.pairs.getD p {}).st = old then s2 else s2.fire 0x71 0 0 (s2.safeItems 0 p 0xFF)

/-- R269, R286: set or clear ARM of a pair, telling it (0x72). A pair that arms with a channel in demand, or in DISC,
trips (R264, R265, R270). -/
def State.setArm (p : Nat) (on : Bool) (s : State) : State :=
  if (s.safe.pairs.getD p {}).armed = on then s
  else
    let s1 := s.modPair p fun x => { x with armed := on, wantOff := false }
    let s2 := s1.fire 0x72 0 0 (s1.safeItems 0 p 0xFF)
    match s.pairCfg p with
    | none => s2
    | some r =>
      let disc := (s2.safe.pairs.getD p {}).st == .disc
      let nets := b2n (disc || !s2.permit? r false) + 2 * b2n (disc || !s2.permit? r true)
      if on && nets != 0 then s2.trip (2 ^ p) nets else s2

end Sys2Proof.Machine
end

