-- ==== Sys2Proof/Machine/Field.lean ====
section
/-! DEFINITION. 24 V field inputs and outputs (file 11) and the run-time part of points (R18, R19). -/

namespace Sys2Proof.Machine

/-! ## Points (R18, R19) -/

/-- Run-time part of a point; VALUE 0, STAMP 0 and PFLAGS[3] until its source first updates it. -/
def State.pointRt (s : State) (i : Nat) : Point := (s.pts.find? fun p => p.idx == i).getD { idx := i, flags := 9 }

def State.putPoint (p : Point) (s : State) : State := { s with pts := (s.pts.filter fun q => q.idx != p.idx) ++ [p] }

/-- STAMP: bits [43:12] of the instant. -/
def Point.stamp (p : Point) : Nat := p.at0 / 4096 % 2 ^ 32

/-- The points of a type and source. -/
def State.pointsOf (s : State) (ty src : Nat) : List Nat := (s.ptRecs.filter fun r => ptType r == ty && ptSource r == src).map ptIdx

/-- A source updates its points: VALUE, STAMP, valid and not stale. -/
def State.feed (ty src v at0 : Nat) (s : State) : State :=
  (s.pointsOf ty src).foldl (fun (s : State) i => s.putPoint { idx := i, value := v, flags := 1, at0 := at0 }) s

/-- PFLAGS[3] of a source's points. -/
def State.stalePoints (ty src : Nat) (s : State) : State :=
  (s.pointsOf ty src).foldl (fun (s : State) i => let p := s.pointRt i; s.putPoint { p with flags := p.flags ||| 8 }) s

/-! ## Channels and groups -/

def fiGroup (n : Nat) : Nat := n / 16
def fqGroup (n : Nat) : Nat := n / 8
def fqDie (n : Nat) : Nat := n / 16
def State.fi (s : State) (n : Nat) : Fi := s.field.fi.getD n {}
def State.fq (s : State) (n : Nat) : Fq := s.field.fq.getD n {}
def State.grpOk (s : State) (g : Nat) : Bool := s.field.grp.getD g .missing == .ok
def State.fiRec (s : State) (n : Nat) : List Byte := s.keyed Cfg.FieldIn.sec Cfg.FieldIn.FI n (le 1 n ++ Cfg.FieldIn.dflt.drop 1)
def State.fqRec (s : State) (n : Nat) : List Byte := s.keyed Cfg.FieldOut.sec Cfg.FieldOut.FQ n (le 1 n ++ Cfg.FieldOut.dflt.drop 1)

/-- R290: the drive state of an output. -/
def State.drive (s : State) (n : Nat) : Drive :=
  let q := s.fq n
  if (s.field.die.getD (fqDie n) {}).released || q.rbFlt || s.standby then .released
  else if q.cmd && s.grpOk (fqGroup n) && !q.sag && !q.therm then .high
  else .low

/-- QSTATE. -/
def Drive.code : Drive → Nat
  | .low => 0
  | .high => 1
  | .released => 2

/-- R294: group state codes. -/
def GrpSt.code : GrpSt → Nat
  | .ok => 0
  | .low => 1
  | .missing => 2

/-- GRPST. -/
def State.grpst (s : State) : Nat := s.field.grp.foldr (fun g n => g.code + 4 * n) 0

/-- R301: payload of the class 0x8 events. -/
def State.fieldItems (s : State) (g mask : Nat) : List Byte := le 1 g ++ le 4 mask ++ le 1 s.grpst

/-- Mask of the outputs of a group. -/
def outMask (g : Nat) : Nat := 0xFF * 2 ^ (8 * g)

/-- R301: mask of the inputs of a group, on its die. -/
def inMask (g : Nat) : Nat := 0xFFFF * 2 ^ (16 * (g % 2))

/-- R291: an output that a function owns: OWNFN, or NUDGEQ of a door. -/
def State.fqOwned (s : State) (n : Nat) : Bool :=
  Cfg.FieldOut.OFLG (s.fqRec n) / 2 % 8 != 0 || (s.recs Cfg.DoorCfg.sec).any fun r => Cfg.DoorCfg.NUDGEQ r == n

/-- R296: a return of the group clears SAGLATCH of an output with AUTOREST; one that a function owns waits for its function. -/
def State.autoRest (s : State) (n : Nat) : Bool := bit (Cfg.FieldOut.OFLG (s.fqRec n)) 0 && !s.fqOwned n

/-- R290, R295, R296: write a commanded value; a write of 1 while the group is not OK sets SAGLATCH, a write of 0 clears
it. The output's points follow (R299). -/
def State.writeFq (n : Nat) (v : Bool) (s : State) : State :=
  let s1 := { s with field := { s.field with fq := s.field.fq.modify n fun q =>
    { q with cmd := v, sag := if v then q.sag || !s.grpOk (fqGroup n) else false } } }
  s1.feed 0x81 n (b2n v) s.time.now

/-! ## Supply groups (R289, R294-R296) -/

/-- R295: a group leaves OK: SAGLATCH on every output commanded 1, its inputs stale; what is forced LOW is noted for the
next fast tick. -/
def State.groupLost (g : Nat) (st : GrpSt) (s : State) : State :=
  let high := (List.range 32).filter fun n => fqGroup n == g && s.drive n == .high
  let s1 := { s with field := { s.field with
    grp := s.field.grp.set g st
    fq := s.field.fq.zipIdx.map fun (q, n) => if fqGroup n = g ∧ q.cmd then { q with sag := true } else q
    fi := s.field.fi.zipIdx.map fun (x, n) => if fiGroup n = g then { x with stale := true } else x
    evGrp := s.field.evGrp ++ [g]
    evLow := s.field.evLow ||| (high.map (2 ^ ·)).sum
    evStale := s.field.evStale ++ [g] } }
  ((List.range 64).filter fun n => fiGroup n == g).foldl (fun (s : State) n => s.stalePoints 0x80 n) s1

/-- R294, R295: the group supply stands below a threshold: LOW below 18.0 V, MISSING below 10.0 V; never from MISSING
to LOW. `mv10` is the voltage in 10 mV. -/
def execSupplyGroupDrop (t grp mv10 : Nat) (s : State) : Host.Outcome State Fault Refusal :=
  let s := s.advance t
  let s1 := { s with field := { s.field with grpV := s.field.grpV.set grp mv10 } }
  let old := s.field.grp.getD grp .missing
  let new := if mv10 < 1000 then GrpSt.missing else if mv10 < 1800 ∧ old = .ok then .low else old
  if new = old then ok s1
  else if old = .ok then ok (s1.groupLost grp new)
  else ok { s1 with field := { s1.field with grp := s1.field.grp.set grp new, evGrp := s1.field.evGrp ++ [grp] } }

/-- R294, R296: the group supply has stood at 19.2 V or above for RESTT: OK; outputs with AUTOREST that no function owns lose
SAGLATCH. -/
def execSupplyGroupRestore (t grp mv10 : Nat) (s : State) : Host.Outcome State Fault Refusal :=
  let s := s.advance t
  let s1 := { s with field := { s.field with grpV := s.field.grpV.set grp mv10 } }
  if mv10 < 1920 || s.grpOk grp then ok s1
  else ok { s1 with field := { s1.field with
    grp := s1.field.grp.set grp .ok
    fq := s1.field.fq.zipIdx.map fun (q, n) =>
      if fqGroup n = grp ∧ s.autoRest n then { q with sag := false } else q
    evGrp := s1.field.evGrp ++ [grp] } }

/-- R301: event sources 0x80, 0x81 and 0x84 at the first fast-tick boundary after the change. -/
def State.fieldEvents (s : State) : State :=
  let s1 := s.field.evGrp.foldl (fun (x : State) g => x.fire 0x80 0 0 (x.fieldItems g (outMask g))) s
  let lows := (List.range 4).filter fun g => s.field.evLow &&& outMask g != 0
  let s2 := lows.foldl (fun (x : State) g => x.fire 0x81 0 0 (x.fieldItems g (s.field.evLow &&& outMask g))) s1
  let s3 := s.field.evStale.foldl (fun (x : State) g => x.fire 0x84 0 0 (x.fieldItems g (inMask g))) s2
  { s3 with field := { s3.field with evGrp := [], evLow := 0, evStale := [] } }

/-! ## Readback and thermal latches (R292, R293) -/

/-- R292: a readback has disagreed for 100 µs. No comparison is made while RELEASED or with the group not OK. -/
def execReadbackFault (t fq : Nat) (s : State) : Host.Outcome State Fault Refusal :=
  let s := s.advance t
  if s.drive fq = .released || !s.grpOk (fqGroup fq) then ok s
  else
    let s1 := { s with field := { s.field with fq := s.field.fq.modify fq fun q => { q with rbFlt := true } } }
    ok (s1.fire 0x82 0 0 (s1.fieldItems (fqGroup fq) (2 ^ fq)))

/-- R293: an over-temperature driver is switched LOW and latched. -/
def execThermalLatch (t fq : Nat) (s : State) : Host.Outcome State Fault Refusal :=
  let s := s.advance t
  let s1 := { s with field := { s.field with fq := s.field.fq.modify fq fun q => { q with therm := true } } }
  ok (s1.fire 0x85 0 0 (s1.fieldItems (fqGroup fq) (2 ^ fq)))

/-! ## The field-die watchdog (R297, R298) -/

/-- R297: a die releases its outputs. A release after a DRIVE = 1 keep-alive is one to report. -/
def Die.release (timeout : Bool) (d : Die) : Die :=
  { d with released := true, byTimeout := if d.released then d.byTimeout || timeout else timeout, goodRun := 0
           report := d.report || (d.everDrive && !d.released) }

/-- R298: a keep-alive reaches a die. Eight in a row with DRIVE = 1 end a release; after a timeout every commanded value
of the die is then 0. -/
def State.keepAlive (k : Nat) (drive : Bool) (s : State) : State :=
  let d := s.field.die.getD k {}
  let d1 : Die := if drive then { d with goodRun := d.goodRun + 1, everDrive := true, due := d.due || d.report }
            else { (if d.released then { d with goodRun := 0 } else d.release false) with due := d.due || (d.report && d.byTimeout) }
  let lift := d1.released && drive && decide (8 ≤ d1.goodRun)
  let s1 := { s with field := { s.field with
    die := s.field.die.set k (if lift then { d1 with released := false, byTimeout := false } else d1) } }
  if lift && d.byTimeout then
    ((List.range 32).filter fun n => fqDie n == k).foldl (fun (s : State) n => s.writeFq n false) s1
  else s1

/-- R298 as a command: a keep-alive arrives. -/
def execKeepAlive (t die : Nat) (drive : Bool) (s : State) : Host.Outcome State Fault Refusal :=
  ok ((s.advance t).keepAlive die drive)

/-- R297: 40 µs without a keep-alive. -/
def execWatchdogRelease (t die : Nat) (s : State) : Host.Outcome State Fault Refusal :=
  let s := s.advance t
  ok { s with field := { s.field with die := s.field.die.modify die (Die.release true) } }

/-- R298: watchdog releases are reported at the first tick after keep-alives resume or DRIVE returns to 1. -/
def State.reportReleases (s : State) : State :=
  [0, 1].foldl (fun (s : State) k =>
    if (s.field.die.getD k {}).due then
      let s1 := { s with field := { s.field with die := s.field.die.modify k fun d => { d with due := false, report := false, wdRel := true } } }
      s1.fire 0x83 0 0 (s1.fieldItems (2 * k) (0xFFFF * 2 ^ (16 * k)))
    else s) s

/-! ## Commands -/

/-- The field output a point target names (R299); none where it is not one. -/
def State.fqOf (s : State) (t : Nat) : Option Nat :=
  (s.point? (tgtIdx t)).bind fun r => if ptType r = 0x81 ∧ ptSource r < 32 then some (ptSource r) else none

def maskOf (n : Nat) (f : Nat → Bool) : Nat := bitsOf ((List.range n).map f)

/-- FIELD_STATUS's reply. -/
def fieldStatusReply (s : State) : List Byte :=
  le 8 (maskOf 64 fun n => (s.fi n).level) ++ le 8 (maskOf 64 fun n => (s.fi n).stale || !s.grpOk (fiGroup n))
    ++ le 4 (maskOf 32 fun n => (s.fq n).cmd) ++ le 4 (maskOf 32 fun n => s.drive n == .high)
    ++ le 4 (maskOf 32 fun n => s.drive n == .released) ++ le 4 (maskOf 32 fun n => s.drive n == .high)
    ++ le 4 (maskOf 32 fun n => (s.fq n).sag) ++ le 4 (maskOf 32 fun n => (s.fq n).rbFlt) ++ le 1 s.grpst
    ++ le 1 (maskOf 2 fun k => (s.field.die.getD k {}).wdRel) ++ zeros 2
    ++ ((List.range 4).map fun g => le 2 (s.field.grpV.getD g 0)).flatten

/-- The reply; reading clears WDREL. -/
def fieldStatusEff (tr : TagRec) (_d : List Byte) (s : State) : State :=
  ({ s with field := { s.field with die := s.field.die.map fun (d : Die) => { d with wdRel := false } } }).done tr (fieldStatusReply s)

def fieldStatusCard : CardDef where
  k := { opc := 0x8001, role := 3, query := true, kinds := [0] }
  lenOk := lenIs 0
  eff := fieldStatusEff

/-- FIELD_STATUS (R290). -/
def execFieldStatus (h : Hdr) (data : List Byte) (s : State) : Host.Outcome State Fault Refusal := ok (runCard fieldStatusCard h data s)

def qstate (s : State) (n : Nat) : List Byte := le 1 (s.drive n).code ++ zeros 3

def fieldOutWriteOwn (s : State) (tr : TagRec) (_d : List Byte) : Own :=
  match s.fqOf tr.tgt with
  | none => some (0x8010, [])
  | some n => refuseIf (s.fqOwned n) 0x8011

/-- R295: written while the group is not OK: DONE with 0x8020. -/
def fieldOutWriteEff (tr : TagRec) (d : List Byte) (s : State) : State :=
  match s.fqOf tr.tgt with
  | none => s
  | some n =>
    let v := rd d 0 1 != 0
    let s1 := s.writeFq n v
    s1.finish tr 2 (if v && !s.grpOk (fqGroup n) then 0x8020 else 0) s.time.now (qstate s1 n)

def fieldOutWriteCard : CardDef where
  k := { opc := 0x8002, role := 3, query := false, kinds := [6], lead := some 250000 }
  lenOk := lenIs 4
  own := fieldOutWriteOwn
  eff := fieldOutWriteEff

/-- FIELD_OUT_WRITE (R290). -/
def execFieldOutWrite (h : Hdr) (data : List Byte) (s : State) : Host.Outcome State Fault Refusal := ok (runCard fieldOutWriteCard h data s)

/-- 0x8012: SAGLATCH while the group is not OK. A readback is not compared while RELEASED, and no row tells a driver's
temperature, so no other condition persists (log 23). -/
def fieldOutAckOwn (s : State) (tr : TagRec) (d : List Byte) : Own :=
  match s.fqOf tr.tgt with
  | none => some (0x8010, [])
  | some n => refuseIf (bit (rd d 0 1) 0 && (s.fq n).sag && !s.grpOk (fqGroup n)) 0x8012

def fieldOutAckEff (tr : TagRec) (d : List Byte) (s : State) : State :=
  match s.fqOf tr.tgt with
  | none => s
  | some n =>
    let m := rd d 0 1
    let s1 := { s with field := { s.field with fq := s.field.fq.modify n fun q =>
      { q with sag := q.sag && !bit m 0, rbFlt := q.rbFlt && !bit m 1, therm := q.therm && !bit m 2 } } }
    s1.done tr (qstate s1 n)

def fieldOutAckCard : CardDef where
  k := { opc := 0x8003, role := 3, query := false, kinds := [6] }
  lenOk := lenIs 4
  own := fieldOutAckOwn
  eff := fieldOutAckEff

/-- FIELD_OUT_ACK (R296). -/
def execFieldOutAck (h : Hdr) (data : List Byte) (s : State) : Host.Outcome State Fault Refusal := ok (runCard fieldOutAckCard h data s)

end Sys2Proof.Machine
end

