-- ==== Sys2Proof/Machine/Timebase.lean ====
section
/-! DEFINITION. Milestone time (file 03): TIME_STATUS, TIME_CONFIG, TIME_SET, MILESTONE_CANCEL, PTP, holdover, and the
changes a tick boundary applies (R73, R74, R85). -/

namespace Sys2Proof.Machine

/-- R69: state codes. -/
def TbState.code : TbState → Nat
  | .unset => 0
  | .free => 1
  | .acquiring => 2
  | .locked => 3
  | .holdover => 4

/-- R69, R93: enter a timebase state; event source 0x10 on a change, 0x11 on entering HOLDOVER. -/
def State.setTb (x : TbState) (s : State) : State :=
  if s.time.tb = x then s
  else
    let s1 := ({ s with time := { s.time with tb := x, under40 := 0 } }).fire 0x10 0 0 []
    if x = .holdover then s1.fire 0x11 0 0 [] else s1

/-- R75: ERRBOUND in HOLDOVER. -/
def State.holdError (s : State) : Nat := 50 + s.time.cfg.holdRate * (s.time.now - s.time.lastSync) / 10 ^ 9

/-- R467: ERRBOUND. -/
def State.errBound (s : State) : Nat :=
  match s.time.tb with
  | .locked => 0
  | .holdover => satN 32 s.holdError
  | _ => 0xFFFFFFFF

/-- R467: SOURCE; a standby takes its timebase over the pair link. -/
def State.tbSource (s : State) : Nat :=
  if s.time.tb = .unset then 0 else if s.standby then 5 else s.time.source

/-! ## TIME_STATUS -/

def timeFlags (s : State) : Nat :=
  b2n s.time.gm + 2 * b2n (s.time.stepPend.isSome || !s.time.setPend.isEmpty) + 4 * b2n s.time.holdExc

/-- R467: the reply of TIME_STATUS. -/
def timeStatusReply (s : State) : List Byte :=
  le 8 s.time.now ++ le 1 s.time.tb.code ++ le 1 s.tbSource ++ leS 2 s.time.utcOff ++ leS 4 (satI32 s.time.offset)
    ++ le 4 s.time.pathDly ++ le 4 s.errBound ++ leS 4 s.time.freqAdj ++ le 8 s.time.gmid ++ le 2 s.time.steps
    ++ le 2 (timeFlags s) ++ le 4 s.launchQ.length ++ le 4 s.time.lateCnt

/-- The reply; reading clears "holdover limit exceeded since last read". -/
def timeStatusEff (tr : TagRec) (_d : List Byte) (s : State) : State :=
  ({ s with time := { s.time with holdExc := false } }).done tr (timeStatusReply s)

def timeStatusCard : CardDef where
  k := { opc := 0x1001, role := 3, query := true, kinds := [0] }
  lenOk := lenIs 0
  eff := timeStatusEff

/-- TIME_STATUS (R467). -/
def execTimeStatus (h : Hdr) (data : List Byte) (s : State) : Host.Outcome State Fault Refusal := ok (runCard timeStatusCard h data s)

/-! ## TIME_CONFIG -/

/-- CANREF entry at its offset. -/
def canRefOf (b : List Byte) : CanRef :=
  ⟨rd b 0 4 % 2 ^ 29, bit (rd b 0 4) 30, bit (rd b 0 4) 31, rd b 4 2, rd b 6 1 == 1⟩

def timeCfgOf (d : List Byte) : TimeCfg where
  ptpDom := rd d 0 1
  prio1 := rd d 1 1
  prio2 := rd d 2 1
  ports := rd d 3 1
  delayM := rd d 4 1
  xport := rd d 5 1
  logSync := rdS d 6 1
  logAnn := rdS d 7 1
  asym := (records 4 ((d.drop 8).take 16)).map fun b => rdS b 0 4
  holdRate := rd d 24 4
  holdLimit := rd d 28 4
  stepMin := rd d 32 4
  canRef := (records 8 ((d.drop 36).take 48)).map canRefOf

/-- Ranges of the CANREF entries whose enable bit is set. -/
def canRefBad (b : List Byte) : Bool := bit (rd b 0 4) 31 && (rd b 4 2 == 0 || decide (1000 < rd b 4 2) || decide (1 < rd b 6 1))

/-- Whether a transmit object of the channel uses the identifier (section 0x0902). -/
def State.txUses (s : State) (ch id : Nat) (ext : Bool) : Bool :=
  (s.recs Cfg.CanTxObj.sec).any fun r =>
    Cfg.CanTxObj.CH r == ch && Cfg.CanTxObj.ID r % 2 ^ 29 == id && bit (Cfg.CanTxObj.TFLG r) 0 == ext

/-- TIME_CONFIG's checks. -/
def timeConfigOwn (s : State) (_tr : TagRec) (d : List Byte) : Own :=
  let c := timeCfgOf d
  firstOf [
    refuseIf (decide (127 < c.ptpDom) || decide (c.logSync < -7) || decide (0 < c.logSync) || decide (c.logAnn < -3) || decide (3 < c.logAnn)
      || c.holdRate == 0 || decide (10000 < c.holdRate) || decide (c.holdLimit < 100) || decide (1000000 < c.holdLimit)
      || decide (c.stepMin < 1000) || decide (10000000 < c.stepMin)
      || (records 8 ((d.drop 36).take 48)).any canRefBad) 0x1003,
    refuseIf ((List.range 6).any fun ch =>
      let r := c.canRef.getD ch {}
      r.en && (s.txUses ch r.id r.ext || s.txUses ch (r.id + 1) r.ext)) 0x1007]

/-- The settings take effect at the next tick boundary. -/
def timeConfigEff (tr : TagRec) (d : List Byte) (s : State) : State :=
  ({ s with time := { s.time with cfgPend := some (timeCfgOf d) } }).done tr []

def timeConfigCard : CardDef where
  k := { opc := 0x1002, role := 3, query := false, kinds := [0] }
  lenOk := lenIs 84
  own := timeConfigOwn
  eff := timeConfigEff

/-- TIME_CONFIG. -/
def execTimeConfig (h : Hdr) (data : List Byte) (s : State) : Host.Outcome State Fault Refusal := ok (runCard timeConfigCard h data s)

/-! ## TIME_SET and steps (R73, R74, R85) -/

def timeSetOwn (s : State) (_tr : TagRec) (_d : List Byte) : Own :=
  refuseIf (!(s.boot.stage == 4 || s.boot.stage == 5) || [TbState.acquiring, .locked, .holdover].contains s.time.tb) 0x1002

def timeSetEff (tr : TagRec) (d : List Byte) (s : State) : State :=
  { s with time := { s.time with setPend := s.time.setPend ++ [(tr, rd d 0 8, rdS d 8 2)] } }

def timeSetCard : CardDef where
  k := { opc := 0x1003, role := 3, query := false, kinds := [0] }
  lenOk := lenIs 12
  own := timeSetOwn
  eff := timeSetEff

/-- TIME_SET (R74). -/
def execTimeSet (h : Hdr) (data : List Byte) (s : State) : Host.Outcome State Fault Refusal := ok (runCard timeSetCard h data s)

/-- R85: Milestone time takes the value `m` at a boundary. A forward step ends the waiting commands whose edge it passes
LATE with 0x1011 and brings the device Milestones it passes to the step's edge. -/
def State.stepTime (m : Nat) (s : State) : State :=
  let fwd := decide (s.time.now < m)
  let late := if fwd then s.launchQ.filter fun l => decide (l.tag.edge < m) else []
  let s1 := { s with
    time := { s.time with now := m, frac := 0, phase := m % 4, nextTick := boundaryAfter (m % 4) 125000 m,
                          nextFast := if s.time.nextFast ≤ s.time.now then m else boundaryAfter (m % 4) 31250 m }
    launchQ := s.launchQ.filter fun l => !late.contains l
    miles := s.miles.map fun (x : Ms) => if fwd && decide (x.edge < m) then { x with edge := m } else x }
  (late.foldl (fun (s : State) (l : Launch) => s.late l.tag 0x1011) s1).fire 0x13 0 0 []

/-- TIME_SETs at their boundary: the last accepted stands, the earlier ones end DONE with 0x1020. -/
def State.applySets (s : State) : State :=
  match s.time.setPend.getLast? with
  | none => s
  | some (_, m, utc) =>
    let ps := s.time.setPend
    let s1 := (s.stepTime m).setTb .free
    let s2 := { s1 with time := { s1.time with setPend := [], source := 6, utcOff := utc } }
    let n := ps.length
    (ps.zipIdx).foldl (fun s (x : (TagRec × Nat × Int) × Nat) =>
      s.finish x.1.1 2 (if x.2 + 1 = n then 0 else 0x1020) s.time.now (le 8 m)) s2

/-- R73: a PTP step waiting for its boundary. -/
def State.applyPtpStep (s : State) : State :=
  match s.time.stepPend with
  | none => s
  | some d => ({ s with time := { s.time with stepPend := none } }).stepTime ((s.time.now : Int) + d).toNat

/-- R73: a slew adds at most 50 ppm, 6.25 ns in a tick; `slew` is held in quarters of a nanosecond. -/
def slewTick (x : Int) : Int := if 0 ≤ x then max 0 (x - 25) else min 0 (x + 25)

/-- The timebase part of a tick boundary: TIME_CONFIG, PTP step, TIME_SETs, slew; "passes through stage 5" ends R73's
last row. -/
def State.timeBoundary (s : State) : State :=
  let s1 := { s with time := { s.time with
    cfg := s.time.cfgPend.getD s.time.cfg, cfgPend := none, slew := slewTick s.time.slew
    noServo := s.time.noServo && s.boot.stage == 6 } }
  s1.applyPtpStep.applySets

/-! ## MILESTONE_CANCEL (R91) -/

/-- The waiting command of a pair and tag. -/
def State.waiting (s : State) (p tag : Nat) : Option Launch := s.launchQ.find? fun l => l.tag.pair == p && l.tag.tag == tag

def milestoneCancelOwn (s : State) (tr : TagRec) (d : List Byte) : Own :=
  if rd d 0 1 ≠ tr.pair ∧ tr.dom ≠ 0 then some (0x1033, [])
  else match s.waiting (rd d 0 1) (rd d 2 2) with
    | none => some (0x1032, [])
    | some l => refuseIf (decide (l.tag.edge < s.time.now + 2000)) 0x1031

def milestoneCancelEff (tr : TagRec) (d : List Byte) (s : State) : State :=
  match s.waiting (rd d 0 1) (rd d 2 2) with
  | none => s
  | some l => (({ s with launchQ := s.launchQ.filter fun x => x != l }).abort l.tag 0x1030).done tr (le 8 l.tag.edge)

def milestoneCancelCard : CardDef where
  k := { opc := 0x1004, role := 3, query := false, kinds := [0] }
  lenOk := lenIs 4
  own := milestoneCancelOwn
  eff := milestoneCancelEff

/-- MILESTONE_CANCEL (R91). -/
def execMilestoneCancel (h : Hdr) (data : List Byte) (s : State) : Host.Outcome State Fault Refusal := ok (runCard milestoneCancelCard h data s)

/-! ## PTP (R69-R75) -/

/-- R73: what a measured offset (device minus master) does. -/
def State.correct (offset : Int) (s : State) : State :=
  if s.boot.stage = 6 then { s with time := { s.time with slew := -4 * offset } }
  else if (s.time.cfg.stepMin : Int) ≤ offset.natAbs then { s with time := { s.time with stepPend := some (-offset), slew := 0 } }
  else { s with time := { s.time with slew := -4 * offset } }

/-- R69: count Syncs below 40 ns; 16 in a row lock. -/
def State.countSync (offset : Int) (s : State) : State :=
  let n := if offset.natAbs < 40 then s.time.under40 + 1 else 0
  let s1 := { s with time := { s.time with under40 := n } }
  if s1.time.tb = .acquiring ∧ 16 ≤ n then s1.setTb .locked else s1

/-- R69-R75: a usable Sync is measured. Without a master, in a standby (R77) and after R73's last row it is not used. -/
def execPtpSync (t : Nat) (offset : Int) (pathDly : Nat) (freq : Int) (s : State) : Host.Outcome State Fault Refusal :=
  let s := s.advance t
  if s.standby || s.time.noServo || s.time.tb == .unset || s.time.tb == .free then ok s
  else if s.boot.stage = 6 ∧ 10000000 < offset.natAbs then
    ok ({ s with time := { s.time with offset := offset, pathDly := pathDly, noServo := true, slew := 0 } }.setTb .free)
  else
    let s1 := if s.time.tb = .holdover then s.setTb .acquiring else s
    let s2 := { s1 with time := { s1.time with
      offset := offset, pathDly := pathDly, lastSync := s.time.now
      freqAdj := max (-100000000) (min 100000000 freq) } }
    ok ((s2.correct offset).countSync offset)

/-- R69: no usable Sync for 4 sync intervals, or the master lost. -/
def execSyncLoss (t : Nat) (s : State) : Host.Outcome State Fault Refusal :=
  let s := s.advance t
  if s.time.tb = .locked then ok (s.setTb .holdover) else ok s

/-- R75: ERRBOUND exceeds HOLDLIMIT. -/
def execHoldoverLimit (t : Nat) (s : State) : Host.Outcome State Fault Refusal :=
  let s := s.advance t
  if s.time.tb = .holdover ∧ s.time.cfg.holdLimit < s.holdError then
    ok ((({ s with time := { s.time with holdExc := true } }).setTb .free).fire 0x12 0 0 [])
  else ok s

/-- A port that may be master: enabled and not slave only. -/
def TimeCfg.mayLead (c : TimeCfg) : Bool := (List.range 4).any fun p => bit c.ports p && !bit c.ports (p + 4)

/-- R69-R71: an Announce, or its absence. A better master on the PTP timescale, on an enabled port, is selected; the
loss of the master ends LOCKED and lets the device lead where its ports allow (log 21). -/
def execPtpAnnounce (t : Nat) (ann : Option Announce) (s : State) : Host.Outcome State Fault Refusal :=
  let s := s.advance t
  match ann with
  | none =>
    let s1 := if s.time.tb = .locked then s.setTb .holdover else s
    let gm := s.time.cfg.mayLead && !s.standby
    let s2 := { s1 with time := { s1.time with gm := gm } }
    if gm = s.time.gm then ok s2 else ok (s2.fire 0x14 0 0 [])
  | some a =>
    if !a.ptpScale || !a.better || !bit s.time.cfg.ports a.port || s.standby || s.time.noServo then ok s
    else
      let same := s.time.gmid == a.gmid && s.time.source == a.port + 1 && [TbState.acquiring, .locked].contains s.time.tb
      let s1 := { s with time := { s.time with gmid := a.gmid, steps := a.steps, utcOff := a.utcOff, source := a.port + 1, gm := false } }
      if same then ok s1
      else
        let s2 := s1.setTb .acquiring
        if s.time.gmid = a.gmid ∧ s.time.gm = false then ok s2 else ok (s2.fire 0x14 0 0 [])

end Sys2Proof.Machine
end

