-- ==== Sys2Proof/Machine/Position.lean ====
section
/-! DEFINITION. Car position (file 04): Waymark edges, fusion, trust, virtual limits, POSITION_READ. All residuals are
in Q32.32 micrometre; divisions round halves away from zero (log 26). -/

namespace Sys2Proof.Machine

/-- `v` in Q32.32 per second over `ns` nanoseconds. -/
def overNs (vQ : Int) (ns : Int) : Int := divRound (vQ * ns) 1000000000

/-- ½ a t²: `aQ` in Q32.32 µm/s², over `ns`. -/
def halfAt2 (aQ : Int) (ns : Int) : Int := divRound (aQ * ns * ns) 2000000000000000000

/-- R114: payload of the class 0x2 events. -/
def State.posItems (s : State) (c new : Nat) : List Byte :=
  let x := (s.car c).pos
  le 1 c ++ le 1 x.elem ++ leS 4 (roundQ x.pQ) ++ le 1 new

/-- A class 0x2 event of a car. -/
def State.posFire (src c new : Nat) (s : State) : State := s.fire src (tgtOf 8 c) 0 (s.posItems c new)

def State.modPos (c : Nat) (f : Pos → Pos) (s : State) : State := s.modCar c fun x => { x with pos := f x.pos }

/-! ## Trust (R105-R107) -/

/-- R106, R107: a change of trust: event source 0x20; a fall to UNKNOWN keeps the blocks held (R105), and while moving
it is fault 0x07. -/
def State.setTrust (c new : Nat) (s : State) : State :=
  let x := s.car c
  if x.pos.trust = new then s
  else
    let s1 := s.modCar c fun y => { y with
      pos := { y.pos with trust := new, wayWin := y.pos.wayWin && new != 1, waySeen := y.pos.waySeen && decide (3 ≤ new), tapeRun := if new = 1 then 0 else y.pos.tapeRun, bemfRun := if new = 1 then 0 else y.pos.bemfRun }
      auth := { y.auth with unkHold := if new = 0 then y.auth.chain else [] } }
    let s2 := s1.posFire 0x20 c new
    let s3 := if new = 0 ∧ x.pos.vQ ≠ 0 ∧ x.stands = false then s2.fault 0x07 c x.pos.elem else s2
    if new ≠ 0 then s3.unfault fun f => f.code == 0x07 && f.car == c else s3

/-! ## Waymarks (R101) -/

def State.waymark? (s : State) (wm : Nat) : Option (List Byte) := (s.recs Cfg.Waymark.sec).find? fun r => Cfg.Waymark.WM r == wm

/-- R101: position of an edge of a Waymark, in µm: learned, or NOM ± VANE/2 in the direction of travel. -/
def State.edgePos (s : State) (r : List Byte) (trail : Bool) : Int :=
  match (if s.cfg.calib.present then s.cfg.calib.edges.find? fun e => e.1 == Cfg.Waymark.WM r else none) with
  | some e => if trail then e.2.2 else e.2.1
  | none =>
    let d := s.elemDir (Cfg.Waymark.ELEM r)
    Cfg.Waymark.NOM r + (if trail then d else -d) * ((Cfg.Waymark.VANE r / 2 : Nat) : Int)

/-- R101: the Waymark window of a car, in µm. -/
def State.wayWindow (s : State) (c : Nat) : Int := if s.cfg.calib.present then Cfg.CarPos.DWWAY (s.carPos c) else 50000

/-- The car's actuator, predicted for an instant, Q32.32. -/
def State.actuatorAt (s : State) (c te : Nat) : Int :=
  let x := (s.car c).pos
  x.pQ + overNs x.vQ ((te : Int) - x.fusedAt) + Cfg.CarPos.WMOFF (s.carPos c) * oneQ

/-- The car whose actuator lies nearest a position. -/
def State.nearestCar (s : State) (posQ : Int) (te : Nat) : List Nat → Option Nat
  | [] => none
  | c :: cs => match s.nearestCar posQ te cs with
    | none => some c
    | some d => if (s.actuatorAt d te - posQ).natAbs < (s.actuatorAt c te - posQ).natAbs then some d else some c

/-- R110 step 3: a learn run records an edge, as the tape position at its instant plus WMOFF, rounded to µm. -/
def Car.learnEdge (wmoff : Int) (wm : Nat) (trail : Bool) (te : Nat) (x : Car) : Car :=
  match x.learn, x.rep with
  | some l, some (r, _) =>
    let m := r.tpos + roundQ (overNs x.pos.vQ ((te : Int) - r.ts)) + wmoff
    { x with learn := some { l with edges := l.edges ++ [(wm, trail, m)] } }
  | _, _ => x

/-- WAYMARK_EDGE (R101): an edge of a Waymark at an instant: it goes to the nearest car of the element, is used in
travel in the lane's direction, and is recorded (TYPE 0x09) in reversed travel. A re-anchor search uses it in either
direction; against the lane the vane is met from its trailing edge (log 58). -/
def State.waymarkEdge (r : List Byte) (active : Bool) (te : Nat) (s : State) : State :=
  let e := Cfg.Waymark.ELEM r
  let trail := !active
  let pos := s.edgePos r trail
  match s.nearestCar (pos * oneQ) te (s.carsIn e) with
  | none => s.fire 0x24 0 0 (le 1 0xFF ++ le 1 e ++ leS 4 pos ++ le 1 0)
  | some c =>
    let x := s.car c
    let along := isign x.pos.vQ * s.elemDir e
    if x.search.isSome ∨ isLane e = false ∨ 0 < along then
      let edge : WayEdge := ⟨Cfg.Waymark.WM r, if along < 0 then active else trail, te⟩
      s.modCar c fun y => Car.learnEdge (Cfg.CarPos.WMOFF (s.carPos c)) (Cfg.Waymark.WM r) trail te
        { y with edges := y.edges ++ [edge], search := y.search.map fun k => if k.phase = 0 ∧ k.edge = none then { k with edge := some edge } else k }
    else if along < 0 then
      s.ledger 9 (b2n trail) 0 (tgtOf 8 c) (le 2 (Cfg.Waymark.WM r) ++ zeros 2 ++ leS 4 pos)
    else s

/-- The state a Waymark's source shows now. -/
def State.wayActive (s : State) (r : List Byte) : Bool :=
  if Cfg.Waymark.SRCK r = 0 then (s.fi (Cfg.Waymark.SRC r)).level else (s.pointRt (Cfg.Waymark.SRC r)).value != 0

/-- R106(a): the actuator stands at least the Waymark window inside an active Waymark's edges. -/
def State.inVane (s : State) (c : Nat) : Bool :=
  let x := (s.car c).pos
  let a := x.pQ + Cfg.CarPos.WMOFF (s.carPos c) * oneQ
  let w := s.wayWindow c * oneQ
  (s.recs Cfg.Waymark.sec).any fun r =>
    let p := s.edgePos r false * oneQ
    let q := s.edgePos r true * oneQ
    Cfg.Waymark.ELEM r == x.elem && s.wayActive r && decide (min p q + w ≤ a) && decide (a ≤ max p q - w)

/-! ## Fusion (R100, R102-R104, R132, R414) -/

/-- The commanded acceleration passed to fusion, Q32.32 µm/s² (R115, R132). -/
def State.aCmd (s : State) (c : Nat) : Int :=
  let x := s.car c
  if x.plan.mode = 5 then
    let b : Int := Cfg.CarMotion.BRAKEDEC (s.carMotion c) * oneQ
    if x.pos.vQ = 0 then 0
    else if (x.pos.vQ.natAbs : Int) ≤ b / 8000 then -(x.pos.vQ * 8000)
    else -(isign x.pos.vQ) * b
  else x.plan.aMean

/-- What one fusion step knows: prediction, corrections, and which sources applied. -/
structure Fuse where
  pp : Int
  vp : Int
  a  : Int
  dp : Int
  dv : Int
  pos : Pos
deriving DecidableEq, Repr

/-- R103: usable, or incremental under R414, with the sample instant to use. -/
inductive TapeUse where
  | no
  | usable (ts : Int)
  | incremental (ts : Int)
deriving DecidableEq, Repr

/-- R103, R414: how a car's newest reading may be used at this boundary. -/
def State.tapeUse (s : State) (c : Nat) : TapeUse :=
  let x := s.car c
  match x.rep with
  | none => .no
  | some (r, _) =>
    let fits := bit r.tq 0 && r.elem == x.pos.elem && decide ((s.time.now : Int) - r.ts ≤ Cfg.CarPos.TAPEAGE (s.carPos c))
    if !fits then .no
    else if r.tbState = 3 ∨ r.tbState = 4 ∨ bit r.tq 1 then .usable r.ts
    else if r.tbState = 0 ∨ r.tbState = 1 then
      match x.pos.anchorT with
      | some (ta, tsa) => .incremental ((ta : Int) + ((r.ts : Int) - tsa))
      | none => .no
    else .no

/-- Q0.16 gain on a residual. -/
def gain (g : Nat) (r : Int) : Int := divRound (g * r) 65536

/-- Saturating run counter. -/
def runUp (n : Nat) : Nat := min 1000 (n + 1)

/-- R102: the tape's part. -/
def fuseTape (cfg : List Byte) (hold now : Nat) (u : TapeUse) (r : Report) (anchorAt : Option (Nat × Nat)) (f : Fuse) : Fuse :=
  let go (ts : Int) (dw : Int) : Fuse :=
    let age := (now : Int) - ts
    let m := r.tpos * oneQ + overNs f.vp age - halfAt2 f.a age
    let res := m - f.pp
    let dwt : Int := Cfg.CarPos.DWTAPE cfg * oneQ
    let p := { f.pos with tapeRes := roundQ res, tapeUse := true, noTape := 0 }
    if (res.natAbs : Int) ≤ dw then
      { f with
        dp := f.dp + gain (Cfg.CarPos.ALPHAT cfg) res
        dv := f.dv + gain (Cfg.CarPos.BETAT cfg) (res * 8000)
        pos := { p with tapeOk := true, tapeMiss := 0, tapeGood := runUp p.tapeGood,
                        tapeRun := if (res.natAbs : Int) ≤ dwt then runUp p.tapeRun else 0 } }
    else { f with pos := { p with tapeOk := false, tapeMiss := runUp p.tapeMiss, tapeGood := 0, tapeRun := 0, missCnt := wrapAdd 32 p.missCnt 1 } }
  let dwt : Int := Cfg.CarPos.DWTAPE cfg * oneQ
  match u with
  | .no => { f with pos := { f.pos with tapeUse := false, tapeOk := false, tapeRun := 0, noTape := runUp f.pos.noTape } }
  | .usable ts =>
    let dw := if r.tbState = 4 then dwt + overNs f.vp.natAbs hold else dwt
    go ts dw
  | .incremental ts =>
    let since : Int := (now : Int) - ((anchorAt.map (·.1)).getD now)
    let g := go ts (dwt + overNs f.vp.natAbs (divRound since 5000 + 500000))
    { g with pos := { g.pos with tapeRun := 0 } }

/-- R100: the report of the segment used: the heaviest under the car that is IN or SUSPECT and returned THV. -/
def State.bemfSeg (s : State) (c : Nat) : Option (List Byte × Seg) :=
  let ok := (s.carrying c).filter fun p =>
    let g := s.segRun (Cfg.Segment.SEG p.1)
    (g.st == .inn || g.st == .suspect) && g.missRun == 0 && bit g.mstat 2
  (heaviest ok).map fun p => (p.1, s.segRun (Cfg.Segment.SEG p.1))

/-- Learned BEMFOFF of a segment, in µm. -/
def State.bemfOff (s : State) (seg : Nat) : Int := ((s.cfg.calib.bemf.find? fun p => p.1 == seg).map (·.2)).getD 0

/-- R100: the measurement nearest a prediction, Q32.32. -/
def bemfMeasure (start off : Int) (pole theta : Nat) (pred : Int) : Int :=
  let per : Int := 20 * pole * oneQ
  let base := (start + off) * oneQ + divRound (theta * per) 65536
  base + divRound (pred - base) per.toNat * per

/-- R100, R102: back-EMF's part. -/
def fuseBemf (cfg : List Byte) (avail : Bool) (m : Option (List Byte × Seg)) (off : Int) (f : Fuse) : Fuse :=
  match m, avail with
  | some (g, x), true =>
    let t : Int := tickNs
    let pred := f.pp - overNs f.vp t + halfAt2 f.a t
    let meas := bemfMeasure (Cfg.Segment.START g) off (Cfg.Segment.POLE g) x.theta pred
    let res := meas + overNs f.vp t - halfAt2 f.a t - f.pp
    let p := { f.pos with bemfRes := roundQ res, bemfAv := true }
    if (res.natAbs : Int) ≤ Cfg.CarPos.DWBEMF cfg * oneQ then
      { f with
        dp := f.dp + gain (Cfg.CarPos.ALPHAB cfg) res
        dv := f.dv + gain (Cfg.CarPos.BETAB cfg) (res * 8000)
        pos := { p with bemfOk := true, bemfMiss := 0, bemfGood := runUp p.bemfGood, bemfRun := runUp p.bemfRun } }
    else { f with pos := { p with bemfOk := false, bemfMiss := runUp p.bemfMiss, bemfGood := 0, bemfRun := 0, missCnt := wrapAdd 32 p.missCnt 1 } }
  | _, _ => { f with pos := { f.pos with bemfAv := false, bemfOk := false, bemfRun := 0 } }

/-- R102: one Waymark edge's part. `epos` is its position in µm. -/
def fuseEdge (cfg : List Byte) (now : Nat) (win epos : Int) (te : Nat) (f : Fuse) : Fuse :=
  let dt := (now : Int) - te
  let res := (epos - Cfg.CarPos.WMOFF cfg) * oneQ + overNs f.vp dt - halfAt2 f.a dt - f.pp
  if (res.natAbs : Int) ≤ win * oneQ then
    { f with dp := f.dp + gain (Cfg.CarPos.ALPHAW cfg) res
             pos := { f.pos with wayRes := roundQ res, wayMiss := 0, wayWin := true
                                 waySeen := f.pos.waySeen || (decide (2 ≤ f.pos.trust) && decide ((res.natAbs : Int) ≤ Cfg.CarPos.DWWAY cfg * oneQ)) } }
  else { f with pos := { f.pos with wayRes := roundQ res, wayMiss := runUp f.pos.wayMiss, wayFault := true, missCnt := wrapAdd 32 f.pos.missCnt 1 } }

/-- FUSION (R102) of one car at this boundary: the fused state, before trust. -/
def State.fuseOf (s : State) (c : Nat) : Fuse :=
  let x := s.car c
  let cfg := s.carPos c
  let a := s.aCmd c
  let t : Int := tickNs
  let vp := x.pos.vQ + overNs a t
  let f0 : Fuse := { pp := x.pos.pQ + overNs x.pos.vQ t + halfAt2 a t, vp := vp, a := a, dp := 0, dv := 0, pos := { x.pos with wayFault := false } }
  let f1 := match x.rep with
    | some (r, _) => fuseTape cfg s.time.cfg.holdLimit s.time.now (s.tapeUse c) r x.pos.anchorT { f0 with pos := { f0.pos with tapeAge := s.time.now - r.ts } }
    | none => { f0 with pos := { f0.pos with tapeUse := false, tapeOk := false, tapeRun := 0, noTape := runUp f0.pos.noTape } }
  let avail := decide ((Cfg.CarPos.BEMFMIN cfg * 1000 : Nat) * oneQ ≤ (x.pos.vQ.natAbs : Int))
  let m := s.bemfSeg c
  let f2 := fuseBemf cfg avail m ((m.map fun p => s.bemfOff (Cfg.Segment.SEG p.1)).getD 0) f1
  let es := x.edges.filterMap fun e => (s.waymark? e.wm).map fun r => (s.edgePos r e.trail, e.te)
  es.foldl (fun f e => fuseEdge cfg s.time.now (s.wayWindow c) e.1 e.2 f) f2

/-- R110 step 3: the mean of tape minus back-EMF, sums by segment, in µm. -/
def Car.learnSeg (seg : Nat) (d : Int) (x : Car) : Car :=
  match x.learn with
  | none => x
  | some l =>
    let old := (l.segs.find? fun p => p.1 == seg).getD (seg, 0, 0)
    { x with learn := some { l with segs := (l.segs.filter fun p => p.1 != seg) ++ [(seg, old.2.1 + d, old.2.2 + 1)] } }

/-- Fuse one car and take its edges. -/
def State.fuseCar (c : Nat) (s : State) : State :=
  let f := s.fuseOf c
  let x := s.car c
  let v := f.vp + f.dv
  let p := f.pp + f.dp
  let anchor := match s.tapeUse c, x.rep with
    | .usable _, some (r, _) => if bit r.tq 1 then some (s.time.now, r.ts) else x.pos.anchorT
    | _, _ => x.pos.anchorT
  let applied := f.pos.tapeOk || f.pos.bemfOk || decide (f.pos.wayMiss < x.pos.wayMiss + x.edges.length)
  let moving := x.stands == false && v != 0
  let pos := { f.pos with
    pQ := p, vQ := v, fusedAt := s.time.now, anchorT := anchor
    vpos := if isLane x.pos.elem then 0 else match x.rep with
      | some (r, _) => if bit r.tq 2 then r.tvpos else x.pos.vpos
      | none => x.pos.vpos
    noSrc := if applied || !moving then 0 else runUp f.pos.noSrc }
  let lseg := match s.bemfSeg c, x.rep with
    | some (g, y), some (r, _) =>
      let m := r.tpos * oneQ + overNs v ((s.time.now : Int) - r.ts)
      some (Cfg.Segment.SEG g, roundQ (m - bemfMeasure (Cfg.Segment.START g) 0 (Cfg.Segment.POLE g) y.theta m - overNs v tickNs))
    | _, _ => none
  let s1 := s.modCar c fun y =>
    let y1 := { y with pos := pos, edges := [] }
    if f.pos.bemfAv then (match lseg with
      | some (g, d) => y1.learnSeg g d
      | none => y1) else y1
  let s2 := if f.pos.wayFault then s1.posFire 0x24 c x.pos.trust else s1
  -- R104: a source becomes agreeing again after 64 evaluations within its window; Waymarks at the next edge within it
  let s3 := if f.pos.tapeDis && decide (64 ≤ f.pos.tapeGood) then (s2.modPos c fun q => { q with tapeDis := false }).posFire 0x21 c 0 else s2
  let s4 := if f.pos.bemfDis && decide (64 ≤ f.pos.bemfGood) then (s3.modPos c fun q => { q with bemfDis := false }).posFire 0x21 c 0 else s3
  let s5 := if f.pos.wayDis && f.pos.wayMiss == 0 then (s4.modPos c fun q => { q with wayDis := false }).posFire 0x21 c 0 else s4
  if f.pos.tapeUse then s5.modPos c fun q => { q with tapeLost := false } else s5

/-! ## The trust step (R106, R107) -/

/-- The tape is lost (R103), disagrees (R104); back-EMF disagrees. -/
def Pos.lost (p : Pos) : Bool := p.tapeLost || decide (8 ≤ p.noTape)
def Pos.tapeOff (p : Pos) : Bool := p.tapeDis || decide (8 ≤ p.tapeMiss)
def Pos.bemfOff (p : Pos) : Bool := p.bemfDis || decide (8 ≤ p.bemfMiss)

/-- R106: whether a fused position lies outside its element. -/
def State.outside (s : State) (p : Pos) : Bool :=
  let hi : Int := if isLane p.elem then ((s.lane? p.elem).map fun r => (Cfg.Lane.LEN r : Int)).getD 0 else Cfg.Xing.TRAVEL (s.xingOf p.elem)
  decide (p.pQ < 0) || decide (hi * oneQ < p.pQ)

/-- R106, R107: the lowest state whose downgrade condition holds. -/
def State.downTo (s : State) (c : Nat) : Nat :=
  let x := s.car c
  let p := x.pos
  let standing := x.stands
  let free := x.rep.isSome && (x.tbs == 0 || x.tbs == 1)
  let unknown := decide (64 ≤ p.noSrc) || s.outside p
  let coarse := p.tapeOff || (p.lost && !standing)
  let anchored := p.tapeOff || p.bemfOff || (if standing then decide (64 ≤ p.noTape) else p.lost) || p.wayFault || free
  if p.trust = 0 then 0
  else if unknown then 0
  else if p.trust = 1 then 1
  else if p.trust = 2 then (if coarse then 1 else 2)
  else if anchored then (if coarse then 1 else 2) else 3

/-- R106: the state one step up, where its condition holds. -/
def State.upTo (s : State) (c : Nat) : Nat :=
  let x := s.car c
  let p := x.pos
  match (if x.search.isSome && !x.stands then 0 else p.trust) with
  | 1 =>
    let how := (x.stands && (x.offered || x.search.isSome) && s.inVane c) || p.wayWin || decide (64 ≤ p.bemfRun)
    if decide (64 ≤ p.tapeRun) && how then 2 else 1
  | 2 =>
    if s.cfg.calib.present && p.tapeUse && !p.tapeOff && !p.lost && p.bemfAv && !p.bemfOff && p.waySeen && (x.tbs == 3 || x.tbs == 4) then 3 else 2
  | _ => p.trust

/-- R107: a car rises from UNKNOWN on a standing reading; its position and element are reloaded from the reading. The
reading's element is taken as the car's, which is not known (log 27). -/
def State.riseStanding (c : Nat) (s : State) : State :=
  match (s.car c).rep with
  | some (r, _) =>
    if (s.car c).pos.trust = 0 ∧ bit r.tq 0 ∧ bit r.tq 1 ∧ (s.time.now : Int) - r.ts ≤ Cfg.CarPos.TAPEAGE (s.carPos c) then
      (s.modCar c fun y => { y with
        pos := { y.pos with elem := r.elem, pQ := r.tpos * oneQ, vQ := 0, noTape := 0, tapeMiss := 0, tapeUse := true, tapeOk := true }
        plan := { y.plan with pQ := r.tpos * oneQ, endQ := r.tpos * oneQ } }).setTrust c 1
    else s
  | none => s

/-- TRUST_CHANGE (R106, R107) of one car: downgrades before upgrades, at most one state up at a boundary. -/
def State.trustStep (c : Nat) (s : State) : State :=
  let d := s.downTo c
  if d < (s.car c).pos.trust then s.setTrust c d
  else if (s.car c).pos.trust = 0 then s.riseStanding c
  else s.setTrust c (s.upTo c)

/-- R109: LIMTRIP clears at the first boundary at which the car stands braked and no limit is passed. -/
def State.passed (s : State) (c now : Nat) : Bool :=
  let x := (s.car c).pos
  let p := x.pQ + overNs x.vQ ((now : Int) - x.fusedAt)
  let u := s.unc c
  let up := p + (s.extUp c x.elem + u) * oneQ
  let dn := p - (s.extDn c x.elem + u) * oneQ
  let lim := s.limits x.elem
  let onLoa := if x.loaDir = 0 then false
    else if x.loaElem = x.elem then (if 0 < x.loaDir then decide (x.loa * oneQ < up) else decide (dn < x.loa * oneQ))
    else
      let j := s.joinToward x.elem x.loaElem * oneQ
      (if 0 < x.loaDir then decide (j < p) else decide (p < j))
  decide (lim.2 * oneQ < up) || decide (dn < lim.1 * oneQ) || onLoa

/-- LIMIT_TRIP (R109) of one car at a fast tick: LIMTRIP, event source 0x23, fault 0x06. -/
def State.compare (c : Nat) (s : State) : State :=
  if (s.car c).pos.limTrip || (s.car c).pos.trust == 0 && (s.car c).rep.isNone then s
  else if s.passed c s.time.now then
    ((s.modPos c fun p => { p with limTrip := true }).posFire 0x23 c 1).fault 0x06 c (s.car c).pos.elem
  else s

/-- R109: LIMTRIP clears at a boundary. -/
def State.clearLimit (c : Nat) (s : State) : State :=
  if (s.car c).pos.limTrip && (s.car c).stands && !s.passed c s.time.now then
    (s.modPos c fun p => { p with limTrip := false }).unfault fun f => f.code == 0x06 && f.car == c
  else s

/-- FUSION and TRUST_CHANGE of every car at a tick boundary. -/
def State.fusion (s : State) : State := s.carNums.foldl (fun s c => ((s.fuseCar c).trustStep c).clearLimit c) s

/-! ## Rows -/

/-- TAPE_LOST (R103): no usable reading for 8 consecutive ticks; event source 0x22. -/
def execTapeLost (t car : Nat) (s : State) : Host.Outcome State Fault Refusal :=
  let s := s.advance t
  let p := (s.car car).pos
  if decide (8 ≤ p.noTape) && !p.tapeLost then ok ((s.modPos car fun q => { q with tapeLost := true }).posFire 0x22 car p.trust) else ok s

/-- SOURCE_DISAGREEING (R104): 8 misses in a row, or two Waymark faults in a row; event source 0x21. -/
def execSourceDisagreeing (t car : Nat) (src : PosSource) (s : State) : Host.Outcome State Fault Refusal :=
  let s := s.advance t
  let p := (s.car car).pos
  match src with
  | .tape => if decide (8 ≤ p.tapeMiss) && !p.tapeDis then ok ((s.modPos car fun q => { q with tapeDis := true }).posFire 0x21 car 1) else ok s
  | .bemf => if decide (8 ≤ p.bemfMiss) && !p.bemfDis then ok ((s.modPos car fun q => { q with bemfDis := true }).posFire 0x21 car 1) else ok s
  | .way => if decide (2 ≤ p.wayMiss) && !p.wayDis then ok ((s.modPos car fun q => { q with wayDis := true }).posFire 0x21 car 1) else ok s

/-- POSSTAT. -/
def State.posStat (s : State) (c : Nat) : Nat :=
  let x := s.car c
  let p := x.pos
  bitsOf [p.tapeOk, p.bemfOk, p.bemfAv, p.waySeen, p.tapeDis || p.tapeLost, p.bemfDis, p.wayDis, x.tbs == 0 || x.tbs == 1, x.tbs == 4,
    s.chk.learn.isSome, x.search.isSome, p.limTrip, !s.cfg.calib.present]

/-- R99: the position record, from the offset 0 fields. -/
def posRecord (r : Report) : List Byte :=
  le 1 r.elem ++ le 1 r.tbState ++ le 1 r.tq ++ zeros 1 ++ leS 4 r.tpos ++ leS 4 r.tvpos ++ le 8 r.ts

/-- POSITION_READ (R108). In the CAR role the position record of R99 leads the reply, and every other byte is 0. -/
def positionReadReply (s : State) (tr : TagRec) (_d : List Byte) : List Byte :=
  let c := tgtIdx tr.tgt
  if s.boot.role = .car then posRecord (s.crole.tape.getD ⟨0, 0, 0, 0, 0, 0, 0, 0, 0, [], 0⟩) ++ zeros 36
  else
    let x := (s.car c).pos
    let lim := s.limits x.elem
    leS 4 (roundQ x.pQ) ++ leS 4 (roundQ x.vQ) ++ leS 4 x.vpos ++ le 1 x.elem ++ le 1 x.trust ++ le 2 (s.posStat c) ++ leS 4 (s.unc c)
      ++ leS 4 x.loa ++ le 1 x.loaElem ++ zeros 3 ++ leS 4 lim.1 ++ leS 4 lim.2 ++ leS 4 (satI32 x.tapeRes) ++ leS 4 (satI32 x.bemfRes)
      ++ leS 4 (satI32 x.wayRes) ++ le 4 (satN 32 x.tapeAge) ++ le 4 x.missCnt

def positionReadCard : CardDef where
  k := { opc := 0x2020, role := 3, query := true, kinds := [8] }
  lenOk := lenIs 0
  eff := answer positionReadReply

/-- POSITION_READ (R108). -/
def execPositionRead (h : Hdr) (data : List Byte) (s : State) : Host.Outcome State Fault Refusal := ok (runCard positionReadCard h data s)

end Sys2Proof.Machine
end

