-- ==== Sys2Proof/Machine/Profile.lean ====
section
/-! DEFINITION. Profiles (file 05: R118-R124, R135): phases of constant jerk, evaluated exactly; phase lengths held to
1 ns, rounded to the nearest (log 28). Speeds and positions are in Q32.32, like the accelerations; jerks in
µm/s³. a_cmd is rounded to 1 µm/s² where it is read. -/

namespace Sys2Proof.Machine

/-- A point of motion: position, speed and acceleration in Q32.32, jerk in whole units. -/
structure Mot where
  pQ : Int := 0
  vQ : Int := 0
  aQ : Int := 0
  j  : Int := 0
deriving DecidableEq, Repr

/-- Limits of a plan: V in µm/s, A in µm/s², J in µm/s³; trapezoidal profiles take no jerk. -/
structure Lim where
  v    : Nat := 0
  a    : Nat := 1
  j    : Nat := 1
  trap : Bool := false
deriving DecidableEq, Repr

/-- Motion after `ns` of jerk `j`: p + v t + a t²/2 + j t³/6 (R115: exact, brought to Q32.32 by halves away from zero). -/
def Mot.flow (m : Mot) (j : Int) (ns : Nat) : Mot :=
  let t : Int := ns
  let jQ := j * 4294967296
  { pQ := m.pQ + divRound (6000000000000000000 * m.vQ * t + 3000000000 * m.aQ * t * t + jQ * t * t * t) 6000000000000000000000000000
    vQ := m.vQ + divRound (2000000000 * m.aQ * t + jQ * t * t) 2000000000000000000
    aQ := m.aQ + divRound (jQ * t) 1000000000
    j := j }

/-- Motion at the start of a phase: a trapezoidal phase steps the acceleration (R119). -/
def Mot.enter (m : Mot) (ph : Phase) : Mot := match ph.acc with
  | some a => { m with aQ := a * 4294967296 }
  | none => m

/-- Motion at `ns` after the start of a list of phases, and the phase number; at their end it stands as they left it. -/
def runPhases : List Phase → Nat → Mot → Mot × Nat
  | [], _, m => (m, 0)
  | ph :: ps, ns, m =>
    let m1 := m.enter ph
    if ns < ph.dur then (m1.flow ph.jerk ns, ph.num) else runPhases ps (ns - ph.dur) (m1.flow ph.jerk ph.dur)

/-- Total length of phases. -/
def durOf (ps : List Phase) : Nat := (ps.map (·.dur)).sum

/-- Motion at the end of phases. -/
def endOf (ps : List Phase) (m : Mot) : Mot := (runPhases ps (durOf ps) m).1

/-- Distance covered by phases, Q32.32. -/
def distOf (ps : List Phase) (m : Mot) : Int := (endOf ps m).pQ - m.pQ

/-- Nanoseconds of a quotient num/den of seconds, rounded to the nearest. -/
def secs (num den : Int) : Nat := if den ≤ 0 ∨ num ≤ 0 then 0 else ((2 * num * 1000000000 + den) / (2 * den)).toNat

/-- Square root of a non-negative integer, to the nearest. -/
def rootOf (x : Int) : Int :=
  let n := x.toNat
  let r := isqrt n
  if r * r + r < n then r + 1 else r

/-- One in Q32.32. -/
def q1 : Int := 4294967296

/-- R118, R122: the peak acceleration of a change of speed `dv` from acceleration `a0`, limited to A, with the time of
its constant part in ns. Q32.32. -/
def peak (lim : Lim) (dv a0 : Int) : Int × Nat :=
  let a : Int := lim.a * q1
  let j : Int := lim.j
  let free := 2 * j * dv * q1 + a0 * a0 - 2 * a * a
  if free < 0 then (min a (rootOf ((2 * j * dv * q1 + a0 * a0) / 2)), 0) else (a, secs free (2 * j * a * q1))

/-- R122: from speed `v0` and acceleration `a0` down to `vc` (all in the direction of motion, Q32.32): phases 5-7, with
the rule for a state outside the service bounds. -/
def slowTo (lim : Lim) (v0 a0 vc : Int) : List Phase :=
  let dv := v0 - vc
  if lim.trap then [{ dur := secs dv (lim.a * q1), jerk := 0, acc := some (-(lim.a : Int)), num := 6 }, { dur := 0, jerk := 0, acc := some 0, num := 0 }]
  else
    let j : Int := lim.j
    if a0 < -(lim.a * q1) ∨ (a0 < 0 ∧ 2 * j * dv * q1 < a0 * a0) then
      let ap := -a0
      let je := if dv ≤ 0 then j else max j ((a0 * a0 + 2 * dv * q1 - 1) / (2 * dv * q1))
      [{ dur := secs (2 * je * dv * q1 - ap * ap) (2 * je * ap * q1), jerk := 0, num := 6 },
       { dur := secs ap (je * q1), jerk := je, num := 7 }]
    else
      let p := peak lim dv a0
      [{ dur := secs (a0 + p.1) (j * q1), jerk := -j, num := 5 }, { dur := p.2, jerk := 0, num := 6 }, { dur := secs p.1 (j * q1), jerk := j, num := 7 }]

/-- R118, R123: from speed `v0` and acceleration `a0` up to `vc`: phases 1-3. -/
def raiseTo (lim : Lim) (v0 a0 vc : Int) : List Phase :=
  let dv := vc - v0
  if lim.trap then [{ dur := secs dv (lim.a * q1), jerk := 0, acc := some (lim.a : Int), num := 2 }, { dur := 0, jerk := 0, acc := some 0, num := 4 }]
  else
    let a : Int := lim.a * q1
    let j : Int := lim.j
    if a < a0 then
      [{ dur := secs (a0 - a) (j * q1), jerk := -j, num := 3 },
       { dur := secs (2 * j * dv * q1 - a0 * a0) (2 * j * a * q1), jerk := 0, num := 2 },
       { dur := secs a (j * q1), jerk := -j, num := 3 }]
    else
      let p := peak lim dv a0
      [{ dur := secs (p.1 - a0) (j * q1), jerk := j, num := 1 }, { dur := p.2, jerk := 0, num := 2 }, { dur := secs p.1 (j * q1), jerk := -j, num := 3 }]

/-- The speed at which the present acceleration would come to zero under jerk J (R123), Q32.32. -/
def coastV (lim : Lim) (v0 a0 : Int) : Int :=
  if lim.trap then v0 else v0 + divRound (a0 * a0.natAbs) (2 * lim.j * 4294967296)

/-- R123: the transition to speed `vc` with zero acceleration. -/
def toSpeed (lim : Lim) (v0 a0 vc : Int) : List Phase :=
  if coastV lim v0 a0 ≤ vc then raiseTo lim v0 a0 vc else slowTo lim v0 a0 vc

/-- R122: the service stop of a state moving in the positive direction. -/
def stopPhases (lim : Lim) (v0 a0 : Int) : List Phase := if v0 ≤ 0 ∧ a0 = 0 then [] else slowTo lim v0 a0 0

/-- R122: distance to the stop point, Q32.32. -/
def stopDist (lim : Lim) (v0 a0 : Int) : Int := distOf (stopPhases lim v0 a0) { vQ := v0, aQ := a0 }

/-- Length of transition and final deceleration for a cruise at `vc`. -/
def bothDist (lim : Lim) (v0 a0 vc : Int) : Int :=
  distOf (toSpeed lim v0 a0 vc) { vQ := v0, aQ := a0 } + stopDist lim vc 0

/-- R123: the highest cruise speed of non-negative cruise length, by bisection on [lo, hi], to 2^-24 µm/s. -/
def cruiseV (lim : Lim) (v0 a0 d : Int) : Nat → Int → Int → Int
  | 0, lo, _ => lo
  | n + 1, lo, hi =>
    let mid := (lo + hi) / 2
    if bothDist lim v0 a0 mid ≤ d then cruiseV lim v0 a0 d n mid hi else cruiseV lim v0 a0 d n lo mid

/-- R118, R123: the profile over distance `d` (Q32.32, not short of the stop point) in the positive direction. -/
def goPhases (lim : Lim) (v0 a0 d : Int) : List Phase :=
  let top : Int := lim.v * 4294967296
  let vc := if bothDist lim v0 a0 top ≤ d then top else cruiseV lim v0 a0 d 56 0 top
  let up := toSpeed lim v0 a0 vc
  let down := stopPhases lim vc 0
  let gap := d - distOf up { vQ := v0, aQ := a0 } - distOf down { vQ := vc }
  up ++ [{ dur := secs gap vc, jerk := 0, num := 4 }] ++ down

/-- Mirror phases for motion in the negative direction. -/
def mirror (ps : List Phase) : List Phase := ps.map fun p => { p with jerk := -p.jerk, acc := p.acc.map fun a => -a }

/-- The direction of a move: that of motion, or of the target from rest. -/
def dirOf (m : Mot) (target : Int) : Int :=
  if m.vQ ≠ 0 then isign m.vQ else if m.aQ ≠ 0 then isign m.aQ else isign (target * 4294967296 - m.pQ)

/-- R122: stop point of a state, Q32.32. -/
def stopPoint (lim : Lim) (m : Mot) : Int :=
  let d := if m.vQ ≠ 0 then isign m.vQ else isign m.aQ
  m.pQ + d * stopDist lim (d * m.vQ) (d * m.aQ)

/-- R124: whether the target lies behind the stop point in the present direction of motion. -/
def isReversal (lim : Lim) (m : Mot) (target : Int) : Bool :=
  let d := dirOf m target
  decide (d * (target * 4294967296 - m.pQ) < stopDist lim (d * m.vQ) (d * m.aQ)) && (m.vQ != 0 || m.aQ != 0)

/-- R123: phases from a state to a target ahead. -/
def planPhases (lim : Lim) (m : Mot) (target : Int) : List Phase :=
  let d := dirOf m target
  let ps := goPhases lim (d * m.vQ) (d * m.aQ) (d * (target * 4294967296 - m.pQ))
  if d < 0 then mirror ps else ps

/-- R122: the service stop of a state. -/
def stopPlan (lim : Lim) (m : Mot) : List Phase :=
  let d := if m.vQ ≠ 0 then isign m.vQ else isign m.aQ
  let ps := stopPhases lim (d * m.vQ) (d * m.aQ)
  if d < 0 then mirror ps else ps


end Sys2Proof.Machine
end

