-- ==== Sys2Proof/Machine/Channels.lean ====
section
/-! DEFINITION. States of a CAN channel and the points its objects feed (file 12: R306-R308, R312). -/

namespace Sys2Proof.Machine

/-! ## Channels (R306-R308) -/

def CanSt.code : CanSt → Nat
  | .off => 0
  | .detect => 1
  | .active => 2
  | .passive => 3
  | .busOff => 4
  | .verify => 5
  | .mismatch => 6
  | .asleep => 7
  | .listen => 8

def State.chan (s : State) (ch : Nat) : Can := s.can.getD ch {}
def State.modCan (ch : Nat) (f : Can → Can) (s : State) : State := { s with can := s.can.modify ch f }

/-- R306: the states that receive into the store. -/
def CanSt.receives : CanSt → Bool
  | .detect => true
  | .active => true
  | .passive => true
  | .verify => true
  | .listen => true
  | _ => false

/-- R306: the states that send. -/
def CanSt.sends : CanSt → Bool
  | .active => true
  | .passive => true
  | _ => false

/-- R324: payload of the class 0x9 events. -/
def State.canItems (s : State) (ch id : Nat) : List Byte :=
  le 1 ch ++ le 1 (s.chan ch).st.code ++ le 4 id ++ le 1 (satN 8 (s.chan ch).tec)

def State.canFire (src ch id : Nat) (s : State) : State := s.fire src 0 0 (s.canItems ch id)

/-- R312: the point an object feeds: VALUE from its type, LOST and STALE, the object's STAMP. -/
def CanObj.pointOf (o : CanObj) (ty idx : Nat) : Point :=
  { idx := idx, at0 := o.stamp
    value := if 0x90 ≤ ty ∧ ty ≤ 0x9F then rd o.data (4 * (ty - 0x90)) 4 else rd o.data 0 4
    flags := 1 + 2 * b2n (bit o.flags 1) + 8 * b2n (bit o.flags 7) }

/-- SOURCE of an object (R309). -/
def objSource (ch idx : Nat) : Nat := ch * 8192 + idx

/-- Bring the points of an object up to date. -/
def State.feedObj (ch : Nat) (o : CanObj) (s : State) : State :=
  ((s.ptRecs.filter fun r => ptType r != 0x80 && ptType r != 0x81 && ptSource r == objSource ch o.idx)).foldl
    (fun (s : State) r => s.putPoint (o.pointOf (ptType r) (ptIdx r))) s

/-- Enter a channel state; event source 0x90 on a change. A state that does not receive makes every object STALE (R312);
DETECT and VERIFY count frames and errors afresh (R307, R308). -/
def State.setCan (ch : Nat) (st : CanSt) (s : State) : State :=
  if (s.chan ch).st = st then s
  else
    let s1 := s.modCan ch fun c =>
      { c with
        st := st, errRun := if st = .detect ∨ st = .verify then 0 else c.errRun, valid := if st = .detect then 0 else c.valid
        dirty := if st = .detect ∨ st = .verify then false else c.dirty
        objs := if st.receives then c.objs else c.objs.map fun o => { o with flags := o.flags ||| 128 } }
    let s2 := if st.receives then s1 else (s1.chan ch).objs.foldl (fun (s : State) o => s.feedObj ch o) s1
    s2.canFire 0x90 ch 0xFFFFFFFF

/-! ## Extended objects (R309) -/

/-- Extended records of a channel in section 0x0901, in order. -/
def State.extRecs (s : State) (ch : Nat) : List (List Byte) :=
  (s.recs Cfg.CanRxObj.sec).filter fun r => Cfg.CanRxObj.CH r == ch && bit (Cfg.CanRxObj.ID r) 30

/-- The identifier of an index. -/
def State.idOfIdx (s : State) (ch idx : Nat) : Nat :=
  if idx < 2048 then idx else (((s.extRecs ch)[idx - 2048]?).map fun r => Cfg.CanRxObj.ID r % 2 ^ 29 + 2 ^ 30).getD 0

/-- R309: after a write of section 0x0901 an extended object stays while its index keeps its identifier. -/
def State.trimObjs (s : State) : State :=
  { s with can := s.can.zipIdx.map fun (c, i) =>
      { c with objs := c.objs.filter fun o => decide (o.idx < 2048) || o.id == s.idOfIdx i o.idx } }

/-! ## Start (R307) -/

def State.canRec (s : State) (ch : Nat) : List Byte := s.keyed Cfg.CanCh.sec Cfg.CanCh.CH ch Cfg.CanCh.dflt

/-- R306, R307: the state a channel starts in: OFF with CFLG[0] clear, LISTEN with CFLG[4] set, DETECT with CFLG[2]
set, else ACTIVE. -/
def canStartState (rec : List Byte) : CanSt :=
  let f := Cfg.CanCh.CFLG rec
  if !bit f 0 then .off else if bit f 4 then .listen else if bit f 2 then .detect else .active

/-- R307: (re)start every CAN channel, its counters at zero; nothing before stage 3 (R306). -/
def State.startCan (s : State) : State :=
  if s.boot.stage < 3 then s
  else (List.range s.can.length).foldl (fun (s : State) i =>
    (s.modCan i fun c => { c with errRun := 0, valid := 0, dirty := false, detBit := 0, tec := 0, recv := 0 }).setCan i (canStartState (s.canRec i))) s

end Sys2Proof.Machine
end

