-- ==== Sys2Proof/Machine/Store.lean ====
section
/-! DEFINITION. The configuration store and CONFIG_WRITE (R28, R98, R112), and what a committed section changes in the
running device: calibration (R98), check report (R62), points (R19), banks (R190), CAN channels (R307), books (R470). -/

namespace Sys2Proof.Machine

/-- Put a section in place of the stored one, in ascending identifier; none deletes it. -/
def putSection (id : Nat) (d : Option (List Byte)) (xs : List (Nat × List Byte)) : List (Nat × List Byte) :=
  (xs.filter fun p => decide (p.1 < id)) ++ (match d with | some b => [(id, b)] | none => []) ++ (xs.filter fun p => decide (id < p.1))

/-- The configuration as one run of bytes: each section in ascending identifier, after its SECTION, 2 zero bytes and
TOTAL (R386; CFGCRC, log 22). -/
def sectionRun (xs : List (Nat × List Byte)) : List Byte :=
  (xs.map fun p => le 2 p.1 ++ zeros 2 ++ le 4 p.2.length ++ p.2).flatten

/-- CFGCRC: CRC-32 of the configuration (R58). -/
def State.cfgCrc (s : State) : Nat := crc32 (sectionRun s.cfg.a)

/-- R386: M_CFG, zero while no signed configuration is held. -/
def State.mCfg (s : State) : List Byte :=
  if (s.secBytes 0x0C00).isEmpty then zeros 48
  else le 48 (Config.sha384 (sectionRun (s.cfg.a.filter fun p => p.1 != 0x0C00))).toNat

/-! ## What a section carries into the running device -/

/-- R190: bank record of a channel in section 0x0401 (0 bank A, 1 bank B). -/
def State.bankRec (s : State) (ch b : Nat) : Option (List Byte) :=
  (s.recs Cfg.Bank.sec).find? fun r => Cfg.Bank.CH r == ch && Cfg.Bank.BANK r == b

/-- R190: both banks loaded from section 0x0401, bank A active. -/
def State.loadBanks (s : State) : State :=
  { s with chans := s.chans.zipIdx.map fun (c, i) =>
      { c with bankA0 := (s.bankRec i 0).getD [], bankB0 := (s.bankRec i 1).getD [],
               loadedA := (s.bankRec i 0).isSome, loadedB := (s.bankRec i 1).isSome, bankB := false } }

/-- R470: a committed write to section 0x0203 while the books stand. -/
def State.booksWrite (s : State) : State :=
  if !s.auth.rebuilt then s
  else
    let cs := s.blockCfgs
    let added := (cs.filter fun c => !s.auth.blocks.any fun b => b.id == Cfg.Block.BLOCK c).map fun c =>
      ({ id := Cfg.Block.BLOCK c, elem := Cfg.Block.ELEM c, start := Cfg.Block.START c, stop := Cfg.Block.END c, owner := .unsettled } : Blk)
    { s with auth := { s.auth with
        blocks := (s.auth.blocks.map fun b => { b with removed := !cs.any fun c => Cfg.Block.BLOCK c == b.id }) ++ added
        rebuildDue := true } }

/-- R98: sections whose write makes the calibration invalid. -/
def calibSections : List Nat := [0x0200, 0x0201, 0x0202, 0x0203, 0x0204, 0x0205, 0x0207]

/-- R112: the stored section is replaced in both copies, with what follows from it; ledger record TYPE 0x08 (R391). -/
def State.commitSection (id : Nat) (d : Option (List Byte)) (s : State) : State :=
  let crc := match d with | some b => crc32 b | none => 0
  let s1 := { s with
    cfg := { s.cfg with
      a := putSection id d s.cfg.a, b := putSection id d s.cfg.b
      calib := if calibSections.contains id then { s.cfg.calib with present := false } else s.cfg.calib }
    chk := { s.chk with report := none, total := 0 } }
  let s2 := if id = 0x0002 then { s1 with pts := s1.pts.filter fun p => (s1.point? p.idx).isSome && s.point? p.idx == s1.point? p.idx }
    else if id = 0x0401 then s1.loadBanks
    else if id = 0x0900 then s1.startCan
    else if id = 0x0901 then s1.trimObjs
    else if id = 0x0203 then s1.booksWrite
    else s1
  s2.ledger 8 1 0 0 (le 2 id ++ zeros 2 ++ le 4 crc)

/-! ## CONFIG_WRITE -/

/-- SECTION, OFFSET and TOTAL of the payload. -/
def cwSec (d : List Byte) : Nat := rd d 0 2
def cwOff (d : List Byte) : Nat := rd d 4 4
def cwTot (d : List Byte) : Nat := rd d 8 4
def cwBytes (d : List Byte) : List Byte := d.drop 12

/-- The deleting write of R112. -/
def cwDeletes (d : List Byte) : Bool := cwOff d == 0 && cwTot d == 0 && (cwBytes d).isEmpty

/-- The staged bytes this fragment continues; none where it is out of order. -/
def State.cwBase (s : State) (d : List Byte) : Option (List Byte) :=
  if cwOff d = 0 then some []
  else match s.cfg.staging with
    | some g => if g.id = cwSec d ∧ g.total = cwTot d ∧ g.next = cwOff d then some g.data else none
    | none => none

/-- The fragment completes its section. -/
def cwCompletes (d : List Byte) : Bool := cwOff d + (cwBytes d).length == cwTot d

/-- Section known and of the device's role. -/
def State.cwSection (s : State) (d : List Byte) : Option SecDef :=
  (sectionOf (cwSec d)).filter fun x => bit x.role (roleCode s.boot.role - 1)

/-- R113: the checks of CONFIG_WRITE in this order: enabled, check running, learn run, section, order and TOTAL, fields. -/
def configWriteOwn (s : State) (_tr : TagRec) (d : List Byte) : Own :=
  let no := zeros 8
  if s.boot.stage = 6 then some (0x2011, no)
  else if s.chk.running.isSome then some (0x2003, no)
  else if s.chk.learn.isSome then some (0x2016, no)
  else match s.cwSection d with
    | none => some (0x2012, no)
    | some x =>
      if cwDeletes d then none
      else if cwTot d = 0 ∨ x.maxTotal < cwTot d ∨ cwTot d % x.size ≠ 0 ∨ cwTot d < cwOff d + (cwBytes d).length then some (0x2013, no)
      else match s.cwBase d with
        | none => some (0x2013, no)
        | some g =>
          if cwCompletes d then
            (sectionBad x (roleCode s.boot.role) (g ++ cwBytes d)).map fun o => (0x2015, zeros 4 ++ le 4 o)
          else none

/-- R112: stage a fragment; send a completed section to both copies; delete a section at once. -/
def configWriteEff (tr : TagRec) (d : List Byte) (s : State) : State :=
  if cwDeletes d then
    (({ s with cfg := { s.cfg with staging := none } }).commitSection (cwSec d) none).done tr (zeros 8)
  else
    let bytes := (s.cwBase d).getD [] ++ cwBytes d
    if cwCompletes d then
      { s with cfg := { s.cfg with staging := none, writing := s.cfg.writing ++ [{ tag := tr, id := cwSec d, data := bytes }] } }
    else
      ({ s with cfg := { s.cfg with staging := some { id := cwSec d, next := cwOff d + (cwBytes d).length, total := cwTot d, data := bytes } } }).done tr (zeros 8)

def configWriteCard : CardDef where
  k := { opc := 0x2010, role := 3, query := false, kinds := [1], kindsC := some [8] }
  lenOk := fun d => decide (12 ≤ d.length)
  own := configWriteOwn
  eff := configWriteEff

/-- CONFIG_WRITE (R112). -/
def execConfigWrite (h : Hdr) (data : List Byte) (s : State) : Host.Outcome State Fault Refusal := ok (runCard configWriteCard h data s)

/-- R112, R351: the completed section is in both copies, and in a pair in the standby's store. -/
def execConfigStoreWritten (t : Nat) (good : Bool) (s : State) : Host.Outcome State Fault Refusal :=
  let s := s.advance t
  match s.cfg.writing with
  | [] => ok s
  | w :: ws =>
    let s1 := { s with cfg := { s.cfg with writing := ws } }
    if good then ok ((s1.commitSection w.id (some w.data)).done w.tag (le 4 (crc32 w.data) ++ zeros 4))
    else ok (s1.finish w.tag 4 0x2014 s1.time.now (zeros 8))

end Sys2Proof.Machine
end

