-- ==== Sys2Proof/Machine/Loop.lean ====
section
/-! DEFINITION. The control engine (file 07): the signal path, feed-forward, bank swaps, injections, supervision,
captures and the pass, in binary64 (R182). -/

namespace Sys2Proof.Machine

/-! ## Records -/

def State.chanRec? (s : State) (ch : Nat) : Option (List Byte) := (s.recs Cfg.Channel.sec).find? fun r => Cfg.Channel.CH r == ch
def State.modChan (ch : Nat) (f : Chan → Chan) (s : State) : State := { s with chans := s.chans.modify ch f }
def State.loopCh (s : State) (ch : Nat) : Chan := s.chans.getD ch {}

/-- A binary32 field, widened (R182). -/
def f32At (r : List Byte) (o : Nat) : F64 := F64.ofF32 (rd r o 4)

/-- A binary64 value in a reply's f32 field. -/
def f32Out (x : F64) : List Byte := le 4 x.toF32

/-- T_ch in ns (R195). -/
def chanNs (r : List Byte) : Nat := if Cfg.Channel.RATE r = 1 then 31250 else 125000

/-- T_ch in seconds, binary64: the quotient of two integers, rounded once. -/
def chanSec (r : List Byte) : F64 := F64.div (F64.ofInt (chanNs r)) (F64.ofInt 1000000000)

/-- The active bank. -/
def Chan.bank (c : Chan) : BankRec := if c.bankB then c.bankB0 else c.bankA0
/-- The bank A (false) or B. -/
def Chan.bankOf (c : Chan) (b : Bool) : BankRec := if b then c.bankB0 else c.bankA0
def Chan.loaded (c : Chan) (b : Bool) : Bool := if b then c.loadedB else c.loadedA

def ChSt.code : ChSt → Nat
  | .off => 0
  | .run => 1
  | .hold => 2
  | .ramp => 3

/-! ## The signal path (R184) -/

/-- Coefficients of a filter stage: b0-b3, a1-a3. -/
structure Coef where
  b0 : F64
  b1 : F64
  b2 : F64
  b3 : F64
  a1 : F64
  a2 : F64
  a3 : F64
deriving DecidableEq, Repr

/-- The compensator of a bank; a form-2 compensator has b3 = a3 = 0. -/
def compOf (b : BankRec) : Coef :=
  let f3 := Cfg.Bank.FORM b == 3
  ⟨f32At b 4, f32At b 8, f32At b 12, if f3 then f32At b 16 else F64.zero, f32At b 20, f32At b 24, if f3 then f32At b 28 else F64.zero⟩

/-- A notch of a bank, at offset 32 or 52. -/
def notchOf (b : BankRec) (o : Nat) : Coef := ⟨f32At b o, f32At b (o + 4), f32At b (o + 8), F64.zero, f32At b (o + 12), f32At b (o + 16), F64.zero⟩

/-- States of one stage. -/
structure Stg where
  s1 : F64 := F64.zero
  s2 : F64 := F64.zero
  s3 : F64 := F64.zero
deriving DecidableEq, Repr

/-- R184: one stage: its output and states. -/
def stage (f : Coef) (s : Stg) (x : F64) : F64 × Stg :=
  let y := (f.b0.mul x).add s.s1
  (y, { s1 := ((f.b1.mul x).sub (f.a1.mul y)).add s.s2
        s2 := ((f.b2.mul x).sub (f.a2.mul y)).add s.s3
        s3 := (f.b3.mul x).sub (f.a3.mul y) })

def Chan.stg (c : Chan) (k : Nat) : Stg := ⟨c.s.getD (3 * k) F64.zero, c.s.getD (3 * k + 1) F64.zero, c.s.getD (3 * k + 2) F64.zero⟩
def stgList (a b c : Stg) : List F64 := [a.s1, a.s2, a.s3, b.s1, b.s2, b.s3, c.s1, c.s2, c.s3]

/-- The compensator and the enabled notches on an input: output after the notches, states. -/
def pathOf (b : BankRec) (s0 s1 s2 : Stg) (e : F64) : F64 × (Stg × Stg × Stg) :=
  let p0 := stage (compOf b) s0 e
  let n := Cfg.Bank.NEN b
  let p1 := if bit n 0 then stage (notchOf b 32) s1 p0.1 else (p0.1, s1)
  let p2 := if bit n 1 then stage (notchOf b 52) s2 p1.1 else (p1.1, s2)
  (p2.1, (p0.2, p1.2, p2.2))

/-- R192: a stage at rest for a constant input: its output and states. -/
def restStage (f : Coef) (x : F64) : F64 × Stg :=
  let num := ((f.b0.add f.b1).add f.b2).add f.b3
  let den := (((F64.ofInt 1).add f.a1).add f.a2).add f.a3
  let y := (num.div den).mul x
  let s1 := y.sub (f.b0.mul x)
  let s2 := (s1.sub (f.b1.mul x)).add (f.a1.mul y)
  (y, { s1 := s1, s2 := s2, s3 := (s2.sub (f.b2.mul x)).add (f.a2.mul y) })

/-- R192: set_rest: each stage at rest for a constant error. -/
def setRest (b : BankRec) (e : F64) : Stg × Stg × Stg :=
  let p0 := restStage (compOf b) e
  let n := Cfg.Bank.NEN b
  let p1 := if bit n 0 then restStage (notchOf b 32) p0.1 else (p0.1, {})
  let p2 := if bit n 1 then restStage (notchOf b 52) p1.1 else (p1.1, {})
  (p0.2, p1.2, p2.2)

/-! ## Feed-forward (R186, R187) -/

/-- Held load in kg (R187). -/
def State.heldLoad (s : State) (c : Nat) : Nat := (s.car c).prop.load.getD (Cfg.CarMass.LOADDEF (s.carMass c))

/-- M in kg. -/
def State.massOf (s : State) (c : Nat) : Nat := Cfg.CarMass.MCAR (s.carMass c) + s.heldLoad c

/-- G in µm/s² for a destination of a car (R186). -/
def State.gravOf (s : State) (c dest : Nat) : Nat :=
  let lane := isLane (s.car c).pos.elem
  if (lane ∧ dest = 1) ∨ (!lane ∧ dest = 2) then Cfg.CarMass.GLOC (s.carMass c) else 0

/-- R172, R186: the force that holds a car, in mN. -/
def State.holdForce (s : State) (c dest : Nat) : Int := divRound ((s.massOf c : Int) * s.gravOf c dest) 1000

/-- Mean acceleration of the plan along a channel's own axis, µm/s² (R115): the vertical axis of a Crossing leg carries
the share of VPOS in it. -/
def State.aRef (s : State) (c dest : Nat) : F64 :=
  let x := s.car c
  if dest = 2 then
    let tr := Cfg.Xing.TRAVEL (s.xingOf x.pos.elem)
    if isLane x.pos.elem ∨ tr = 0 then F64.zero else F64.ofDyadic (divRound (-(x.plan.aMean * x.plan.vposQ0)) (tr * 4294967296)) (-32)
  else F64.ofDyadic x.plan.aMean (-32)

/-- The motion a plan shows at an instant, for references between boundaries (R183). -/
def Plan.motAt (p : Plan) (now : Nat) : Mot :=
  let dt := now - p.t0
  if p.phases.isEmpty then { pQ := p.pQ, vQ := p.vQ, aQ := p.a, j := p.j }
  else if durOf p.phases ≤ dt then { pQ := p.endQ }
  else (runPhases p.phases dt { pQ := p.pQ0, vQ := p.vQ0, aQ := p.a0 }).1

/-- The plan of a channel's node: a car's or an axis's. -/
def State.chanPlan (s : State) (r : List Byte) : Plan :=
  let t := Cfg.Channel.NODE r
  if tgtKind t = 8 then (s.car (tgtIdx t)).plan else (s.axes.getD (tgtIdx t) {}).plan

/-- R186: the feed-forward of a channel. -/
def State.feedForward (s : State) (r : List Byte) (b : BankRec) : F64 :=
  let t := Cfg.Channel.NODE r
  match Cfg.Channel.FFMODE r with
  | 1 =>
    let c := tgtIdx t
    let d := Cfg.Channel.DEST r
    ((F64.ofInt (s.massOf c)).mul ((s.aRef c d).add (F64.ofInt (s.gravOf c d)))).div (F64.ofInt 1000)
  | 2 =>
    let m := (s.chanPlan r).motAt s.time.now
    (((f32At b 84).mul (F64.ofDyadic m.aQ (-32))).add ((f32At b 88).mul (F64.ofDyadic m.vQ (-32)))).add (f32At b 92)
  | _ => F64.zero

/-! ## References and feedback (R183) -/

def State.refOf0 (s : State) (r : List Byte) (c : Chan) : F64 :=
  match Cfg.Channel.REFSEL r with
  | 0 => F64.ofDyadic ((s.chanPlan r).motAt s.time.now).pQ (-32)
  | 1 => F64.ofDyadic (s.chanPlan r).vposQ (-32)
  | 2 => f32At r 56
  | 3 => F64.ofInt (s.pointRt (Cfg.Channel.REFARG r)).value
  | _ => c.casc

/-- Feedback; a load angle with no valid estimate reads REFK (R238). -/
def State.fbOf (s : State) (r : List Byte) : F64 :=
  let i := tgtIdx (Cfg.Channel.NODE r)
  match Cfg.Channel.FBSEL r with
  | 0 => F64.ofDyadic (s.car i).pos.pQ (-32)
  | 1 => F64.ofInt (s.car i).pos.vpos
  | 2 =>
    let a := s.axes.getD i {}
    let fast := Cfg.Channel.RATE r == 1
    let n := if fast then a.lamN else a.lamN8
    if n = 0 then f32At r 56 else (F64.ofInt (if fast then a.lamSum else a.lamSum8)).div (F64.ofInt n)
  | _ => F64.ofInt (s.pointRt (Cfg.Channel.FBARG r)).value

/-! ## Injections (R195, R196) -/

/-- 2π in binary64. -/
def twoPi : F64 := ⟨0x401921FB54442D18⟩

/-- R196: the second tap of an order; 0 where the order is not supported. -/
def prbsTap (ord : Nat) : Nat :=
  match ord with
  | 7 => 6 | 9 => 5 | 11 => 9 | 15 => 14 | 23 => 18 | 31 => 28
  | _ => 0

/-- R196: one clock of the register; stage k is bit k − 1, the last stage is the output. -/
def prbsClock (ord reg : Nat) : Nat :=
  let fb := (reg / 2 ^ (ord - 1) + reg / 2 ^ (prbsTap ord - 1)) % 2
  (2 * reg + fb) % 2 ^ ord

/-- R195: s(n). -/
def Inj.signal (j : Inj) : F64 :=
  match j.kind with
  | 0 => j.amp
  | 1 => j.amp.mul (Config.sinF64 j.phi)
  | 2 => j.amp.mul (Config.sinF64 j.phi)
  | _ => if bit j.reg (j.ord - 1) then j.amp else j.amp.neg

/-- R195: the frequency at evaluation n. -/
def Inj.freq (j : Inj) : F64 :=
  let q := (F64.ofInt j.n).div (F64.ofInt j.dur)
  if j.kind = 1 then j.f0.add (((j.f1.sub j.f0).mul (F64.ofInt j.n)).div (F64.ofInt j.dur))
  else j.f0.mul (Config.powF64 (j.f1.div j.f0) q)

/-- The injection after an evaluation. -/
def Inj.next (tch : F64) (j : Inj) : Inj :=
  { j with
    n := j.n + 1
    phi := if j.kind = 1 ∨ j.kind = 2 then j.phi.add ((twoPi.mul j.freq).mul tch) else j.phi
    reg := if j.kind = 3 ∧ (j.n + 1) % j.holdN = 0 then prbsClock j.ord j.reg else j.reg }

/-- The running injection adds at its point, once its launch edge has come. -/
def Chan.inject (c : Chan) (now point : Nat) : F64 :=
  match c.inj with
  | some j => if j.point = point ∧ j.startAt ≤ now ∧ j.n < j.dur then j.signal else F64.zero
  | none => F64.zero

/-! ## One evaluation (R184, R199, R200) -/

/-- R199: SATCNT after an evaluation; the watch trips when it reaches SATLIM. -/
def Chan.watchSat (r : List Byte) (sat : Bool) (c : Chan) : Chan :=
  let n := if sat then min 65535 (c.satCnt + 1) else c.satCnt - Cfg.Channel.SATDEC r
  { c with satCnt := n, satDue := c.satDue || (bit (Cfg.Channel.SUPSEL r) 0 && decide (Cfg.Channel.SATLIM r ≤ n) && !c.satTrip) }

/-- R200: the plant model on an evaluation: its residual, and its corrected state. -/
def Chan.plaus (r : List Byte) (m g uEff : F64) (y : F64) (c : Chan) : Chan :=
  let t := chanSec r
  let lm := (F64.ofInt (Cfg.Channel.LMOD r)).div (F64.ofInt 65536)
  let win := f32At r 36
  let tell (c : Chan) : Chan :=
    let n := if win.lt c.rho.abs then min 65535 (c.plCnt + 1) else 0
    { c with plCnt := n, plGood := if win.lt c.rho.abs then 0 else min 65535 (c.plGood + 1), plDue := c.plDue || (bit (Cfg.Channel.SUPSEL r) 1 && decide (Cfg.Channel.PLAUSN r ≤ n) && !c.plTrip) }
  match Cfg.Channel.MODEL r with
  | 1 =>
    let am := ((uEff.mul (F64.ofInt 1000)).div m).sub g
    let x1 := (c.xm.add (c.vm.mul t)).add (((am.mul t).mul t).div (F64.ofInt 2))
    let v1 := c.vm.add (am.mul t)
    let rho := y.sub x1
    tell { c with rho := rho, xm := x1.add (lm.mul rho)
                  vm := v1.add ((((lm.mul lm).div ((F64.ofInt 2).sub lm)).mul rho).div t) }
  | 2 =>
    let pm := f32At r 52
    let ym := (pm.mul c.xm).add ((((F64.ofInt 1).sub pm).mul (f32At r 48)).mul c.prevU)
    let rho := y.sub ym
    tell { c with rho := rho, xm := ym.add (lm.mul rho) }
  | _ => c

/-- R193: one step of the bump's decay. -/
def bumpDecay (b st : F64) : F64 := if b.isZero then b else if b.abs.le st.abs then F64.zero else b.sub st

/-- R184: an evaluation in RUN, on reference, feedback and feed-forward. -/
def Chan.evalRun (r : List Byte) (now : Nat) (rr y ff : F64) (c : Chan) : Chan :=
  let bk := c.bank
  let e := ((rr.add (c.inject now 0)).sub y).add (c.inject now 1)
  let p := pathOf bk (c.stg 0) (c.stg 1) (c.stg 2) e
  let raw := (((p.1.add c.i).add ff).add c.b).add (c.inject now 2)
  let olo := f32At r 24
  let ohi := f32At r 28
  let u := raw.clamp olo ohi
  let kie := (f32At bk 72).mul e
  let hold := Cfg.Bank.INTFRZ bk == 1 && ((ohi.le u && F64.zero.lt kie) || (u.le olo && kie.lt F64.zero))
  let i := if hold then c.i else (c.i.add kie).clamp (f32At bk 76) (f32At bk 80)
  let sg := match c.inj with
    | some j => if j.startAt ≤ now ∧ j.n < j.dur then j.signal else F64.zero
    | none => F64.zero
  { c with
    s := stgList p.2.1 p.2.2.1 p.2.2.2, e := e, c := p.1, r := rr, y := y, ff := ff, u := u, i := i, sig := sg
    b := bumpDecay c.b c.bstep, osat := !(u.eq raw), isat := i.eq (f32At bk 76) || i.eq (f32At bk 80), intHeld := hold
    prevU := c.u, out := u.toI32, evals := wrapAdd 32 c.evals 1
    inj := c.inj.map fun j => if j.startAt ≤ now ∧ j.n < j.dur then j.next (chanSec r) else j }

/-! ## Bank swaps (R191-R194) -/

/-- R192: the swap in RUN: DELTA, RESID, and the channel with the new bank. An injection that starts in the same evaluation
starts after it (R191). -/
def Chan.swapRun (r : List Byte) (s : State) (c : Chan) : F64 × F64 × Chan :=
  let going : Chan := { c with inj := c.inj.filter fun j => j.n != 0 }
  let old := c.bank
  let new := c.bankOf (!c.bankB)
  let rr := s.refOf0 r c
  let y := s.fbOf r
  let e := ((rr.add (going.inject s.time.now 0)).sub y).add (going.inject s.time.now 1)
  let uOld := ((((pathOf old (c.stg 0) (c.stg 1) (c.stg 2) e).1.add (s.feedForward r old)).add c.i).add c.b).clamp (f32At r 24) (f32At r 28)
  let st := setRest new e
  let q := (((pathOf new st.1 st.2.1 st.2.2 e).1.add (s.feedForward r new)).add c.i).add c.b
  let iw := c.i.add (uOld.sub q)
  let i := iw.clamp (f32At new 76) (f32At new 80)
  let rest := iw.sub i
  let b := c.b.add rest
  (uOld.sub q, rest, { c with
    s := stgList st.1 st.2.1 st.2.2, i := i, b := b
    bstep := if Cfg.Bank.BUMPT new = 0 then b else b.div (F64.ofInt (Cfg.Bank.BUMPT new)), bankB := !c.bankB })

/-- R194: the swap in OFF, RAMP or HOLD. -/
def Chan.swapIdle (c : Chan) : Chan :=
  let new := c.bankOf (!c.bankB)
  { c with bankB := !c.bankB, s := List.replicate 9 F64.zero, i := c.i.clamp (f32At new 76) (f32At new 80), b := F64.zero, bstep := F64.zero }

/-! ## Events (R204) -/

/-- CHSTAT (LOOP_STATUS). -/
def State.chStat (s : State) (ch : Nat) : Nat :=
  let c := s.loopCh ch
  let cap := s.caps.any fun b => (b.st == 1 || b.st == 2) && b.ch == ch
  c.st.code + 4 * b2n c.bankB + 8 * b2n (c.loaded (!c.bankB)) + 16 * b2n c.swap.isSome + 32 * b2n c.osat + 64 * b2n c.isat
    + 128 * b2n c.intHeld + 256 * b2n (!c.b.isZero) + 512 * b2n c.inj.isSome + 1024 * b2n c.satTrip + 2048 * b2n c.plTrip + 4096 * b2n cap

def State.chanNode (s : State) (ch : Nat) : Nat := ((s.chanRec? ch).map Cfg.Channel.NODE).getD 0

/-- R204: a class 0x4 event of a channel. -/
def State.loopFire (src ch : Nat) (s : State) : State :=
  s.fire src (s.chanNode ch) 0 (le 1 ch ++ zeros 1 ++ le 2 (s.chStat ch) ++ le 4 (s.chanNode ch) ++ f32Out (s.loopCh ch).u)

/-- R197: end an injection before its time: ABORTED, event source 0x43. -/
def State.endInj (ch reason : Nat) (s : State) : State :=
  match (s.loopCh ch).inj with
  | none => s
  | some j => ((s.modChan ch fun c => { c with inj := none, sig := F64.zero }).finish j.tag 4 reason s.time.now (le 4 j.n)).loopFire 0x43 ch

/-- R197: a stop of any kind on a car or axis ends the injections of its channels. -/
def State.endInjsOf (node : Nat) (s : State) : State :=
  ((s.recs Cfg.Channel.sec).filter fun r => Cfg.Channel.NODE r == node).foldl (fun s r => s.endInj (Cfg.Channel.CH r) 0x4020) s

/-! ## Captures (R198) -/

/-- A signal of R198 as binary32. -/
def State.capSignal (s : State) (ch code : Nat) : Nat :=
  let c := s.loopCh ch
  let x := match code with
    | 0 => c.r | 1 => c.y | 2 => c.e | 3 => c.c | 4 => c.i | 5 => c.ff | 6 => c.u | 7 => c.sig | 8 => c.rho
    | _ => F64.ofInt (((s.carrying (tgtIdx (s.chanNode ch))).map fun (p : List Byte × Nat) => (s.segRun (Cfg.Segment.SEG p.1)).fdel).foldl (· + ·) 0)
  x.toF32

/-- Samples a buffer holds. -/
def capSize : Nat := 65536

/-- A sample is recorded at every DECIM-th evaluation: circularly while armed, to the end once triggered. -/
def Cap.take (smp : Nat × Nat) (b : Cap) : Cap :=
  if b.skip ≠ 0 then { b with skip := b.skip - 1 }
  else if b.st = 1 then
    { b with skip := b.decim - 1, samples := (if capSize ≤ b.samples.length then b.samples.drop 1 else b.samples) ++ [smp] }
  else if b.st = 2 ∧ 0 < b.left then { b with skip := b.decim - 1, samples := b.samples ++ [smp], left := b.left - 1, count := b.count + 1 }
  else b

/-- R198: the trigger: PRE samples are kept. -/
def Cap.trigger (now tch : Nat) (b : Cap) : Cap :=
  let keep := b.samples.drop (b.samples.length - b.pre)
  { b with st := 2, samples := keep, trigIdx := keep.length, left := capSize - b.pre, skip := 0, count := keep.length
           t0 := now - keep.length * b.decim * tch }

/-- Trigger the armed buffers of a channel that wait for this trigger kind. -/
def State.trigCaps (ch kind : Nat) (s : State) : State :=
  let tch := ((s.chanRec? ch).map chanNs).getD 125000
  { s with caps := s.caps.map fun b => if b.st = 1 ∧ b.ch = ch ∧ b.trig = kind then b.trigger s.time.now tch else b }

/-- Every buffer on a channel takes a sample of its evaluation. -/
def State.capture (ch : Nat) (s : State) : State :=
  { s with caps := s.caps.map fun b =>
    if b.ch = ch ∧ (b.st = 1 ∨ b.st = 2) then b.take (s.capSignal ch b.sigA, s.capSignal ch b.sigB) else b }

/-! ## Channel states (R189, R239) -/

/-- The state a car channel takes from the car's sequence. -/
def carChState (x : Car) (dest : Nat) (cur : ChSt) : ChSt :=
  if dest = 2 ∧ isLane x.pos.elem then .off
  else match x.prop.seq with
    | .braked => if cur = .off ∨ x.stands then .off else if cur = .ramp then .off else .hold
    | .rampUp _ => .ramp
    | .settle _ => .ramp
    | .rampDown _ _ => .ramp
    | _ => .run

/-- R239: the state an axis channel takes from the drive. -/
def axisChState (a : Axis) : ChSt := if !a.energised then .off else if a.mode = 3 then .hold else .run

/-- R189: the channel on entering a state. -/
def Chan.enter (st : ChSt) (y : F64) (c : Chan) : Chan :=
  match st with
  | .off => { c with st := .off, s := List.replicate 9 F64.zero, i := F64.zero, b := F64.zero, bstep := F64.zero, u := F64.zero, out := 0, osat := false, intHeld := false }
  | .run => if c.st = .hold then { c with st := .run } else { c with st := .run, s := List.replicate 9 F64.zero, i := F64.zero, b := F64.zero, bstep := F64.zero, xm := y, vm := F64.zero, plCnt := 0 }
  | .hold => { c with st := .hold, out := 0 }
  | .ramp => { c with st := .ramp, rampFrom := c.out, rampUp := c.st == .off }

/-- R189, R197: bring a channel to the state its car or axis asks for; event source 0x46, and a running injection ends. -/
def State.chanState (ch : Nat) (r : List Byte) (s : State) : State :=
  let c := s.loopCh ch
  let t := Cfg.Channel.NODE r
  let want := if tgtKind t = 8 then carChState (s.car (tgtIdx t)) (Cfg.Channel.DEST r) c.st else axisChState (s.axes.getD (tgtIdx t) {})
  if want = c.st then s
  else
    let s1 := s.modChan ch (Chan.enter want (s.fbOf r))
    let s2 := if c.st = .run then s1.endInj ch 0x4020 else s1
    s2.loopFire 0x46 ch

/-! ## Evaluation and pass (R180, R181, R189) -/

/-- R189: the output in RAMP: up, the feed-forward share; down, the output at entry falling to 0. -/
def State.rampOut (s : State) (r : List Byte) (c : Chan) : F64 :=
  let x := s.car (tgtIdx (Cfg.Channel.NODE r))
  let n := max 1 (Cfg.CarProp.HOLDRAMP (s.carProp (tgtIdx (Cfg.Channel.NODE r))))
  match x.prop.seq with
  | .rampUp k => ((s.feedForward r c.bank).mul (F64.ofInt (min k n))).div (F64.ofInt n)
  | .settle _ => s.feedForward r c.bank
  | .rampDown k _ => ((F64.ofInt c.rampFrom).mul (F64.ofInt ((n - k : Nat) : Int))).div (F64.ofInt n)
  | _ => F64.zero

/-- Outputs of a pass that other parts receive after it: cascade values for channels that take them at their own next
evaluation, and output points (R181); and the channels whose swaps it carries out (R191). -/
structure PassOut where
  casc   : List (Nat × F64) := []
  points : List (Nat × Int) := []
  swaps  : List Nat := []
deriving DecidableEq, Repr

/-- R181: where a channel's output goes. -/
def State.deliver (ch : Nat) (r : List Byte) (o : PassOut) (s : State) : State × PassOut :=
  let c := s.loopCh ch
  match Cfg.Channel.DEST r with
  | 4 => (s, { o with points := o.points ++ [(Cfg.Channel.DESTARG r, c.out)] })
  | 5 =>
    let d := Cfg.Channel.DESTARG r
    let same := ((s.chanRec? d).map Cfg.Channel.RATE) == some (Cfg.Channel.RATE r)
    if ch < d ∧ same then (s.modChan d fun x => { x with casc := c.u }, o) else (s, { o with casc := o.casc ++ [(d, c.u)] })
  | _ => (s, o)

/-- R191: the channels whose due swaps a pass carries out: four at most, those put off by an earlier pass first, then in the
order of R87, then in ascending CH. -/
def State.dueSwaps (s : State) (cs : List (Nat × List Byte)) : List Nat :=
  let due := cs.filterMap fun p => match (s.loopCh p.1).swap with
    | some (tr, _, at0) => if at0 ≤ s.time.now then some (p.1, (256 * (tr.pair : Int) - 65536 * (((s.time.now - at0) / chanNs p.2 : Nat) : Int)) * 2 ^ 64 + tr.acc) else none
    | none => none
  ((sortKey (fun (x : Nat × Int) => x.2) due).take 4).map Prod.fst

/-- R191-R194: carry out a channel's swap. -/
def State.doSwap (ch : Nat) (r : List Byte) (o : PassOut) (s : State) : State × PassOut :=
  let c := s.loopCh ch
  match c.swap with
  | none => (s, o)
  | some (tr, _, _) =>
    if o.swaps.contains ch then
      let p := if c.st = .run then c.swapRun r s else (F64.zero, F64.zero, c.swapIdle)
      let s1 := s.modChan ch fun _ => { p.2.2 with swap := none, swapAt := s.time.now }
      let s2 := s1.finish tr 2 0 s.time.now (f32Out p.1 ++ f32Out p.2.1)
      (s2.loopFire 0x42 ch, o)
    else (s, o)

/-- Evaluate one channel (R180, R184, R189). -/
def State.evalChan (ch : Nat) (r : List Byte) (o : PassOut) (s : State) : State × PassOut :=
  let p := s.doSwap ch r o
  let s := p.1
  let c := s.loopCh ch
  let rr := s.refOf0 r c
  let y := s.fbOf r
  let ff := s.feedForward r c.bank
  let started := match c.inj with
    | some j => j.startAt ≤ s.time.now && j.n == 0
    | none => false
  match c.st with
  | .off => (s, p.2)
  | .run =>
    let x := s.car (tgtIdx (Cfg.Channel.NODE r))
    let ci := tgtIdx (Cfg.Channel.NODE r)
    let c1 := (c.evalRun r s.time.now rr y ff)
    let c2 := c1.watchSat r (c1.osat || (c.fmaxCut && (Cfg.Channel.DEST r == 1 || Cfg.Channel.DEST r == 2)))
    let c3 := c2.plaus r (F64.ofInt (s.massOf ci)) (F64.ofInt (s.gravOf ci (Cfg.Channel.DEST r))) (F64.ofInt (x.prop.uEff.getD 1 0)) y
    let s1 := if started then s.trigCaps ch 1 else s
    let s2 := s1.modChan ch fun _ => c3
    let s3 := if c3.isat != c.isat then s2.loopFire 0x45 ch else s2
    (s3.capture ch).deliver ch r p.2
  | .ramp =>
    let u := s.rampOut r c
    let olo := f32At r 24
    let ohi := f32At r 28
    let v := u.clamp olo ohi
    let c1 := { c with u := v, out := v.toI32, ff := ff, r := rr, y := y, e := rr.sub y, osat := !(v.eq u), evals := wrapAdd 32 c.evals 1 }
    let s1 := s.modChan ch fun _ => c1.watchSat r (!(v.eq u) || c.fmaxCut)
    (s1.capture ch).deliver ch r p.2
  | .hold =>
    let e := rr.sub y
    let u := (((pathOf c.bank (c.stg 0) (c.stg 1) (c.stg 2) e).1.add c.i).add ff).add c.b
    let v := u.clamp (f32At r 24) (f32At r 28)
    let s1 := s.modChan ch fun c => { c with u := v, out := 0, ff := ff, r := rr, y := y, e := e, osat := !(v.eq u), evals := wrapAdd 32 c.evals 1 }
    (s1.capture ch, p.2)

/-- The configured channels a pass evaluates, in ascending CH. -/
def State.passChans (s : State) (tick : Bool) : List (Nat × List Byte) :=
  (List.range 96).filterMap fun ch => match s.chanRec? ch with
    | some r => if tick || Cfg.Channel.RATE r == 1 then some (ch, r) else none
    | none => none

/-- A value written to an output point: a field output takes it as its commanded value (R181). -/
def State.writePoint (p : Nat) (v : Int) (s : State) : State :=
  match s.point? p with
  | some r => if ptType r = 0x81 then s.writeFq (ptSource r) (v != 0) else s.putPoint { idx := p, value := (v % 4294967296).toNat, flags := 1, at0 := s.time.now }
  | none => s

/-- CONTROL_PASS (R180): states, evaluations in ascending CH, then the values delivered after the pass. The averages of
load angle begin again. -/
def State.controlPass (tick : Bool) (s : State) : State :=
  let cs := s.passChans tick
  let s0 := cs.foldl (fun s p => s.chanState p.1 p.2 ) s
  let q := cs.foldl (fun (q : State × PassOut) p => q.1.evalChan p.1 p.2 q.2) (s0, { swaps := s0.dueSwaps cs })
  let s1 := q.2.casc.foldl (fun s p => s.modChan p.1 fun x => { x with casc := p.2 }) q.1
  let s2 := q.2.points.foldl (fun s p => s.writePoint p.1 p.2) s1
  let used := cs.filterMap fun p => if Cfg.Channel.FBSEL p.2 = 2 then some (tgtIdx (Cfg.Channel.NODE p.2)) else none
  { s2 with axes := s2.axes.mapIdx fun i a => if used.contains i then
    { a with lamSum := 0, lamN := 0, lamSum8 := if tick then 0 else a.lamSum8, lamN8 := if tick then 0 else a.lamN8 } else a }

/-- The sum of the outputs of a node's channels with a destination (R181). -/
def State.outSum (s : State) (node dest : Nat) : Int :=
  ((s.recs Cfg.Channel.sec).filter fun r => Cfg.Channel.NODE r == node && Cfg.Channel.DEST r == dest).map (fun r =>
    let c := s.loopCh (Cfg.Channel.CH r)
    if c.st = .run ∨ c.st = .ramp then c.out else 0) |>.sum

/-- R188: a car enters or leaves a Crossing: the integrator moves between its DEST 1 and DEST 2 channels; what exceeds
the receiving clamp becomes a bump. -/
def State.moveIntegrator (c : Nat) (entering : Bool) (s : State) : State :=
  let find (d : Nat) := (s.recs Cfg.Channel.sec).find? fun r => Cfg.Channel.NODE r == tgtOf 8 c && Cfg.Channel.DEST r == d
  match find 1, find 2 with
  | some r1, some r2 =>
    let src := if entering then r1 else r2
    let dst := if entering then r2 else r1
    let cs := s.loopCh (Cfg.Channel.CH src)
    let cd := s.loopCh (Cfg.Channel.CH dst)
    let i := cs.i.clamp (f32At cd.bank 76) (f32At cd.bank 80)
    let b := cs.i.sub i
    let rest (r : List Byte) (x : Chan) : List F64 := let p := setRest x.bank ((s.refOf0 r x).sub (s.fbOf r)); stgList p.1 p.2.1 p.2.2
    let s1 := s.modChan (Cfg.Channel.CH dst) fun x => { x with
      st := .run, i := i, b := x.b.add b
      bstep := if Cfg.Bank.BUMPT x.bank = 0 then x.b.add b else (x.b.add b).div (F64.ofInt (Cfg.Bank.BUMPT x.bank)), s := rest dst x, xm := s.fbOf dst, vm := F64.zero }
    let s2 := s1.modChan (Cfg.Channel.CH src) fun x => if entering then { x with i := F64.zero, s := rest src x } else x.enter .off F64.zero
    if entering then s2.loopFire 0x46 (Cfg.Channel.CH dst) else (s2.endInj (Cfg.Channel.CH src) 0x4020).loopFire 0x46 (Cfg.Channel.CH src)
  | _, _ => s

/-! ## Cards -/

/-- R203: the channel a card names is configured and bound to TGT. -/
def State.chanBad (s : State) (tr : TagRec) (ch : Nat) : Own :=
  match s.chanRec? ch with
  | some r => refuseIf (Cfg.Channel.NODE r != tr.tgt) 0x4010
  | none => refuseIf true 0x4010

def loopStatusReply (s : State) (_tr : TagRec) (d : List Byte) : List Byte :=
  let ch := rd d 0 1
  let c := s.loopCh ch
  le 1 ch ++ zeros 1 ++ le 2 (s.chStat ch) ++ f32Out c.e ++ f32Out c.u ++ f32Out c.i ++ f32Out c.b ++ f32Out c.ff ++ f32Out c.rho
    ++ le 2 c.satCnt ++ le 2 c.plCnt ++ le 8 c.swapAt ++ le 4 c.evals

def loopStatusCard : CardDef where
  k := { opc := 0x4001, role := 3, query := true, kinds := [8], kindsC := some [9] }
  lenOk := lenIs 4
  own := fun s tr d => s.chanBad tr (rd d 0 1)
  eff := answer loopStatusReply

/-- LOOP_STATUS (R189). -/
def execLoopStatus (h : Hdr) (data : List Byte) (s : State) : Host.Outcome State Fault Refusal := ok (runCard loopStatusCard h data s)

/-- R202: whether every root of 1 + a1 z⁻¹ + a2 z⁻² + a3 z⁻³ lies below 1 − 2⁻¹⁶: the Jury conditions on the polynomial
with its roots scaled by 65536/65535, on exact dyadic numbers. -/
def polesOk (a1 a2 a3 : F64) : Bool :=
  let q : Int := -1200
  let big (x : F64) : Int := let d := x.dyadic; d.1 * 2 ^ (d.2 - q).toNat
  if !(a1.isFinite && a2.isFinite && a3.isFinite) then false
  else
    let n : Int := 65535
    let m : Int := 65536
    let one : Int := 2 ^ (1200 : Nat)
    -- coefficients of the scaled polynomial, all times 65535³
    let c0 := one * n * n * n
    let c1 := big a1 * m * n * n
    let c2 := big a2 * m * m * n
    let c3 := big a3 * m * m * m
    let b0 := c3 * c3 - c0 * c0
    let b2 := c3 * c1 - c0 * c2
    decide (0 < c0 + c1 + c2 + c3) && decide (0 < c0 - c1 + c2 - c3) && decide (c3.natAbs < c0.natAbs) && decide (b2.natAbs < b0.natAbs)

/-- The first failing field of a bank record (R202, BANK_LOAD): a compensator pole is told at the compensator's
coefficients, a notch pole at the notch's. -/
def bankBad (role : Nat) (r : List Byte) : Option Nat :=
  let f (o : Nat) : Bool := !f32Bad r o
  let offs := (List.range 7).map (fun k => 4 + 4 * k) ++ (List.range 5).map (fun k => 32 + 4 * k) ++ (List.range 5).map (fun k => 52 + 4 * k) ++ [72, 76, 80, 84, 88, 92]
  match recordBad Cfg.Bank.sec role r with
  | some o => some o
  | none =>
    match offs.find? fun o => !f o with
    | some o => some o
    | none => firstBad [
        (4, polesOk (f32At r 20) (f32At r 24) (if Cfg.Bank.FORM r = 3 then f32At r 28 else F64.zero)),
        (32, !bit (Cfg.Bank.NEN r) 0 || polesOk (f32At r 44) (f32At r 48) F64.zero),
        (52, !bit (Cfg.Bank.NEN r) 1 || polesOk (f32At r 64) (f32At r 68) F64.zero),
        (76, decide (f32Key (Cfg.Bank.ILO r) ≤ f32Key (Cfg.Bank.IHI r)))]

def bankLoadOwn (s : State) (tr : TagRec) (d : List Byte) : Own :=
  let ch := Cfg.Bank.CH d
  firstOf [s.chanBad tr ch,
    (bankBad (roleCode s.boot.role) d).map fun o => (0x4011, le 4 o),
    refuseIf ((Cfg.Bank.BANK d == 1) == (s.loopCh ch).bankB) 0x4012]

/-- R190: the record replaces the inactive bank; it fails where the bank named is the active one. -/
def bankLoadEff (tr : TagRec) (d : List Byte) (s : State) : State :=
  (s.modChan (Cfg.Bank.CH d) fun c => if Cfg.Bank.BANK d = 1 then { c with bankB0 := d, loadedB := true } else { c with bankA0 := d, loadedA := true }).done tr (zeros 4)

def bankLoadCard : CardDef where
  k := { opc := 0x4002, role := 3, query := false, kinds := [8], kindsC := some [9] }
  lenOk := lenIs 104
  own := bankLoadOwn
  eff := bankLoadEff

/-- BANK_LOAD (R190). -/
def execBankLoad (h : Hdr) (data : List Byte) (s : State) : Host.Outcome State Fault Refusal := ok (runCard bankLoadCard h data s)

/-- A swap waits on a channel: for its evaluation, or for its launch edge. -/
def State.swapWaits (s : State) (ch : Nat) : Bool :=
  (s.loopCh ch).swap.isSome || s.launchQ.any fun l => l.tag.opc == 0x4003 && rd l.data 0 1 == ch

def bankSwapOwn (s : State) (tr : TagRec) (d : List Byte) : Own :=
  let ch := rd d 0 1
  let c := s.loopCh ch
  firstOf [s.chanBad tr ch, refuseIf (s.swapWaits ch) 0x4013, refuseIf (rd d 1 1 == b2n c.bankB) 0x4014,
    refuseIf (decide (1 < rd d 1 1) || !c.loaded (rd d 1 1 == 1)) 0x4015]

/-- R191: the swap waits for its evaluation: from its launch edge, or 31.25 µs after acceptance. -/
def bankSwapEff (tr : TagRec) (d : List Byte) (s : State) : State :=
  s.modChan (rd d 0 1) fun c => { c with swap := some (tr, rd d 1 1, if tr.lit then tr.edge else tr.acc + 31250) }

def bankSwapCard : CardDef where
  k := { opc := 0x4003, role := 3, query := false, kinds := [8], kindsC := some [9], lead := some 250000 }
  lenOk := lenIs 4
  own := bankSwapOwn
  eff := bankSwapEff

/-- BANK_SWAP (R191-R194). -/
def execBankSwap (h : Hdr) (data : List Byte) (s : State) : Host.Outcome State Fault Refusal := ok (runCard bankSwapCard h data s)

/-- A frequency of R195 in range: 0.01 Hz to half the channel's rate. -/
def freqOk (r : List Byte) (x : F64) : Bool :=
  (F64.ofF32 0x3C23D70A).le x && x.le (F64.ofInt (if Cfg.Channel.RATE r = 1 then 16000 else 4000))

/-- R197: INJMAX and the other limits of an injection; a field that its KIND does not use is 0 (log 100). -/
def injRangeOk (r d : List Byte) : Bool :=
  let kind := rd d 1 1
  (f32At d 4).abs.le (f32At r 44) && decide (1 ≤ rd d 8 4) && decide (rd d 8 4 ≤ 16777216)
    && (match kind with
      | 0 => rd d 12 8 == 0 && rd d 3 1 == 0 && rd d 20 2 == 0
      | 1 => freqOk r (f32At d 12) && freqOk r (f32At d 16) && rd d 3 1 == 0 && rd d 20 2 == 0
      | 2 => freqOk r (f32At d 12) && freqOk r (f32At d 16) && rd d 3 1 == 0 && rd d 20 2 == 0
      | 3 => prbsTap (rd d 3 1) != 0 && decide (1 ≤ rd d 20 2) && decide (rd d 20 2 ≤ 256) && rd d 12 8 == 0
      | _ => true)

def injectStartOwn (s : State) (tr : TagRec) (d : List Byte) : Own :=
  let ch := rd d 0 1
  let c := s.loopCh ch
  firstOf [s.chanBad tr ch, refuseIf (c.st != .run) 0x4016, refuseIf (c.satTrip || c.plTrip) 0x401B,
    refuseIf c.inj.isSome 0x4018, refuseIf (!injRangeOk ((s.chanRec? ch).getD []) d) 0x4017,
    refuseIf (decide (3 < rd d 1 1) || decide (2 < rd d 2 1)) 0xFF07]

/-- R195: the injection begins with the first evaluation at or after its launch edge. -/
def injectStartEff (tr : TagRec) (d : List Byte) (s : State) : State :=
  s.modChan (rd d 0 1) fun c => { c with inj := some {
    tag := tr, kind := rd d 1 1, point := rd d 2 1, ord := rd d 3 1, amp := f32At d 4, dur := rd d 8 4, f0 := f32At d 12, f1 := f32At d 16,
    holdN := max 1 (rd d 20 2), reg := 2 ^ rd d 3 1 - 1, startAt := if tr.lit then tr.edge else s.time.now } }

def injectStartCard : CardDef where
  k := { opc := 0x4004, role := 3, query := false, kinds := [8], kindsC := some [9], lead := some 250000 }
  lenOk := lenIs 24
  own := injectStartOwn
  eff := injectStartEff

/-- INJECT_START (R195-R197). -/
def execInjectStart (h : Hdr) (data : List Byte) (s : State) : Host.Outcome State Fault Refusal := ok (runCard injectStartCard h data s)

def injectStopCard : CardDef where
  k := { opc := 0x4005, role := 3, query := false, kinds := [8], kindsC := some [9] }
  lenOk := lenIs 4
  own := fun s tr d => firstOf [s.chanBad tr (rd d 0 1), refuseIf (s.loopCh (rd d 0 1)).inj.isNone 0x401C]
  eff := fun tr d s => (s.endInj (rd d 0 1) 0x4021).done tr []

/-- INJECT_STOP (R197). -/
def execInjectStop (h : Hdr) (data : List Byte) (s : State) : Host.Outcome State Fault Refusal := ok (runCard injectStopCard h data s)

/-- Operand ranges of CAPTURE_ARM (log 29). -/
def captureArmOk (d : List Byte) : Bool :=
  decide (rd d 0 1 < 8) && decide (rd d 2 1 ≤ 9) && decide (rd d 3 1 ≤ 9) && decide (1 ≤ rd d 4 2) && decide (rd d 4 2 ≤ 256)
    && decide (rd d 6 1 ≤ 2) && decide (rd d 8 4 ≤ 65535)

def captureArmOwn (s : State) (tr : TagRec) (d : List Byte) : Own :=
  let b := s.caps.getD (rd d 0 1) {}
  firstOf [s.chanBad tr (rd d 1 1), refuseIf (b.st == 1 || b.st == 2) 0x4019, refuseIf (!captureArmOk d) 0xFF07]

/-- R198: the buffer is armed; TRIG 0 is the launch edge itself. -/
def captureArmEff (tr : TagRec) (d : List Byte) (s : State) : State :=
  let b : Cap := { st := 1, ch := rd d 1 1, node := tr.tgt, sigA := rd d 2 1, sigB := rd d 3 1, decim := max 1 (rd d 4 2), trig := rd d 6 1, pre := rd d 8 4 }
  let tch := ((s.chanRec? (rd d 1 1)).map chanNs).getD 125000
  ({ s with caps := s.caps.set (rd d 0 1) (if rd d 6 1 = 0 then b.trigger s.time.now tch else b) }).done tr []

def captureArmCard : CardDef where
  k := { opc := 0x4006, role := 3, query := false, kinds := [8], kindsC := some [9], lead := some 250000 }
  lenOk := lenIs 12
  own := captureArmOwn
  eff := captureArmEff

/-- CAPTURE_ARM (R198). -/
def execCaptureArm (h : Hdr) (data : List Byte) (s : State) : Host.Outcome State Fault Refusal := ok (runCard captureArmCard h data s)

def captureReadReply (s : State) (_tr : TagRec) (d : List Byte) : List Byte :=
  let b := s.caps.getD (rd d 0 1) {}
  let xs := (b.samples.drop (rd d 4 4)).take (rd d 8 2)
  le 1 (rd d 0 1) ++ le 1 b.st ++ le 1 b.ch ++ zeros 1 ++ le 4 b.trigIdx ++ le 8 b.t0 ++ le 2 b.decim ++ le 2 xs.length
    ++ xs.flatMap fun p => le 4 p.1 ++ le 4 p.2

def captureReadOwn (s : State) (tr : TagRec) (d : List Byte) : Own :=
  let b := s.caps.getD (rd d 0 1) {}
  firstOf [refuseIf (decide (65536 < rd d 4 4 + rd d 8 2) || b.st != 3) 0x401A, refuseIf (b.node != tr.tgt) 0x4010,
    refuseIf (rd d 8 2 == 0 || decide (500 < rd d 8 2)) 0xFF07]

def captureReadCard : CardDef where
  k := { opc := 0x4007, role := 3, query := true, kinds := [8], kindsC := some [9] }
  lenOk := lenIs 12
  own := captureReadOwn
  eff := answer captureReadReply

/-- CAPTURE_READ (R198). -/
def execCaptureRead (h : Hdr) (data : List Byte) (s : State) : Host.Outcome State Fault Refusal := ok (runCard captureReadCard h data s)

/-- R201: a latch clears only where its condition has cleared. -/
def loopAckOwn (s : State) (tr : TagRec) (d : List Byte) : Own :=
  let c := s.loopCh (rd d 0 1)
  let m := rd d 1 1
  firstOf [s.chanBad tr (rd d 0 1), refuseIf ((bit m 0 && c.satTrip && c.satCnt != 0) || (bit m 1 && c.plTrip && decide (c.plGood < Cfg.Channel.PLAUSN ((s.chanRec? (rd d 0 1)).getD [])))) 0x401D]

/-- The faults of channels whose latches all stand clear end (R277). -/
def State.loopFaultEnd (node : Nat) (s : State) : State :=
  let left (p : Chan → Bool) : Bool := (s.recs Cfg.Channel.sec).any fun r => Cfg.Channel.NODE r == node && p (s.loopCh (Cfg.Channel.CH r))
  let i := tgtIdx node
  if tgtKind node = 8 then s.unfault fun f => f.car == i && ((f.code == 0x0C && !left (·.satTrip)) || (f.code == 0x0D && !left (·.plTrip)))
  else s.unfault fun f => f.code == 0x0E && f.elem == s.axisDoor i && !left fun c => c.satTrip || c.plTrip

def loopAckEff (tr : TagRec) (d : List Byte) (s : State) : State :=
  let m := rd d 1 1
  ((s.modChan (rd d 0 1) fun c => { c with satTrip := c.satTrip && !bit m 0, plTrip := c.plTrip && !bit m 1 }).loopFaultEnd tr.tgt).done tr []

def loopAckCard : CardDef where
  k := { opc := 0x4008, role := 3, query := false, kinds := [8], kindsC := some [9] }
  lenOk := lenIs 4
  own := loopAckOwn
  eff := loopAckEff

/-- LOOP_ACK (R201). -/
def execLoopAck (h : Hdr) (data : List Byte) (s : State) : Host.Outcome State Fault Refusal := ok (runCard loopAckCard h data s)

/-! ## Rows -/

/-- R201: what a supervision trip does beside its latch: its event, the injection's end, captures, the fault. -/
def State.loopTrip (src ch carFault : Nat) (s : State) : State :=
  let t := s.chanNode ch
  let i := tgtIdx t
  let s1 := ((s.loopFire src ch).endInj ch 0x4020).trigCaps ch 2
  if tgtKind t = 8 then s1.fault carFault i (s1.car i).pos.elem else s1.fault 0x0E 0xFF (s1.axisDoor i)

/-- SATURATION_TRIP (R199, R201). -/
def execSaturationTrip (t ch : Nat) (s : State) : Host.Outcome State Fault Refusal :=
  let s := s.advance t
  if (s.loopCh ch).satDue then ok ((s.modChan ch fun c => { c with satDue := false, satTrip := true }).loopTrip 0x40 ch 0x0C) else ok s

/-- PLAUSIBILITY_TRIP (R200, R201). -/
def execPlausibilityTrip (t ch : Nat) (s : State) : Host.Outcome State Fault Refusal :=
  let s := s.advance t
  if (s.loopCh ch).plDue then ok ((s.modChan ch fun c => { c with plDue := false, plTrip := true }).loopTrip 0x41 ch 0x0D) else ok s

/-- INJECTION_END (R195): after DUR evaluations INJECT_START ends DONE; event source 0x43. -/
def execInjectionEnd (t ch : Nat) (s : State) : Host.Outcome State Fault Refusal :=
  let s := s.advance t
  match (s.loopCh ch).inj with
  | some j =>
    if j.dur ≤ j.n then ok (((s.modChan ch fun c => { c with inj := none, sig := F64.zero }).done j.tag (le 4 j.n)).loopFire 0x43 ch) else ok s
  | none => ok s

/-- CAPTURE_COMPLETE (R198): the triggered buffer has its samples; event source 0x44. -/
def execCaptureComplete (t buf : Nat) (s : State) : Host.Outcome State Fault Refusal :=
  let s := s.advance t
  let b := s.caps.getD buf {}
  if b.st = 2 ∧ b.left = 0 then ok (({ s with caps := s.caps.set buf { b with st := 3 } }).loopFire 0x44 b.ch) else ok s

end Sys2Proof.Machine
end

