-- ==== Sys2Proof/Machine/Plan.lean ====
section
/-! DEFINITION. The car planner (file 05: R115-R136, R142) and the plan-level operations that door axes share. -/

namespace Sys2Proof.Machine

/-! ## One plan -/

def State.modPlan (c : Nat) (f : Plan → Plan) (s : State) : State := s.modCar c fun x => { x with plan := f x.plan }
def State.planOf (s : State) (c : Nat) : Plan := (s.car c).plan

/-- Motion of a plan at its last boundary. -/
def Plan.mot (p : Plan) : Mot := { pQ := p.pQ, vQ := p.vQ, aQ := p.a, j := p.j }

/-- R118: the phase a plan is in at an instant. -/
def Plan.phaseAt (p : Plan) (now : Nat) : Nat := (runPhases p.phases (now - p.t0) {}).2

/-- R134: VPOS along a Crossing leg: a straight line from VPOS0 to 0. -/
def Plan.vposAt (p : Plan) (travel : Nat) (pQ : Int) : Int :=
  if travel = 0 then 0 else p.vposQ0 - divRound (p.vposQ0 * pQ) (travel * 4294967296)

/-- R115: the set-points at a boundary, and the mean acceleration over the coming tick. -/
def Plan.refresh (now travel : Nat) (p : Plan) : Plan :=
  if p.phases.isEmpty then { p with aMean := 0 }
  else
    let m := p.motAt now
    let n := p.motAt (now + tickNs)
    { p with pQ := m.pQ, vQ := m.vQ, a := m.aQ, j := m.j, phase := p.phaseAt now, aMean := divRound ((n.vQ - m.vQ) * 1000000000) tickNs
             vposQ := if p.xleg then p.vposAt travel m.pQ else p.vposQ }

/-- R121: the boundary at or after the end of the last phase: the plan stands at its end exactly. -/
def Plan.endAt (p : Plan) : Plan :=
  { p with pQ := p.endQ, vQ := 0, a := 0, j := 0, aMean := 0, phase := 0, phases := [], vposQ := if p.xleg then 0 else p.vposQ, eta := 0 }

def Plan.ended (now : Nat) (p : Plan) : Bool := !p.phases.isEmpty && decide (p.t0 + durOf p.phases ≤ now)
def Plan.standing (p : Plan) : Bool := p.phases.isEmpty && p.vQ == 0 && p.a == 0

/-- Take phases from now on. -/
def Plan.start (now : Nat) (ps : List Phase) (endQ : Int) (p : Plan) : Plan :=
  { p with t0 := now, pQ0 := p.pQ, vQ0 := p.vQ, a0 := p.a, phases := ps, endQ := endQ }

/-- R123, R124, R127, R128: what a boundary makes of a target and the furthest position allowed. -/
inductive Choice where
  /-- The effective target lies at or beyond the stop point: its phases. -/
  | go (ps : List Phase) (eff : Int)
  /-- A reversal: the service stop to the turning point. -/
  | turn (ps : List Phase)
  /-- The service stop: no target ahead within what is allowed (`bad` where R127 cannot be kept). -/
  | halt (ps : List Phase) (bad : Bool)
  /-- Nothing to do: it stands where it may go. -/
  | stay
deriving DecidableEq, Repr

/-- The nearer of the target and the furthest position in a direction. -/
def nearer (d : Int) (target far : Int) : Int := if 0 ≤ d then min target far else max target far

/-- The planner's choice from a state: `lim` are the limits in force, `svc` the service limits of R122; `far d` is the
furthest position in direction `d`, in µm. -/
def choose (lim svc : Lim) (m : Mot) (target : Int) (far : Int → Int) : Choice :=
  if lim.v = 0 then (if m.vQ = 0 ∧ m.aQ = 0 then .stay else .halt (stopPlan svc m) false)
  else if m.vQ = 0 ∧ m.aQ = 0 then
    let d := isign (target * oneQ - m.pQ)
    let eff := nearer d target (far d)
    if d * (eff * oneQ - m.pQ) ≤ 0 then .stay else .go (planPhases lim m eff) eff
  else
    let d := dirOf m target
    let sd := stopDist svc (d * m.vQ) (d * m.aQ)
    if d * (target * oneQ - m.pQ) < sd then .turn (stopPlan svc m)
    else
      let eff := nearer d target (far d)
      let room := d * (eff * oneQ - m.pQ)
      if room < sd then .halt (stopPlan svc m) true
      else if room < stopDist lim (d * m.vQ) (d * m.aQ) then .go (planPhases { lim with a := svc.a, j := svc.j } m eff) eff
      else .go (planPhases lim m eff) eff

/-! ## Limits of a car (R120, R129) -/

/-- Whether a car moves, or would move, against its lane's direction of travel (R125). -/
def State.reverseTravel (s : State) (c : Nat) (target : Int) : Bool :=
  let x := s.car c
  isLane x.pos.elem && (dirOf x.plan.mot target * s.elemDir x.pos.elem == -1)

/-- The speed caps that stand for a car, each with its source code (MOTION_READ CAPSRC). -/
def State.carCaps (s : State) (c : Nat) (target : Int) : List (Nat × Nat) :=
  let x := s.car c
  let cm := s.carMotion c
  let insp := s.inspected c
  let learn := s.chk.learn.isSome
  [(if isLane x.pos.elem then (min (Cfg.CarMotion.VLANE cm) 10000000, 0) else (min (Cfg.CarMotion.VXING cm) 1000000, 2))]
    ++ (match x.pos.trust with
      | 0 => [(if insp || x.search.isSome then 300000 else 0, 1)]
      | 1 => [(if learn then 1000000 else 300000, 1)]
      | 2 => [(2500000, 1)]
      | _ => [])
    ++ (if s.reverseTravel c target then [(Cfg.CarMotion.REVSPEED cm, 3)] else [])
    ++ (if s.meter.derate && isLane x.pos.elem then [(Cfg.Meter.DERV (s.one Cfg.Meter.sec Cfg.Meter.dflt), 4)] else [])
    ++ (if insp then [(300000, 5)] else [])
    ++ (if s.boot.stage != 6 && !learn then [(300000, 0)] else [])

/-- The least of a list of caps; of equal ones the first. -/
def leastCap (l : List (Nat × Nat)) : Nat × Nat :=
  match l with
  | [] => (0, 0)
  | p :: ps => ps.foldl (fun a q => if q.1 < a.1 then q else a) p

def orCfg (req cfg : Nat) : Nat := if req = 0 then cfg else min req cfg

/-- R131, R122: service limits. -/
def State.svcLim (s : State) (c : Nat) : Lim :=
  let cm := s.carMotion c
  { v := Cfg.CarMotion.VLANE cm, a := min (Cfg.CarMotion.AMAX cm) 2000000, j := min (Cfg.CarMotion.JMAX cm) 4000000, trap := Cfg.CarMotion.PROF cm == 1 }

/-- R131: limits of an S2 stop. -/
def State.quickLim (s : State) (c : Nat) : Lim :=
  let cm := s.carMotion c
  { v := Cfg.CarMotion.VLANE cm, a := min (Cfg.CarMotion.QAMAX cm) 2000000, j := min (Cfg.CarMotion.QJMAX cm) 4000000, trap := Cfg.CarMotion.PROF cm == 1 }

/-- The Crossing's travel, 0 in a lane. -/
def State.travelOf (s : State) (c : Nat) : Nat :=
  let e := (s.car c).pos.elem
  if isLane e then 0 else Cfg.Xing.TRAVEL (s.xingOf e)

/-- R135: limits along H of a Crossing leg: the vector speed's share. -/
def xingLim (travel : Nat) (vposQ0 : Int) (l : Lim) : Lim :=
  let v := (roundQ vposQ0).natAbs
  let len := isqrt (travel * travel + v * v)
  if len = 0 then l else { l with v := l.v * travel / len }

/-- R120: the limits in force for a move of a car, the speed cap and its source, and CLAMP[2:0]. -/
def State.moveLim (s : State) (c : Nat) (mv : Move) (target : Int) : Lim × (Nat × Nat) × Nat :=
  let svc := s.svcLim c
  let cap := leastCap (s.carCaps c target)
  let v := orCfg mv.vmax cap.1
  let l : Lim := { v := v, a := orCfg mv.amax svc.a, j := orCfg mv.jmax svc.j, trap := if mv.prof = 0 then svc.trap else mv.prof == 2 }
  let clamp := b2n (decide (cap.1 < mv.vmax)) + 2 * b2n (decide (svc.a < mv.amax)) + 4 * b2n (decide (svc.j < mv.jmax))
  (if isLane (s.car c).pos.elem then l else xingLim (s.travelOf c) (s.planOf c).vposQ0 l, cap, clamp)

/-! ## Targets and what is allowed (R126, R127) -/

/-- The target of the present leg: in the element of the target, the target; else the join on the way. -/
def State.legTarget (s : State) (c : Nat) (mv : Move) : Int :=
  let e := (s.car c).pos.elem
  if mv.elem = e then mv.target else s.joinToward e mv.elem

/-- R127: the furthest position in a direction whose stop point, with extent and UNC, passes neither a fixed limit nor LOA.
At a join the reference point itself is compared (log 24); a leg to a join has no fixed limit there. -/
def State.farFrom (s : State) (c : Nat) (mv : Move) (d : Int) : Int :=
  let x := s.car c
  let e := x.pos.elem
  let lim := s.limits e
  let out := s.reach c e d
  let fixed := if 0 ≤ d then lim.2 - out else lim.1 + out
  let join := s.joinToward e x.pos.loaElem
  let fixed' := if mv.elem ≠ e ∧ (d = s.elemDir e ∨ !isLane e) then s.legTarget c mv else fixed
  if x.pos.loaDir = 0 then (if isLane e ∧ d ≠ s.elemDir e then fixed' else roundQ x.plan.pQ)
  else if x.pos.loaDir ≠ d then fixed'
  else
    let auth := if x.pos.loaElem = e then x.pos.loa - d * out else join
    nearer d fixed' auth

/-- R125: blocks that the second leg of a reversal needs, between turning point and target. -/
def State.reversalBlocks (s : State) (c : Nat) (turn target : Int) : List Nat :=
  let e := (s.car c).pos.elem
  let tm : Int := s.tailMargin
  let up := decide (0 < s.elemDir e)
  let lo := min turn target - s.extDn c e - (if up then tm else 0)
  let hi := max turn target + s.extUp c e + (if up then 0 else tm)
  (s.blockCfgs.filter fun b => Cfg.Block.ELEM b == e && decide (Cfg.Block.START b < hi) && decide (lo < Cfg.Block.END b)).map Cfg.Block.BLOCK

/-- R125: the reversal of a car in a lane lies within blocks it holds. -/
def State.reversalHeld (s : State) (c : Nat) (m : Mot) (target : Int) : Bool :=
  !isLane (s.car c).pos.elem || (s.reversalBlocks c (roundQ (stopPoint (s.svcLim c) m)) target).all fun b => (s.car c).auth.chain.contains b

/-! ## Trips (R126, R134): durations of legs from rest -/

/-- Duration of a move from rest over a distance in µm. -/
def restDur (l : Lim) (dist : Nat) : Nat := durOf (goPhases l 0 0 ((dist : Int) * oneQ))

/-- Duration of a route from an element's position to a target, legs from rest, each from the boundary after the last. -/
def State.routeDur (s : State) (l : Lim) (vx : Nat) (at0 : Nat) : List Nat → Nat → Int → Int → Nat
  | [], _, p, target => at0 + restDur l (target - p).natAbs
  | n :: ns, e, p, target =>
    let j := s.joinOut e n
    let l' := if isLane e then l else { l with v := vx }
    let t := boundaryAfter s.time.phase tickNs (at0 + restDur l' (j - p).natAbs - 1)
    let p' := if isLane e then 0 else Cfg.Xing.TOJOIN (s.xingOf e)
    s.routeDur l vx t ns n p' target

/-- R172: nominal duration of the release sequence, in ns. -/
def State.releaseDur (s : State) (c : Nat) : Nat := (Cfg.CarProp.HOLDRAMP (s.carProp c) + 6) * tickNs + Config.liftTime c

/-- The state a plan will show at an instant. -/
def Plan.future (p : Plan) (t : Nat) : Mot := p.motAt t

/-- The predicted end of a move planned at boundary `t0` from a state (R121), and whether it reverses. -/
def State.predict (s : State) (c : Nat) (mv : Move) (t0 : Nat) (m : Mot) : Nat × Bool :=
  let e := (s.car c).pos.elem
  let lt := s.legTarget c mv
  let q := s.moveLim c mv lt
  let rt := (s.route e mv.elem).getD []
  let braked := (s.car c).prop.seq = .braked
  let t1 := if braked then boundaryAfter s.time.phase tickNs (t0 + s.releaseDur c) else t0
  let rest (t : Nat) : Nat := match rt with
    | [] => t
    | n :: ns => s.routeDur q.1 (Cfg.CarMotion.VXING (s.carMotion c)) t ns n (if isLane e then 0 else Cfg.Xing.TOJOIN (s.xingOf e)) mv.target
  if isReversal (s.svcLim c) m lt then
    let ps := stopPlan (s.svcLim c) m
    let t2 := boundaryAfter s.time.phase tickNs (t1 + durOf ps - 1)
    let back : Lim := if isLane e ∧ isign ((lt : Int) * oneQ - (endOf ps m).pQ) ≠ s.elemDir e then { q.1 with v := min q.1.v (Cfg.CarMotion.REVSPEED (s.carMotion c)) } else q.1
    (t2 + durOf (planPhases back { pQ := (endOf ps m).pQ } lt), true)
  else (rest (t1 + durOf (planPhases q.1 m lt)), false)

/-! ## Events and replies -/

/-- MOTSTAT. -/
def Plan.motStat (p : Plan) : Nat :=
  p.mode + 8 * b2n p.rev + 16 * b2n p.xleg + 32 * b2n p.capped + 64 * b2n (p.clamp % 8 != 0) + 128 * b2n (!p.tailFrz.isEmpty)
    + 256 * b2n p.stepIn + 512 * b2n p.stepOvf

/-- R144: payload of the class 0x3 events of a plan. -/
def Plan.items (n : Nat) (p : Plan) : List Byte := le 1 n ++ leS 4 (roundQ p.pQ) ++ leS 4 (roundQ p.vQ) ++ le 2 p.motStat

def State.carFire (src c : Nat) (extra : List Byte) (s : State) : State := s.fire src (tgtOf 8 c) 0 ((s.planOf c).items c ++ extra)

/-- R399: a journal record of JTYPE 1-3: set-points, target, element, MOTSTAT, the MOVE_TO's pair and tag. -/
def State.moveJournal (type c : Nat) (s : State) : State :=
  let p := s.planOf c
  let tr := p.move.bind (·.tag)
  s.journal type c (leS 4 (roundQ p.pQ) ++ leS 4 (roundQ p.vQ) ++ leS 4 p.target ++ le 1 (s.car c).pos.elem ++ le 2 p.motStat
    ++ le 1 ((tr.map (·.pair)).getD 0xFF) ++ le 2 ((tr.map (·.tag)).getD 0xFFFF))

/-- MOVE_TO's reply payload. -/
def moveReply (time : Nat) (pos : Int) (clamp : Nat) : List Byte := le 8 time ++ leS 4 pos ++ le 1 clamp ++ zeros 3

/-- End the MOVE_TO in force, with its final reply. A learn run, a search or the dispatcher sees its own move end. -/
def State.endMove (c status reason time : Nat) (s : State) : State :=
  let p := s.planOf c
  match p.move with
  | none => s
  | some mv =>
    let s1 := s.modPlan c fun q => { q with move := none, turn := none, rev := false, tailFrz := [], waitAt := none, eta := 0 }
    let s2 := { s1 with miles := s1.miles.filter fun m => m.kind != .arrival c }
    match mv.tag with
    | some tr => s2.finish tr status reason time (moveReply time (roundQ p.pQ) p.clamp)
    | none => s2

/-- A move accepted but not yet in effect ends too. -/
def State.dropNext (c status reason : Nat) (s : State) : State :=
  let p := s.planOf c
  match p.next with
  | none => s
  | some mv =>
    let s1 := s.modPlan c fun q => { q with next := none }
    match mv.tag with
    | some tr => s1.finish tr status reason s.time.now (moveReply s.time.now (roundQ p.pQ) 0)
    | none => s1

/-- R117: a move that would take effect at the boundary of a stop ends with it; a later one waits for its boundary. -/
def State.dropDue (c status reason : Nat) (s : State) : State :=
  if ((s.planOf c).next.map fun mv => decide (mv.due ≤ s.time.now)).getD false then s.dropNext c status reason else s

/-! ## Brakes after motion (R173) -/

/-- R173: the apply sequence begins, its instant `at0`. A car still ramping up has not released its brakes. -/
def State.beginApply (c at0 : Nat) (s : State) : State :=
  s.modCar c fun x =>
    match x.prop.seq with
    | .braked => x
    | .rampUp n => { x with prop := { x.prop with seq := .rampDown (Cfg.CarProp.HOLDRAMP (s.carProp c) - n) x.prop.force } }
    | .settle _ => { x with prop := { x.prop with seq := .rampDown 0 x.prop.force } }
    | .applying _ => x
    | .rampDown _ _ => x
    | _ => { x with prop := { x.prop with seq := .applying 0, action := 1, actAt := at0, pstate := 1 }, brkLate := false }

/-- R131, R133: a stop ends: its commands end DONE, and the apply sequence begins. -/
def State.endStop (c : Nat) (s : State) : State :=
  let p := s.planOf c
  let s1 := p.stopTag.foldl (fun s tr => s.done tr (leS 4 (roundQ p.pQ) ++ zeros 4)) s
  (s1.modPlan c fun q => { q with stop := none, stopTag := [], mode := 0, vQ := 0, a := 0, j := 0, aMean := 0, caught := false }).beginApply c s.time.now

/-- MOVE_STOP: a stop that a later MOVE_TO replaced (R131) ends DONE when the car stands. -/
def State.answerStops (c : Nat) (s : State) : State :=
  let p := s.planOf c
  if p.standing && p.stop.isNone && !p.stopTag.isEmpty then
    (p.stopTag.foldl (fun s tr => s.done tr (leS 4 (roundQ p.pQ) ++ zeros 4)) s).modPlan c fun q => { q with stopTag := [] }
  else s

/-! ## Crossings (R96, R134) -/

/-- R134: a car standing at a join, with authority beyond it, enters the Crossing of its route. -/
def State.enterXing (c : Nat) (s : State) : State :=
  let x := s.car c
  match x.plan.move with
  | none => s
  | some mv =>
    let e := x.pos.elem
    match s.route e mv.elem with
    | some (n :: _) =>
      let lane := Cfg.Xing.FROMJOIN (s.xingOf n)
      let off := x.plan.pQ - lane * oneQ
      if isLane e && x.plan.standing && (x.prop.seq == .driving) && decide (off.natAbs ≤ Cfg.Xing.VALIGN (s.xingOf n) * 4294967296)
          && x.pos.loaDir != 0 && x.pos.loaElem != e && !s.inspected c then
        (s.modCar c fun y => { y with
          pos := { y.pos with vpos := roundQ (y.pos.pQ - lane * oneQ), pQ := 0, elem := n }
          plan := { y.plan with pQ := 0, xleg := true, vposQ0 := off, vposQ := off, endQ := 0 } }).moveIntegrator c true
      else s
    | _ => s

/-- R96, R134: a car whose Crossing leg has ended leaves it, or is withheld at its end. -/
def State.leaveXing (c : Nat) (s : State) : State :=
  let x := s.car c
  let g := s.xingOf x.pos.elem
  if x.pos.vpos.natAbs ≤ Cfg.Xing.VALIGN g then
    let j := Cfg.Xing.TOJOIN g
    (s.modCar c fun y => { y with
      pos := { y.pos with elem := Cfg.Xing.TOLANE g, pQ := (j + y.pos.vpos) * oneQ, vpos := 0 }
      plan := { y.plan with pQ := j * oneQ, endQ := j * oneQ, xleg := false, vposQ0 := 0, vposQ := 0 } }).moveIntegrator c false
  else (s.modPlan c fun q => { q with xleg := false }).carFire 0x34 c (le 1 0)

/-! ## A boundary, step by step (R117) -/

/-- The set-points of this boundary, and what ends at it. -/
def State.planEnd (c : Nat) (s : State) : State :=
  let p := s.planOf c
  if p.ended s.time.now then
    let s1 := s.modPlan c Plan.endAt
    match p.stop with
    | some .s1 => s1.endStop c
    | some .s2 => s1.endStop c
    | _ =>
      match p.turn with
      | some _ => (s1.modPlan c fun q => { q with turn := none, rev := true }).carFire 0x35 c []
      | none => if p.xleg then s1.leaveXing c else s1
  else s.modPlan c (Plan.refresh s.time.now (s.travelOf c))

/-- R131, R133: an S3 stop: the set-points freeze until the car stands; then they hold where it stands. -/
def State.planS3 (c : Nat) (s : State) : State :=
  let x := s.car c
  if x.plan.stop = some .s3 ∧ x.stands then
    let s1 := if x.plan.caught then s else s.modPlan c fun q => { q with pQ := x.pos.pQ, vQ := 0, a := 0, j := 0, endQ := x.pos.pQ, caught := true }
    if s1.safe.latch then s1 else s1.endStop c
  else s

def StopKind.rank : StopKind → Nat
  | .s1 => 1
  | .s2 => 2
  | .s3 => 3

/-- A stop begins (R131): moves end, phases of the stop, event source 0x34 with its kind. -/
def State.beginStop (c : Nat) (k : StopKind) (host : Bool) (tags : List TagRec) (s : State) : State :=
  let reason := if host then 0x3021 else 0x3022
  let s1 := (((s.moveJournal 3 c).endMove c 4 reason s.time.now).dropDue c 4 reason).endInjsOf (tgtOf 8 c)
  let s2 := s1.modPlan c fun q => { q with stopTag := q.stopTag ++ tags }
  match k with
  | .s3 =>
    (s2.modCar c fun x => { x.depower with plan := { x.plan with phases := [], aMean := 0, phase := 0, mode := 5, stop := some .s3, turn := none, caught := false, eta := 0 } }).carFire 0x34 c (le 1 3)
  | _ =>
    let l := if k = .s2 then s.quickLim c else s.svcLim c
    let p := s2.planOf c
    let ps := stopPlan l p.mot
    let s3 := s2.modPlan c fun q =>
      let q1 := if q.standing then q else q.start s.time.now ps (endOf ps q.mot).pQ
      { q1 with mode := if k = .s2 then 4 else 3, stop := some k, turn := none, eta := if q.standing then 0 else s.time.now + durOf ps }
    let s4 := s3.carFire 0x34 c (le 1 k.rank)
    if p.standing then s4.endStop c else s4.modPlan c (Plan.refresh s.time.now (s.travelOf c))

/-- The strongest kind of a list of stops. -/
def topStop : List StopReq → Option StopReq
  | [] => none
  | r :: rs => match topStop rs with
    | none => some r
    | some q => if q.kind.rank ≤ r.kind.rank then some r else some q

/-- R117 steps 1-3: the stops that take effect at this boundary. A weaker stop than one in progress adds its command to it. -/
def State.planStops (c : Nat) (s : State) : State :=
  let p := s.planOf c
  let due := p.stops.filter fun r => decide (r.due ≤ s.time.now)
  match topStop due with
  | none => s
  | some r =>
    let tags := due.filterMap (·.tag)
    let s1 := s.modPlan c fun q => { q with stops := q.stops.filter fun x => !decide (x.due ≤ s.time.now) }
    if ((p.stop.map StopKind.rank).getD 0) < r.kind.rank then s1.beginStop c r.kind (due.all (·.tag.isSome)) tags
    else s1.modPlan c fun q => { q with stopTag := q.stopTag ++ tags }

/-- R117 step 5: a retarget that takes effect at this boundary (R142); a reversal not within held blocks is refused
(R125). -/
def State.planRetarget (c : Nat) (s : State) : State :=
  let p := s.planOf c
  match p.next with
  | none => s
  | some mv =>
    if s.time.now < mv.due then s
    else if p.stop = some .s2 ∨ p.stop = some .s3 then s.dropNext c 4 0x3022
    else
      let lt := s.legTarget c mv
      let rev := isReversal (s.svcLim c) p.mot lt
      if rev && !mv.revok then s.dropNext c 3 0x3013
      else if rev && !s.reversalHeld c p.mot lt then s.dropNext c 3 0x3012
      else
        let q := s.moveLim c mv lt
        let frz := if rev && isLane (s.car c).pos.elem then s.reversalBlocks c (roundQ (stopPoint (s.svcLim c) p.mot)) lt else []
        let keep := p.tailFrz
        let s1 := (s.endMove c 4 0x3020 s.time.now)
        s1.modPlan c fun y => { y with
          move := some mv, next := none, stop := none, turn := none, rev := false, target := mv.target, clamp := q.2.2 + 8 * b2n rev
          tailFrz := if rev then keep ++ frz else [], stepOvf := false, waitAt := none, limV := 0, mode := 1, effTgt := mv.target
          phases := if y.stop.isSome || y.turn.isSome then y.phases else y.phases }

/-! ## What holds a standing car (R272, R275) -/

/-- The landing-lock record of a landing (R272). -/
def State.landLock (s : State) (lane landing : Nat) : Option (List Byte) :=
  (s.recs Cfg.LandLock.sec).find? fun r => Cfg.LandLock.LANE r == lane && Cfg.LandLock.LANDING r == landing

/-- Every door of a car's newest report is LOCKED or not configured (R257, R275). -/
def Car.doorsLocked (x : Car) : Bool := match x.rep with
  | some (r, _) => r.doors.all fun d => d == 2 || d == 0xFF
  | none => true

/-- |p − sill| + UNC ≤ a distance, for one landing. -/
def State.nearSill (s : State) (c i : Nat) (win : Int) : Bool :=
  let x := (s.car c).pos
  isLane x.elem && decide ((x.pQ - (s.sills x.elem).getD i 0 * oneQ).natAbs + (s.unc c * oneQ).natAbs ≤ (win * oneQ).natAbs)

/-- R272: a lock point reads locked. -/
def State.lockReads (s : State) (r : List Byte) : Bool :=
  let n := Cfg.LandLock.LSRC r
  match Cfg.LandLock.LSRCK r with
  | 0 => decide (n < 64) && (s.fi n).level && !(s.fi n).stale && s.grpOk (fiGroup n)
  | 1 => let p := s.pointRt n; p.value == 1 && bit p.flags 0 && !bit p.flags 3
  | _ => true

/-- R270, R272: the landing at which a car is, whatever its trust. -/
def State.atLanding (s : State) (c : Nat) : Option Nat := s.landingNear c (Cfg.Zone.ZONE s.zone)

/-- R272: the lock point of the landing at which a car stands reads locked. -/
def State.lockedHere (s : State) (c : Nat) : Bool :=
  match (s.atLanding c).bind fun i => s.landLock (s.car c).pos.elem i with
  | some r => s.lockReads r
  | none => true

/-- R275: every door is LOCKED, or the plan re-levels: to the same sill, within LEVZ, at no more than LEVV. -/
def State.doorsLetGo (s : State) (c : Nat) (l : Lim) (target : Int) : Bool :=
  let x := s.car c
  x.doorsLocked || (match s.atLanding c with
    | some i => target == (s.sills x.pos.elem).getD i 0 && s.nearSill c i (Cfg.Zone.LEVZ s.zone) && decide (l.v ≤ Cfg.Zone.LEVV s.zone)
    | none => false)

/-- R172, R272, R338, R340: whether a release sequence may begin. -/
def State.mayRelease (s : State) (c : Nat) : Bool :=
  let x := s.car c
  s.lockedHere c && x.stands && !s.safe.latch && !s.meter.inhibit && decide (Cfg.CarProp.MINCOVER (s.carProp c) ≤ x.prop.coverage)

/-- R121: enter or replace the arrival Milestone of a car. -/
def State.setArrival (c edge : Nat) (s : State) : State :=
  { s with miles := (s.miles.filter fun m => m.kind != .arrival c) ++ [{ edge := edge, cls := 3, kind := .arrival c }] }

def State.clearArrival (c : Nat) (s : State) : State := { s with miles := s.miles.filter fun m => m.kind != .arrival c }

/-- A new profile for a car's move: its phases, ETA, arrival Milestone, event source 0x30. -/
def State.takeProfile (c : Nat) (mv : Move) (l : Lim) (ps : List Phase) (eff lt : Int) (s : State) : State :=
  let now := s.time.now
  let s1 := s.modCar c fun x => { x with
    prop := { x.prop with pstate := 2 }
    plan := { x.plan.start now ps (eff * oneQ) with
      effTgt := eff, limV := l.v, limA := l.a, limJ := l.j, trap := l.trap, turn := none, waitAt := none } }
  let tEnd := now + durOf ps
  let last := eff = lt ∧ mv.elem = (s.car c).pos.elem
  let eta := if last then edgeAt s.time.phase tEnd else (s.predict c mv now (s.planOf c).mot).1
  let s2 := s1.modPlan c fun q => { q with eta := eta }
  let s3 := if last then s2.setArrival c eta else s2.clearArrival c
  (s3.modPlan c (Plan.refresh now (s.travelOf c))).carFire 0x30 c (le 8 eta)

/-- R117 step 6 for a car on propulsion: keep or replace its profile. -/
def State.planDrive (c : Nat) (mv : Move) (s : State) : State :=
  let x := s.car c
  let p := x.plan
  let lt := s.legTarget c mv
  let q := s.moveLim c mv lt
  let l := q.1
  let d := dirOf p.mot lt
  let eff := nearer d lt (s.farFrom c mv d)
  let same := p.limV == l.v && p.limA == l.a && p.limJ == l.j && p.trap == l.trap && p.effTgt == eff
  let capped := decide (q.2.1.1 < orCfg mv.vmax (Cfg.CarMotion.VLANE (s.carMotion c)))
  let s0 := s.modPlan c fun y => { y with vcap := q.2.1.1, capSrc := q.2.1.2, capped := capped, mode := if eff = lt then 1 else 2 }
  let s1 := if capped && !p.capped then s0.carFire 0x33 c [] else s0
  let s2 := if eff ≠ lt ∧ p.mode ≠ 2 then s1.carFire 0x32 c [] else s1
  if p.turn.isSome && p.limV != 0 && !p.phases.isEmpty then s2
  else if same && !p.phases.isEmpty then s2
  else
    match (if p.standing && !s.doorsLetGo c l lt then Choice.stay else choose l (s.svcLim c) p.mot lt (s.farFrom c mv)) with
    | .go ps e => s2.takeProfile c mv l ps e lt
    | .turn ps =>
      let turnAt := (endOf ps p.mot).pQ
      (s2.modPlan c fun y => { y.start s.time.now ps turnAt with
        turn := some (roundQ turnAt), limV := l.v, limA := l.a, limJ := l.j, trap := l.trap, effTgt := eff
        eta := (s.predict c mv s.time.now p.mot).1 }).clearArrival c |>.modPlan c (Plan.refresh s.time.now (s.travelOf c)) |> fun s =>
          s.carFire 0x30 c (le 8 (s.planOf c).eta)
    | .halt ps bad =>
      let s3 := (s2.modPlan c fun y => { y.start s.time.now ps (endOf ps y.mot).pQ with effTgt := eff, limV := l.v, limA := l.a, limJ := l.j, trap := l.trap, turn := none }).clearArrival c
      let s4 := if bad ∧ p.mode = 2 then s3.carFire 0x32 c [] else s3
      s4.modPlan c (Plan.refresh s.time.now (s.travelOf c))
    | .stay =>
      let here := p.pQ = lt * oneQ
      let s3 := s2.modCar c fun y => { y with prop := { y.prop with pstate := 1 }, plan := { y.plan with
        effTgt := eff, waitAt := if here then none else some (y.plan.waitAt.getD s.time.now), limV := 0 } }
      if here ∧ mv.elem = x.pos.elem then
        (if s3.miles.any fun m => m.kind == .arrival c then s3 else s3.setArrival c (edgeAt s.time.phase s.time.now))
      else s3

/-- R126, R127, R129: the effective target, the velocity cap and MODE of a car that does not move yet. -/
def State.aim (c : Nat) (mv : Move) (s : State) : State :=
  let x := s.car c
  let lt := s.legTarget c mv
  let q := s.moveLim c mv lt
  let d := isign (lt * oneQ - x.plan.pQ)
  let eff := nearer d lt (s.farFrom c mv d)
  s.modPlan c fun y => { y with vcap := q.2.1.1, capSrc := q.2.1.2, mode := if eff = lt then 1 else 2, effTgt := eff }

/-- R117 step 6, R172: a car with a move: on propulsion it drives; standing braked it begins its release sequence where
there is room to go. -/
def State.planMove (c : Nat) (s : State) : State :=
  let x := s.car c
  match x.plan.move with
  | none => s
  | some mv =>
    if x.plan.stop.isSome then s
    else
      match x.prop.seq with
      | .driving => s.planDrive c mv
      | .heldFault => s.planDrive c mv
      | .braked =>
        let lt := s.legTarget c mv
        let q := s.moveLim c mv lt
        let d := isign (lt * oneQ - x.plan.pQ)
        let eff := nearer d lt (s.farFrom c mv d)
        let s1 := s.aim c mv
        if d = 0 ∧ mv.elem = x.pos.elem then (if s1.miles.any fun m => m.kind == .arrival c then s1 else s1.setArrival c (edgeAt s.time.phase s.time.now))
        else if 0 < d * (eff * oneQ - x.plan.pQ) ∧ 0 < q.1.v ∧ s.mayRelease c ∧ s.doorsLetGo c q.1 lt then
          let s2 := (s1.modCar c fun y => { y with prop := { y.prop with seq := .rampUp 0 } }).moveJournal 1 c
          s2.carFire 0x30 c (le 8 (s.predict c mv s.time.now x.plan.mot).1)
        else s1.modPlan c fun y => { y with waitAt := some (y.waitAt.getD s.time.now) }
      | .rampUp _ => s.aim c mv
      | .settle _ => s.aim c mv
      | .releasing _ => s.aim c mv
      | _ => s

/-- PLANNING (R117) of one car. -/
def State.planCar (c : Nat) (s : State) : State :=
  (((((((s.planEnd c).answerStops c).planS3 c).planStops c).planRetarget c).enterXing c).planMove c)

/-- R172: enough of the force demand is delivered. -/
def State.fdelHolds (s : State) (c : Nat) : Bool :=
  let f := (s.car c).prop.force
  let d := ((s.carrying c).map fun p => (s.segRun (Cfg.Segment.SEG p.1)).fdel).foldl (· + ·) 0
  decide ((d - f).natAbs * 65536 ≤ f.natAbs * Cfg.CarProp.HOLDTOL (s.carProp c))

/-- RELEASE_SEQUENCE and APPLY_SEQUENCE (R172, R173) at a boundary. -/
def State.seqStep (c : Nat) (s : State) : State :=
  let x := s.car c
  let n0 := Cfg.CarProp.HOLDRAMP (s.carProp c)
  let setSeq (q : Seq) (s : State) : State := s.modCar c fun y => { y with prop := { y.prop with seq := q } }
  match x.prop.seq with
  | .rampUp n => if n < n0 then setSeq (.rampUp (n + 1)) s else setSeq (.settle (b2n (s.fdelHolds c))) s
  | .settle r =>
    let r' := if s.fdelHolds c then r + 1 else 0
    if 4 ≤ r' then
      s.modCar c fun y => { y with brkLate := false, prop := { y.prop with seq := .releasing (s.time.now + 2 * tickNs), pstate := 1, action := 2, actAt := s.time.now + 2 * tickNs } }
    else setSeq (.settle r') s
  | .releasing due =>
    if due ≤ s.time.now ∧ (x.rep.map fun p => bit p.1.brk 2).getD false then
      s.modCar c fun y => { y with prop := { y.prop with seq := .driving, pstate := 2, action := 0 }
                                   plan := { y.plan with limV := 0 } }
    else s
  | .applying r => if 2 ≤ r then setSeq (.rampDown 0 x.prop.force) s else s
  | .rampDown k f =>
    if k < n0 then setSeq (.rampDown (k + 1) f) s
    else s.modCar c fun y => { y with prop := { y.prop with seq := .braked, pstate := 0, force := 0, forceV := 0, action := 0 } }
  | _ => s

/-- PLANNING of every car, then the sequences' next state. -/
def State.planning (s : State) : State := s.carNums.foldl (fun s c => (s.seqStep c).planCar c) s

/-! ## Arrival (R121, R173; DEVICE_MILESTONE) -/

/-- The arrival Milestone of a car is applied: MOVE_TO ends DONE, the apply sequence begins, event source 0x31. -/
def State.arriveCar (c edge : Nat) (s : State) : State :=
  let p := s.planOf c
  match p.move with
  | none => s.clearArrival c
  | some mv =>
    let q := mv.target * oneQ
    let s1 := s.modPlan c fun y => { y with pQ := q, endQ := q, vQ := 0, a := 0, j := 0, aMean := 0, phase := 0, phases := [], mode := 0 }
    let s2 := (s1.moveJournal 2 c).endMove c 2 0 edge
    (s2.carFire 0x31 c []).beginApply c edge

end Sys2Proof.Machine
end

