-- ==== Sys2Proof/Machine/Trunk.lean ====
section
/-! DEFINITION. Trunks, segments and force distribution (file 06: R145-R168, R176-R178). -/

namespace Sys2Proof.Machine

/-! ## Records and events -/

def State.trunk (s : State) (t : Nat) : Trunk := s.trunks.getD t {}
def State.modTrunk (t : Nat) (f : Trunk → Trunk) (s : State) : State := { s with trunks := s.trunks.modify t f }
def State.trunkCfg (s : State) (t : Nat) : List Byte := s.keyed Cfg.TrunkCfg.sec Cfg.TrunkCfg.TRUNK t Cfg.TrunkCfg.dflt
def State.trunkOn (s : State) (t : Nat) : Bool := s.hasKey Cfg.TrunkCfg.sec Cfg.TrunkCfg.TRUNK t && Cfg.TrunkCfg.EN (s.trunkCfg t) == 1
def trunkNums : List Nat := List.range 12

def SegSt.code : SegSt → Nat
  | .inn => 0
  | .suspect => 1
  | .out => 2
  | .unreachable => 3
  | .service => 4

/-- The hop of a module address on a trunk. -/
def Trunk.hopOf (t : Trunk) (addr : Nat) : Option Nat := t.map.findIdx? fun m => m.addr == addr

/-! ## Frames (R147, R151, R165) -/

/-- A port that sends: FSEQ rises, nothing is returned yet; STOCLR frames count down after a release (R168). -/
def Trunk.sendFrame (now : Nat) (sto : Bool) (t : Trunk) : Trunk :=
  { t with fseq := wrapAdd 16 t.fseq 1, frames := wrapAdd 32 t.frames 1, gotA := 0, gotB := 0, slots := [], sent := now
           stoClr := if sto then t.stoClr else t.stoClr - 1 }

/-- R344, R405, R421: a unit that does not hold the line, starts up or sleeps has its trunk transmitters idle. -/
def State.sendsFrames (s : State) : Bool := s.boot.role == .lane && decide (3 ≤ s.boot.stage) && s.serves && s.power.mode != .sleep

/-- FRAME_START (R147): both ports of every enabled trunk send at B_k + 16 µs; while the trunk level is asserted they
send K28.6 instead (R166). -/
def execFrameStart (s : State) : Host.Outcome State Fault Refusal :=
  let s := s.advance (s.time.now / tickNs * tickNs + 16000)
  ok { s with trunks := s.trunks.mapIdx fun i t => if s.sendsFrames && s.trunkOn i then t.sendFrame s.time.now s.safe.trunkLvl else t }

/-- R151: the slots of a frame that match the map and the tick's FSEQ, kept as 2·hop + direction. -/
def goodSlots (t : Trunk) (dirn : Nat) (slots : List Slot) : List (Nat × Slot) :=
  (slots.mapIdx fun h x => (h, x)).filterMap fun p =>
    if p.2.crcOk && p.2.fseqe == t.fseq && (t.map[p.1]?.map (·.addr)) == some p.2.addr then some (2 * p.1 + dirn, p.2) else none

/-- TRUNK_FRAME_RECEIVED (R151, R165): a returned frame; a failed HCRC or an overflow loses it, a failed SCRC one slot. -/
def execTrunkFrameReceived (t : Nat) (fr : TrunkRx) (s : State) : Host.Outcome State Fault Refusal :=
  let s := s.advance t
  let bad := b2n (!fr.hcrcOk) + b2n (!fr.setCrcOk) + (fr.slots.filter fun x => !x.crcOk).length
  let lost := fr.overflow || !fr.hcrcOk
  if !s.trunkOn fr.trunk then ok s
  else
    let s1 := s.modTrunk fr.trunk fun x =>
      let y := { x with crcErr := wrapAdd 32 x.crcErr (if fr.overflow then 0 else bad), ovf := wrapAdd 32 x.ovf (b2n fr.overflow) }
      if lost then y
      else { y with
        gotA := if fr.dirn = 0 then (if fr.port = 1 then 1 else 2) else y.gotA
        gotB := if fr.dirn = 1 then (if fr.port = 0 then 1 else 2) else y.gotB
        slots := y.slots ++ goodSlots y fr.dirn fr.slots
        maxRet := max y.maxRet (s.time.now - s.time.now / tickNs * tickNs) }
    ok (if fr.overflow || bad ≠ 0 then s1.fire 0x3C 0 0 (trunkItems fr.trunk 0xFFFF 0xFFFF 0xFF (b2n fr.overflow)) else s1)

/-! ## Classification (R160, R161, R164) -/

/-- The slot returned for a hop, from either direction. -/
def Trunk.slotAt (t : Trunk) (h : Nat) : Option Slot := (t.slots.find? fun p => p.1 / 2 == h).map (·.2)

/-- R160: RINGST of the tick before; where no line holds it stays as it was. -/
def Trunk.classify (t : Trunk) : Nat :=
  let all := (List.range t.map.length).all fun h => (t.slotAt h).isSome
  if t.gotA = 0 ∧ t.gotB = 0 then 3
  else if t.gotA = 1 ∧ t.gotB = 1 then 0
  else if t.gotA = 2 ∧ t.gotB = 2 ∧ all then 1
  else if !all ∧ (t.gotA = 2 ∨ t.gotB = 2) then 2
  else t.ringst

/-- R160: the last hop returned on each side. -/
def Trunk.breaks (t : Trunk) (st : Nat) : Nat × Nat :=
  if st = 1 ∨ st = 2 then
    let a := (t.slots.filter fun p => p.1 % 2 == 0).map (·.1 / 2)
    let b := (t.slots.filter fun p => p.1 % 2 == 1).map (·.1 / 2)
    ((a.max?).getD 0xFFFF, (b.min?).getD 0xFFFF)
  else (0xFFFF, 0xFFFF)

/-- FLT, TMO, OVT or STOL of R161, or a DC link below VDCMIN (R176). -/
def slotBad (vdcMin : Nat) (x : Slot) : Bool := bit x.mstat 11 || bit x.mstat 9 || bit x.mstat 3 || bit x.mstat 1 || decide (x.vdc * 4 < vdcMin)

/-- R161, R164: a segment after a tick: `slot` what was returned, `far` beyond a break, `free` no car gives it weight. -/
def Seg.after (vdcMin : Nat) (slot : Option Slot) (far free : Bool) (g : Seg) : Seg :=
  match slot with
  | some x =>
    let bad := slotBad vdcMin x
    let good := if bad then 0 else min 64 (g.goodRun + 1)
    let st := match g.st with
      | .service => SegSt.service
      | .inn => if bad then .out else .inn
      | .suspect => if bad then .out else .inn
      | .out => if decide (64 ≤ good) && free then .inn else .out
      | .unreachable => if decide (64 ≤ good) && free then .inn else .unreachable
    { g with st := st, mstat := x.mstat, theta := x.theta, temp := x.temp, vdc := x.vdc * 4, fdel := x.fdel, missRun := 0, goodRun := good }
  | none =>
    let st := match g.st with
      | .service => SegSt.service
      | .inn => if far then .unreachable else .suspect
      | .suspect => if far then .unreachable else .out
      | .out => if far then .unreachable else .out
      | .unreachable => .unreachable
    { g with st := st, missRun := wrapAdd 16 g.missRun 1, missTot := wrapAdd 32 g.missTot 1, goodRun := 0 }

/-- The segments of a trunk. -/
def State.trunkSegs (s : State) (t : Nat) : List (List Byte) := s.segCfgs.filter fun g => Cfg.Segment.TRUNK g == t

/-- A segment at a boundary: its record and hop, the running part before and after, whether its slot was missed. -/
structure SegStep where
  cfg    : List Byte
  hop    : Option Nat
  old    : Seg
  new    : Seg
  missed : Bool
deriving DecidableEq, Repr

/-- R161, R164: one segment of a trunk at a boundary; a segment that enumeration did not find stays as it is. -/
def State.segStep (s : State) (x : Trunk) (vdcMin t : Nat) (ringst : Nat) (p : List Byte × Seg) : SegStep :=
  if Cfg.Segment.TRUNK p.1 = t then
    match x.hopOf (Cfg.Segment.ADDR p.1) with
    | none => ⟨p.1, none, p.2, p.2, false⟩
    | some h =>
      let slot := x.slotAt h
      let free := (p.2.st == .out || p.2.st == .unreachable) && s.magArrays.all fun m => m.weight p.1 == 0
      ⟨p.1, some h, p.2, p.2.after vdcMin slot (decide (2 ≤ ringst)) free, slot.isNone⟩
  else ⟨p.1, none, p.2, p.2, false⟩

/-- R161, R164: every segment of a trunk at a boundary, with event source 0x38 on a change. -/
def State.segsAfter (t ringst : Nat) (s : State) : State :=
  let l := s.segPairs.map (s.segStep (s.trunk t) (Cfg.TrunkCfg.VDCMIN (s.trunkCfg t)) t ringst)
  let s1 : State := { s with segs := l.map (·.new) }
  let s2 := s1.modTrunk t fun k => { k with misses := wrapAdd 32 k.misses (l.filter (·.missed)).length }
  (l.filter fun q => q.new.st != q.old.st).foldl (fun s q =>
    s.fire 0x38 (tgtOf 5 q.new.id) 0 (trunkItems t (q.hop.getD 0xFFFF) q.new.id 0xFF q.new.st.code)) s2

/-- R164: a SEGMENT_SERVICE takes effect at a boundary. -/
def State.segService (g : List Byte) (s : State) : State :=
  let x := s.segRun (Cfg.Segment.SEG g)
  match x.svcPend with
  | none => s
  | some a =>
    let st := if a = 1 then SegSt.service else SegSt.inn
    (s.putSeg { x with st := st, svcPend := none }).fire 0x38 (tgtOf 5 x.id) 0
      (trunkItems (Cfg.Segment.TRUNK g) (((s.trunk (Cfg.Segment.TRUNK g)).hopOf (Cfg.Segment.ADDR g)).getD 0xFFFF) x.id 0xFF st.code)

/-- R160: one trunk at a boundary. Enumeration leaves it alone. -/
def State.classifyTrunk (t : Nat) (s : State) : State :=
  let x := s.trunk t
  if !s.trunkOn t || !x.known || (s.enumRun.any fun r => bit r.2.1 t) then s
  else
    let st := x.classify
    let br := x.breaks st
    let s1 := s.modTrunk t fun y => { y with ringst := st, brkA := br.1, brkB := br.2 }
    let s2 := if st = x.ringst then s1 else s1.fire 0x37 0 0 (trunkItems t br.1 0xFFFF 0xFF st)
    (s2.segsAfter t st).modTrunk t fun y => { y with gotA := 0, gotB := 0, slots := [] }

/-- TRUNK_CLASSIFY. -/
def State.classify (s : State) : State :=
  let s1 := trunkNums.foldl (fun s t => s.classifyTrunk t) s
  s1.segCfgs.foldl (fun s g => s.segService g) s1

/-! ## Coverage (R155, R157, R162) -/

/-- The car that takes a segment, with its weight: the greatest weight, the lower car number on a tie. -/
def taker (l : List MagArray) (g : List Byte) : Option (Nat × Nat) :=
  l.foldl (fun best x =>
    let w := x.weight g
    if w = 0 then best else match best with
      | some (b, d) => if b < w ∨ (b = w ∧ x.car < d) then some (w, x.car) else best
      | none => some (w, x.car)) none

/-- A segment's trunk carries setpoints (R159). -/
def State.segServed (s : State) (g : List Byte) : Bool := s.trunkOn (Cfg.Segment.TRUNK g) && (s.trunk (Cfg.Segment.TRUNK g)).carries

/-- The segments a car takes, with their weights. -/
def State.taken (s : State) (c : Nat) : List (List Byte × Nat) :=
  let l := s.magArrays
  (s.carrying c).filter fun p => (taker l p.1).map (·.2) == some c && s.segServed p.1

def State.segSt (s : State) (g : List Byte) : SegSt := (s.segRun (Cfg.Segment.SEG g)).st

/-- Sum of weights. -/
def sumW (l : List (List Byte × Nat)) : Nat := (l.map (·.2)).sum

/-- W_in / array length in Q0.16, of segments IN; a SUSPECT one is left out (R162). -/
def State.coverOf (s : State) (c : Nat) : Nat :=
  let w := sumW ((s.taken c).filter fun p => s.segSt p.1 == .inn)
  let len := s.arrayLen c * 4294967296
  if len = 0 then 0 else w * 65536 / len

/-- COVERAGE_LOST (R162) and the segment faults of R277 for one car. -/
def State.coverCar (c : Nat) (s : State) : State :=
  let cov := s.coverOf c
  let x := s.car c
  let low := decide (cov < Cfg.CarProp.MINCOVER (s.carProp c))
  let s1 := s.modCar c fun y => { y with prop := { y.prop with coverage := cov, coverLost := low } }
  if x.prop.pstate ≠ 0 ∧ low then
    let s2 := s1.modCar c Car.depower
    (s2.fire 0x39 (tgtOf 8 c) 0 (trunkItems 0xFF 0xFFFF 0xFFFF c 0)).fault 0x08 c x.pos.elem
  else
    let hurt := x.prop.pstate ≠ 0 ∧ (s.taken c).any fun p => s.segSt p.1 == .out || s.segSt p.1 == .unreachable
    let s2 := if hurt then s1.fault 0x09 c x.pos.elem else s1
    if low then s2 else s2.unfault fun f => f.code == 0x08 && f.car == c

def State.coverage (s : State) : State := s.carNums.foldl (fun s c => s.coverCar c) s

/-! ## Unpowered blocks (R162) -/

/-- The configured car of shortest magnet array. -/
def State.shortCar (s : State) : Option Nat :=
  s.carNums.foldl (fun b c => match b with
    | none => some c
    | some d => if s.arrayLen c < s.arrayLen d then some c else b) none

/-- Soft edge of width `b` centred on `c`, at `x`, in units of 1/(2b) (R155). -/
def softEdge (b c x : Int) : Int := if 2 * x ≤ 2 * c - b then 0 else if 2 * c + b ≤ 2 * x then 2 * b else 2 * x - 2 * c + b

/-- Its integral up to `x`, in units of 1/(8·max 1 b) µm. -/
def softArea (b c x : Int) : Int :=
  if 2 * x ≤ 2 * c - b then 0
  else if 2 * c + b ≤ 2 * x then 8 * max 1 b * (x - c)
  else (2 * x - 2 * c + b) * (2 * x - 2 * c + b)

/-- The enabled trunks that carry setpoints (R159). -/
def State.carryTrunks (s : State) : List Nat := trunkNums.filter fun t => s.trunkOn t && (s.trunk t).carries

/-- ELEM, START and END of the segments that a setpoint reaches: their trunk carries setpoints and they are IN or SUSPECT. -/
def State.liveSpans (s : State) : List (Nat × Int × Int) :=
  let on := s.carryTrunks
  (s.segPairs.filter fun p => (p.2.st == .inn || p.2.st == .suspect) && on.contains (Cfg.Segment.TRUNK p.1)).map
    fun p => (Cfg.Segment.ELEM p.1, Cfg.Segment.START p.1, Cfg.Segment.END p.1)

/-- Those of one element. -/
def spansOf (l : List (Nat × Int × Int)) (e : Nat) : List (Int × Int) := (l.filter fun p => p.1 == e).map (·.2)

/-- R162: W_in with the array at [lo, hi] in µm, in units of 1/(8·max 1 b) µm. -/
def coverW (b : Int) (gs : List (Int × Int)) (lo hi : Int) : Int :=
  gs.foldl (fun w g => w + (softArea b g.1 hi - softArea b g.2 hi) - (softArea b g.1 lo - softArea b g.2 lo)) 0

/-- A sorted list without repeats. -/
def dedup : List Int → List Int
  | [] => []
  | x :: xs => match dedup xs with
    | [] => [x]
    | y :: ys => if x = y then y :: ys else x :: y :: ys

/-- Where coverage can be least within a block: its ends, the breakpoints of the soft spans under either array end, and
the vertex between two of them. -/
def coverPoints (b mlo mhi : Int) (gs : List (Int × Int)) (lo hi : Int) : List Int :=
  let h : Int := b / 2
  let brk := gs.flatMap fun g => [mlo, mhi].flatMap fun m => [g.1, g.2].flatMap fun x => [x - h - m, x + h - m]
  let pts := dedup (((lo :: hi :: brk).filter fun x => decide (lo ≤ x) && decide (x ≤ hi)).mergeSort (· ≤ ·))
  let soft (g : Int × Int) (x : Int) : Int := softEdge b g.1 x - softEdge b g.2 x
  let slope (x : Int) : Int := gs.foldl (fun a g => a + soft g (x + mhi) - soft g (x + mlo)) 0
  pts ++ (pts.zip (pts.drop 1)).flatMap fun p =>
    let a := slope p.1
    let z := slope p.2
    if a < 0 ∧ 0 < z then (let r := p.1 + (p.2 - p.1) * (-a) / (z - a); [r, r + 1]) else []

/-- R162: whether the block [lo, hi] is unpowered, given the live spans of its element and the shortest array's record. -/
def blockDark (r : List Byte) (spans : List (Int × Int)) (lo hi : Int) : Bool :=
  let b : Int := Cfg.CarProp.BLENDW r
  let mlo := Cfg.CarProp.MAGLO r
  let mhi := Cfg.CarProp.MAGHI r
  let need : Int := Cfg.CarProp.MINCOVER r * (8 * max 1 b * (mhi - mlo))
  let gs := spans.filter fun g => decide (lo + mlo - b ≤ g.2) && decide (g.1 ≤ hi + mhi + b)
  (coverPoints b mlo mhi gs lo hi).any fun p => decide (coverW b gs (p + mlo) (p + mhi) * 65536 < need)

/-- R162: whether a block is unpowered. -/
def State.unpowered (s : State) (elem : Nat) (lo hi : Int) : Bool :=
  match s.shortCar with
  | none => false
  | some c => blockDark (s.carProp c) (spansOf s.liveSpans elem) lo hi

/-- R162 for every block of the books. -/
def State.markDark (s : State) (l : List Blk) : List Blk :=
  match s.shortCar with
  | none => l.map fun k => { k with unpow := false }
  | some c =>
    let live := s.liveSpans
    let spans := ((l.map (·.elem)).eraseDups).map fun e => (e, spansOf live e)
    let r := s.carProp c
    l.map fun k => { k with unpow := blockDark r (((spans.find? fun p => p.1 == k.elem).map (·.2)).getD []) k.start k.stop }

/-! ## Force distribution (R153, R156, R157) -/

/-- R137: the rate multiplier reloaded from the boundary's values. -/
def Car.reload (x : Car) : Car :=
  { x with prop := { x.prop with
      acc := x.pos.pQ
      inc := divRound (x.pos.vQ * 262144) 1000000000
      add := divRound (x.plan.a * 1048576) 1000000000000000000 } }

/-- R156: the shares of a force over weights: each round(F·w/W), the first of greatest weight takes the remainder. -/
def shares (f : Int) (l : List (List Byte × Nat)) : List (Nat × Int) :=
  let w := sumW l
  if w = 0 then [] else
  let each := l.map fun p => (Cfg.Segment.SEG p.1, divRound (f * p.2) w)
  let rest := f - (each.map (·.2)).foldl (· + ·) 0
  match heaviest l with
  | some big => each.map fun p => if p.1 = Cfg.Segment.SEG big.1 then (p.1, p.2 + rest) else p
  | none => each

/-- Clamp to ±m. -/
def clampAbs (m : Nat) (x : Int) : Int := max (-(m : Int)) (min m x)

/-- R172: the sequence of a car drives its segments: while PSTATE is HOLDING or DRIVING, and through the ramps of the
release and apply sequences, whose demand must be delivered (log 30). -/
def Car.drives (x : Car) : Bool :=
  x.prop.pstate == 1 || x.prop.pstate == 2 || (match x.prop.seq with
    | .rampUp _ => true
    | .settle _ => true
    | .rampDown _ _ => true
    | _ => false)

/-- R153: angle, rate and change of rate at LAUNCH: the multiplier carried on 31,250 edges. -/
def State.angleTerms (s : State) (c : Nat) (g : List Byte) : Nat × Int × Int :=
  let p := (s.car c).prop
  let n : Int := 31250
  let acc := p.acc + (n * p.inc + p.add * (n * (n - 1) / 2)) / 65536
  let per : Int := (20 * Cfg.Segment.POLE g : Nat) * oneQ
  let off := (Cfg.Segment.START g + s.bemfOff (Cfg.Segment.SEG g)) * oneQ
  if per = 0 then (0, 0, 0)
  else
    (((acc - off) % per * 4294967296 / per).toNat, divRound ((p.inc + n * p.add) * 65536) (20 * Cfg.Segment.POLE g * 16777216),
      divRound (p.add * 65536) (20 * Cfg.Segment.POLE g))

/-- What a car asks of its segments: forces along the element and vertically, and W_in. -/
structure CarDemand where
  car    : Nat
  along  : List (Nat × Int)
  vert   : List (Nat × Int)
  win    : Nat
deriving DecidableEq, Repr

/-- R156: the demand of a car over the segments it takes that are IN or SUSPECT. -/
def State.carDemand (s : State) (c : Nat) : CarDemand :=
  let x := s.car c
  let use := (s.taken c).filter fun p => s.segSt p.1 == .inn || s.segSt p.1 == .suspect
  if x.drives then ⟨c, shares x.prop.force use, shares x.prop.forceV use, sumW use⟩ else ⟨c, [], [], sumW use⟩

def demandOf (dem : List CarDemand) (c : Nat) : CarDemand := (dem.find? fun d => d.car == c).getD ⟨c, [], [], 0⟩

def lookI (l : List (Nat × Int)) (k : Nat) : Int := ((l.find? fun p => p.1 == k).map (·.2)).getD 0

/-- R157: MODE of a segment for the car it serves. -/
def State.segMode (s : State) (x : MagArray) (w : Nat) (g : List Byte) : Nat :=
  let m := if s.segSt g = .service then 0
    else if 0 < w then (if (s.car x.car).drives then 2 else 1)
    else if x.arms g then 1 else 0
  if 0 < (s.trunk (Cfg.Segment.TRUNK g)).stoClr then min m 1 else m

/-- The running part of one segment for the coming frame. -/
def State.segDemand (s : State) (l : List MagArray) (dem : List CarDemand) (g : List Byte) : Seg :=
  let id := Cfg.Segment.SEG g
  let y := s.segRun id
  let fmax := 1000 * Cfg.TrunkCfg.FMAX (s.trunkCfg (Cfg.Segment.TRUNK g))
  let who : Option (Nat × MagArray) := match taker l g with
    | some (w, c) => (l.find? fun x => x.car == c).map fun x => (w, x)
    | none => (l.find? fun x => x.arms g).map fun x => (0, x)
  match who with
  | none => { y with mode := 0, car := none, force := 0, forceV := 0, weight := 0, share := 0 }
  | some (w, x) =>
    let c := x.car
    let d := demandOf dem c
    let a := s.angleTerms c g
    let m := s.segMode x w g
    { y with mode := m, car := some c, weight := w, angle := a.1, omega := a.2.1, alpha := a.2.2
             force := if m = 2 then clampAbs fmax (lookI d.along id) else 0
             forceV := if m = 2 then clampAbs fmax (lookI d.vert id) else 0
             share := if d.win = 0 || !(y.st == .inn || y.st == .suspect) then 0 else satN 16 (w * 65536 / d.win) }

/-- FORCE_DISTRIBUTION (R156): every segment's demand, and the demand in force of each car, newest first (R200). -/
def State.distribute (s : State) : State :=
  let s1 := { s with cars := s.cars.map Car.reload }
  let s2 := s1.carNums.foldl (fun s c => s.modCar c fun x =>
    let f := if x.drives then s.outSum (tgtOf 8 c) 1 else 0
    let v := if x.drives && !isLane x.pos.elem then s.outSum (tgtOf 8 c) 2 else 0
    { x with prop := { x.prop with force := f, forceV := v } }) s1
  let dem := s2.carNums.map s2.carDemand
  let segs := (let l := s2.magArrays; s2.segCfgs.map fun g => s2.segDemand l dem g)
  let cut (c : Nat) : Bool := segs.any fun y => y.car == some c && y.mode == 2 &&
    (y.force != lookI (demandOf dem c).along y.id || y.forceV != lookI (demandOf dem c).vert y.id)
  let s3 := { s2 with segs := segs }
  let s4 := s3.carNums.foldl (fun s c => s.modCar c fun x =>
    let eff := (segs.map fun y => if y.car = some c then y.force else 0).foldl (· + ·) 0
    { x with prop := { x.prop with fclamp := cut c, uEff := (eff :: x.prop.uEff).take 4 } }) s3
  { s4 with chans := s4.chans.mapIdx fun ch x => match s4.chanRec? ch with
      | some r => if tgtKind (Cfg.Channel.NODE r) = 8 then { x with fmaxCut := cut (tgtIdx (Cfg.Channel.NODE r)) } else x
      | none => x }

/-! ## Enumeration (R158, R159) -/

/-- R158 step 4: a module of the map; delays in units of 0.5 ns. -/
def moduleOf (loop : Nat) (m : ModFound) : Module :=
  { addr := m.addr, type := m.type, pver := m.pver, serial := m.serial, dlyA := ((loop : Int) - m.delta).toNat % 65536, dlyB := ((loop : Int) + m.delta).toNat % 65536 }

/-- R158 step 2: the ring is closed where the second list is the exact reverse of the first. -/
def walkClosed (w : TrunkWalk) : Bool := !w.fromA.isEmpty && (w.fromB.map (·.addr)) == (w.fromA.map (·.addr)).reverse

/-- The hops a walk found, in ring order from port A. -/
def walkMods (w : TrunkWalk) : List ModFound := if walkClosed w then w.fromA else w.fromA ++ w.fromB.reverse

def walkRingst (w : TrunkWalk) : Nat := if walkClosed w then 0 else if (walkMods w).isEmpty then 3 else 1

/-- The map of a trunk as enumeration leaves it. -/
def Trunk.enumerated (w : TrunkWalk) (t : Trunk) : Trunk :=
  { t with map := (walkMods w).map (moduleOf w.loop), known := true, carries := true, ringst := walkRingst w, loop := w.loop, closed := walkClosed w
           brkA := if walkClosed w then 0xFFFF else w.fromA.length - 1, brkB := if walkClosed w then 0xFFFF else w.fromA.length, gotA := 0, gotB := 0, slots := [] }

/-- R158: the enumeration of the enabled trunks of a mask begins: no setpoints meanwhile. -/
def State.startEnum (tag : Option TagRec) (mask : Nat) (s : State) : State :=
  let m := (trunkNums.filter fun t => bit mask t && s.trunkOn t).foldl (fun a t => a + 2 ^ t) 0
  { s with enumRun := s.enumRun ++ [(tag, m, s.time.now)]
           trunks := s.trunks.mapIdx fun i t => if bit m i then { t with carries := false } else t }

/-- TRUNK_ENUMERATE's reply. -/
def State.enumReply (s : State) (mask : Nat) : List Byte :=
  trunkNums.flatMap fun t =>
    if bit mask t then le 2 (s.trunk t).map.length ++ le 1 (s.trunk t).ringst ++ zeros 1 ++ le 4 (s.trunk t).loop
    else le 2 0 ++ le 1 3 ++ zeros 1 ++ le 4 0

/-- ENUMERATION_END (R158): maps and delays are stored, TRUNK_ENUMERATE ends DONE. -/
def execEnumerationEnd (t : Nat) (walks : List TrunkWalk) (s : State) : Host.Outcome State Fault Refusal :=
  let s := s.advance t
  match s.enumRun with
  | [] => ok s
  | (tag, mask, _) :: more =>
    let s1 := { s with enumRun := more, trunks := s.trunks.mapIdx fun i x =>
      if (bit mask i) = true then Trunk.enumerated ((walks.find? fun w => w.trunk == i).getD ⟨i, [], [], 0⟩) x else x }
    match tag with
    | some tr => ok (s1.done tr (s1.enumReply mask))
    | none => ok s1

/-- R158: every car whose array lies over a trunk stands. -/
def State.trunkStands (s : State) (t : Nat) : Bool :=
  s.carNums.all fun c => s.carStands c || (let x := s.magArray c; (s.trunkSegs t).all fun g => x.weight g == 0)

def trunkEnumOwn (s : State) (_tr : TagRec) (d : List Byte) : Own :=
  let sel := trunkNums.filter fun t => bit (rd d 0 2) t
  firstOf [refuseIf (s.boot.stage != 5) 0x0014, refuseIf (sel.any fun t => !s.trunkOn t) 0x3030,
    refuseIf (s.enumRun.any fun r => sel.any fun t => bit r.2.1 t) 0x3033,
    refuseIf (sel.any fun t => !s.trunkStands t) 0x3031]

def trunkEnumEff (tr : TagRec) (d : List Byte) (s : State) : State := s.startEnum (some tr) (rd d 0 2 % 4096)

def trunkEnumerateCard : CardDef where
  k := { opc := 0x3040, role := 1, query := false, kinds := [1] }
  lenOk := lenIs 4
  own := trunkEnumOwn
  eff := trunkEnumEff

/-- TRUNK_ENUMERATE (R158). -/
def execTrunkEnumerate (h : Hdr) (data : List Byte) (s : State) : Host.Outcome State Fault Refusal := ok (runCard trunkEnumerateCard h data s)

/-! ## Cards -/

def trunkMapReply (s : State) (_tr : TagRec) (d : List Byte) : List Byte :=
  let t := rd d 0 1
  let ms := (((s.trunk t).map.mapIdx fun h m => (h, m)).drop (rd d 2 2)).take 252
  le 1 t ++ zeros 1 ++ le 2 ms.length ++ ms.flatMap fun p =>
    le 2 p.1 ++ le 2 p.2.addr ++ le 2 p.2.type ++ le 1 p.2.pver
      ++ le 1 (b2n ((s.trunkSegs t).any fun g => Cfg.Segment.ADDR g == p.2.addr)) ++ le 2 p.2.dlyA ++ le 2 p.2.dlyB ++ le 4 p.2.serial

def trunkOpOwn (s : State) (_tr : TagRec) (d : List Byte) : Own := refuseIf (!s.trunkOn (rd d 0 1)) 0x3030

def trunkMapCard : CardDef where
  k := { opc := 0x3041, role := 1, query := true, kinds := [1] }
  lenOk := fun d => d.length == 4 && decide (rd d 0 1 < 12)
  own := trunkOpOwn
  eff := answer trunkMapReply

/-- TRUNK_MAP (R158). -/
def execTrunkMap (h : Hdr) (data : List Byte) (s : State) : Host.Outcome State Fault Refusal := ok (runCard trunkMapCard h data s)

def trunkStatusReply (s : State) (_tr : TagRec) (d : List Byte) : List Byte :=
  let t := rd d 0 1
  let x := s.trunk t
  let st := (s.trunkSegs t).map s.segSt
  let nin := (st.filter fun q => q == .inn).length
  let nout := (st.filter fun q => q == .out || q == .unreachable || q == .service).length
  let stol := (s.trunkSegs t).any fun g => bit (s.segRun (Cfg.Segment.SEG g)).mstat 1
  le 1 t ++ le 1 (if s.trunkOn t then x.ringst else 4) ++ le 2 x.brkA ++ le 2 x.brkB ++ le 2 x.map.length ++ le 2 nin ++ le 2 nout
    ++ le 1 (b2n s.safe.trunkLvl + 2 * b2n stol) ++ zeros 3 ++ le 4 x.frames ++ le 4 x.misses ++ le 4 x.crcErr ++ le 4 x.ovf ++ le 4 x.maxRet

/-- TRUNK_STATUS answers and begins MAXRET again. A trunk that is not enabled reads RINGST 4. -/
def trunkStatusEff (tr : TagRec) (d : List Byte) (s : State) : State :=
  (s.modTrunk (rd d 0 1) fun x => { x with maxRet := 0 }).done tr (trunkStatusReply s tr d)

def trunkStatusCard : CardDef where
  k := { opc := 0x3042, role := 1, query := true, kinds := [1] }
  lenOk := fun d => d.length == 4 && decide (rd d 0 1 < 12)
  eff := trunkStatusEff

/-- TRUNK_STATUS (R160). -/
def execTrunkStatus (h : Hdr) (data : List Byte) (s : State) : Host.Outcome State Fault Refusal := ok (runCard trunkStatusCard h data s)

def segmentReadReply (s : State) (tr : TagRec) (_d : List Byte) : List Byte :=
  let id := tgtIdx tr.tgt
  let x := s.segRun id
  le 2 (((s.seg? id).map Cfg.Segment.ADDR).getD 0) ++ le 2 x.mstat ++ le 1 x.st.code ++ le 1 x.mode ++ le 1 (x.car.getD 0xFF) ++ leS 1 x.temp
    ++ leS 4 (satI32 x.force) ++ leS 4 (satI32 x.fdel) ++ le 2 x.share ++ le 2 x.theta ++ le 2 x.vdc ++ le 2 x.missRun ++ le 4 x.missTot

def segmentReadCard : CardDef where
  k := { opc := 0x3043, role := 1, query := true, kinds := [5] }
  lenOk := lenIs 0
  eff := answer segmentReadReply

/-- SEGMENT_READ (R161). -/
def execSegmentRead (h : Hdr) (data : List Byte) (s : State) : Host.Outcome State Fault Refusal := ok (runCard segmentReadCard h data s)

/-- Whether a segment's module lies beyond a break now. -/
def State.segBeyond (s : State) (g : List Byte) : Bool :=
  let x := s.segRun (Cfg.Segment.SEG g)
  x.st == .unreachable || (decide (2 ≤ (s.trunk (Cfg.Segment.TRUNK g)).ringst) && x.missRun != 0)

def segmentServiceOwn (s : State) (tr : TagRec) (d : List Byte) : Own :=
  match s.seg? (tgtIdx tr.tgt) with
  | none => none
  | some g => firstOf [refuseIf (!s.trunkOn (Cfg.Segment.TRUNK g)) 0x3030, refuseIf (s.magArrays.any fun x => x.arms g) 0x3032,
      refuseIf (rd d 0 1 == 0 && s.segBeyond g) 0x3034]

/-- R164: the change takes effect at the next boundary. -/
def segmentServiceEff (tr : TagRec) (d : List Byte) (s : State) : State :=
  let x := s.segRun (tgtIdx tr.tgt)
  let pend := if rd d 0 1 = 1 then some 1 else if x.st = .service ∨ x.svcPend = some 1 then some 0 else x.svcPend
  (s.putSeg { x with svcPend := pend }).done tr []

def segmentServiceCard : CardDef where
  k := { opc := 0x3044, role := 1, query := false, kinds := [5] }
  lenOk := fun d => d.length == 4 && decide (rd d 0 1 ≤ 1)
  own := segmentServiceOwn
  eff := segmentServiceEff

/-- SEGMENT_SERVICE (R164). -/
def execSegmentService (h : Hdr) (data : List Byte) (s : State) : Host.Outcome State Fault Refusal := ok (runCard segmentServiceCard h data s)

end Sys2Proof.Machine
end

