-- ==== Sys2Proof/Machine/CarLink.lean ====
section
/-! DEFINITION. The car link (files 04, 06, 09, 17: R99, R170-R175, R187, R254, R274, R412): what the LANE device sends
and hears, and the CAR device's brakes. -/

namespace Sys2Proof.Machine

/-! ## LANE: records sent (R170, R254, R274) -/

/-- R170: the hold messages of a fast-tick boundary. -/
def State.holdPass (s : State) : State :=
  if s.boot.role ≠ .lane ∨ s.standby then s
  else { s with cars := s.cars.map fun x =>
    if x.link then
      { x with prop := { x.prop with
        hseq := wrapAdd 16 x.prop.hseq 1
        lastMsg := some ⟨x.prop.pstate, wrapAdd 16 x.prop.hseq 1, s.time.now, x.prop.action, if x.prop.action = 0 then 0 else x.prop.actAt⟩ } }
    else x }

/-- Doors a landing serves. -/
def State.sidesAt (s : State) (lane landing : Nat) : Nat := ((s.landLock lane landing).map Cfg.LandLock.SIDES).getD 0

/-- R274: the landing whose zone a car is in. -/
def State.zoneOf (s : State) (c : Nat) : Option Nat :=
  if 2 ≤ (s.car c).pos.trust then s.landingNear c (Cfg.Zone.ZONE s.zone) else none

/-- R274, R187: TQ[1] = 1, or HOLDING with v_cmd = 0. -/
def State.standsOrHolds (s : State) (c : Nat) : Bool :=
  let x := s.car c
  x.stands || (x.prop.pstate == 1 && x.plan.vQ == 0)

/-- R274: the standing condition. -/
def State.standingCond (s : State) (c : Nat) : Bool :=
  let x := s.car c
  x.stands || (x.prop.pstate == 1 && x.plan.vQ == 0 && decide ((x.pos.vQ.natAbs : Int) ≤ 5000 * oneQ))

/-- The plan's target is a landing's sill. -/
def State.aimsAt (s : State) (c i : Nat) : Bool :=
  let x := s.car c
  match x.plan.move with
  | some mv => mv.elem == x.pos.elem && mv.target == (s.sills x.pos.elem).getD i 0
  | none => roundQ x.plan.pQ == (s.sills x.pos.elem).getD i 0

/-- R274: PERMIT, PFLG and LANDING of a car. -/
def State.permitOf (s : State) (c : Nat) : Nat × Nat × Nat :=
  let x := s.car c
  match s.zoneOf c with
  | none => (0, 0, 0xFFFF)
  | some i =>
    let z := s.zone
    let v : Int := x.pos.vQ.natAbs
    let level := s.aimsAt c i && s.nearSill c i (Cfg.Zone.LEVZ z) && decide (v ≤ Cfg.Zone.LEVV z * oneQ)
    let pre := bit (Cfg.Zone.ZFLG z) 0 && s.aimsAt c i && decide (v ≤ Cfg.Zone.PREV z * oneQ) && decide (x.plan.a * x.pos.vQ ≤ 0)
    if s.standingCond c || level then (s.sidesAt x.pos.elem i, 2, i)
    else if pre then (s.sidesAt x.pos.elem i, 3, i)
    else (0, 2, i)

/-- R254: the permit records of a tick boundary. -/
def State.permitPass (s : State) : State :=
  s.carNums.foldl (fun s c =>
    if (s.car c).link && s.serves then
      let p := s.permitOf c
      s.modCar c fun x => { x with door := { x.door with permit := ⟨wrapAdd 16 x.door.permit.pseq 1, p.1, p.2.1, p.2.2, s.time.now⟩ } }
    else s) s

/-- R258: a new door request for a car: RSEQ rises, it stands in the record from now. -/
def State.askDoors (c dreq dflg width dwell act : Nat) (s : State) : State :=
  s.modCar c fun x => { x with door := { x.door with req := ⟨wrapAdd 16 x.door.req.rseq 1, dreq, dflg, width, dwell, act⟩ } }

/-! ## LANE: reports heard (R99, R173, R187, R412) -/

/-- R173: the reports of BRK[1] in a row during the apply sequence. -/
def Prop0.heard (brk : Nat) (p : Prop0) : Prop0 := match p.seq with
  | .applying n => { p with seq := .applying (if bit brk 1 then n + 1 else 0) }
  | _ => p

/-- R257: doors that have reported OPEN since they last reported LOCKED. -/
def sawOpen (old : List Bool) (doors : List Nat) : List Bool :=
  (List.range 8).map fun d => let st := doors.getD d 0xFF; st == 4 || (old.getD d false && st != 2)

/-- R257: a door that had reported OPEN reports LOCKED. -/
def cycled (old : List Bool) (doors : List Nat) : Bool := (List.range 8).any fun d => old.getD d false && doors.getD d 0xFF == 2

/-- R412, R411: a car's inspection byte; event source 0x09 on a change of inspection. -/
def State.hearInsp (c insp : Nat) (s : State) : State :=
  let old := (s.car c).svc.insp
  let s1 := s.modCar c fun x => { x with svc := { x.svc with insp := bit insp 0 } }
  if old = bit insp 0 then s1 else s1.fire 0x09 (tgtOf 8 c) 0 s1.startItems

/-- R99: a car report arrives; one that changes TQ[1], the door record or the inspection byte ends IDLE (R420). -/
def State.hearReport (c : Nat) (r : Report) (s : State) : State :=
  let s1 := s.modCar c fun x => { x with
    rep := some (r, s.time.now), repGap := 0, prop := x.prop.heard r.brk, door := { x.door with sawOpen := sawOpen x.door.sawOpen r.doors } }
  let news := match (s.car c).rep with
    | some (o, _) => bit o.tq 1 != bit r.tq 1 || o.doors != r.doors || o.insp != r.insp
    | none => true
  let s2 : State := if news then { s1 with power := { s1.power with idleSince := none } } else s1
  (s2.hearInsp c r.insp).unfault fun f => f.car == c && (f.code == 0x10 || (f.code == 0x11 && (s1.car c).doorsLocked))

/-- R277 0x10: no car report for 8 ticks. -/
def execCarReportTimeout (t car : Nat) (s : State) : Host.Outcome State Fault Refusal :=
  let s := s.advance t
  if s.boot.role == .lane && s.carNums.contains car && (s.car car).link && decide (8 ≤ (s.car car).repGap) then
    ok (s.fault 0x10 car (s.car car).pos.elem)
  else ok s

/-- BRKLIFT_TIMEOUT (R172 step 5): ACTION 1, the MOVE_TO ends ABORTED, event source 0x3B. -/
def execBrkliftTimeout (t car : Nat) (s : State) : Host.Outcome State Fault Refusal :=
  let s := s.advance t
  let x := s.car car
  match x.prop.seq with
  | .releasing due =>
    if due + 1000000 * Cfg.CarProp.BRKLIFT (s.carProp car) ≤ s.time.now ∧ !((x.rep.map fun p => bit p.1.brk 2).getD false) then
      let s1 := (s.endMove car 4 0x3024 s.time.now).modCar car fun y => { y with
        prop := { y.prop with seq := .applying 0, action := 1, actAt := s.time.now }, plan := { y.plan with mode := 0 } }
      ok (s1.fire 0x3B (tgtOf 8 car) 0 (trunkItems 0xFF 0xFFFF 0xFFFF car 2))
    else ok s
  | _ => ok s

/-- BRKENG_TIMEOUT (R173 step 4): event source 0x3B; the car stays held until the host acts. -/
def execBrkengTimeout (t car : Nat) (s : State) : Host.Outcome State Fault Refusal :=
  let s := s.advance t
  let x := s.car car
  match x.prop.seq with
  | .applying n =>
    if n = 0 ∧ x.prop.actAt + 1000000 * (Cfg.CarProp.BRKENG (s.carProp car) + 100) ≤ s.time.now then
      let s1 := s.modCar car fun y => { y with prop := { y.prop with seq := .heldFault, pstate := 1 }, brkLate := true }
      ok (s1.fire 0x3B (tgtOf 8 car) 0 (trunkItems 0xFF 0xFFFF 0xFFFF car 1))
    else ok s
  | _ => ok s

/-- R187: the held load, at a boundary at which the car stands. -/
def State.loadStep (c : Nat) (s : State) : State :=
  match (s.car c).rep with
  | some (r, _) => if bit r.lq 0 && s.standsOrHolds c then s.modCar c fun x => { x with prop := { x.prop with load := some r.loadKg } } else s
  | none => s

/-- R412: the inspection command of a car: +1 up, −1 down, 0 absent. -/
def State.inspCommand (s : State) (c : Nat) : Int := match (s.car c).rep with
  | some (r, at0) =>
    if s.time.now ≤ at0 + 2 * tickNs ∧ bit r.insp 3 then (if bit r.insp 1 && !bit r.insp 2 then 1 else if bit r.insp 2 && !bit r.insp 1 then -1 else 0)
    else 0
  | none => 0

/-- R413: inspection travel where the books are not rebuilt. -/
def State.inspAllowed (s : State) (c : Nat) : Bool :=
  let x := s.car c
  isLane x.pos.elem && (s.auth.rebuilt || (s.carsIn x.pos.elem).all fun d => decide (1 ≤ (s.car d).pos.trust))

/-- R412 at a boundary: hold-to-run travel, or an S1 stop; a reversed command plans through a standstill. -/
def State.inspStep (c : Nat) (s : State) : State :=
  let x := s.car c
  if !s.inspected c then s
  else
    let cmd := if s.inspAllowed c then s.inspCommand c else 0
    let lim := s.limits x.pos.elem
    let target := if 0 < cmd then lim.2 else lim.1
    match x.plan.move with
    | some mv =>
      if mv.kind = 5 ∧ cmd ≠ 0 ∧ mv.target = target then s
      else if mv.kind = 2 then s
      else s.modPlan c fun p => { p with stops := p.stops ++ [{ kind := .s1, tag := none, due := s.time.now }] }
    | none =>
      if cmd ≠ 0 ∧ x.plan.stop.isNone ∧ x.plan.standing then
        s.modPlan c fun p => { p with move := some { elem := x.pos.elem, target := target, kind := 5 }, target := target, limV := 0 }
      else s

/-! ## CAR: brakes (R171, R268) -/

/-- R171: release only on ACTION 2 with PSTATE 1, with no apply condition standing. -/
def State.mayLift (s : State) : Bool :=
  !s.safe.latch && (match s.crole.hold with
    | some m => m.pstate != 0
    | none => false) && decide (s.crole.lapse < Cfg.CarBrake.HOLDTO (s.one Cfg.CarBrake.sec Cfg.CarBrake.dflt))

/-- R171: the brakes are released. -/
def State.liftBrakes (s : State) : State :=
  if s.mayLift then { s with crole := { s.crole with applied := false, auto := false, releaseAt := none } }.driveSo 2 true else s

/-- A brake Milestone of the CAR device in place of those waiting. -/
def State.brakeMs (k : MsKind) (at0 : Nat) (s : State) : State :=
  { s with miles := (s.miles.filter fun m => m.kind != MsKind.brakeApply && m.kind != MsKind.brakeRelease) ++ [{ edge := edgeAt s.time.phase at0, cls := 3, kind := k }] }

/-- HOLD_MESSAGE (R170, R171): PSTATE 0 applies at once; ACTION 1 and 2 act at AT, apply before release. -/
def execHoldMessage (t : Nat) (msg : HoldMsg) (s : State) : Host.Outcome State Fault Refusal :=
  let s := s.advance t
  if s.boot.role ≠ .car then ok s
  else
    let s1 := { s with crole := { s.crole with hold := some msg, lapse := 0 } }
    if msg.pstate = 0 then ok ({ s1 with miles := s1.miles.filter fun m => m.kind != MsKind.brakeRelease }.applyBrakes false)
    else if msg.action = 1 then
      (if msg.act ≤ s.time.now then ok (s1.applyBrakes false) else ok (s1.brakeMs .brakeApply msg.act))
    else if msg.action = 2 ∧ msg.pstate = 1 then
      (if msg.act ≤ s.time.now then ok s1.liftBrakes
       else ok ({ (s1.brakeMs .brakeRelease msg.act) with crole := { s1.crole with releaseAt := some msg.act } }))
    else ok s1

/-- HOLDTO_LAPSE (R171): HOLDTO fast-tick boundaries without a valid hold message. -/
def execHoldtoLapse (t : Nat) (s : State) : Host.Outcome State Fault Refusal :=
  let s := s.advance t
  if s.boot.role == .car && decide (Cfg.CarBrake.HOLDTO (s.one Cfg.CarBrake.sec Cfg.CarBrake.dflt) ≤ s.crole.lapse) then
    ok ({ s with miles := s.miles.filter fun m => m.kind != MsKind.brakeRelease }.applyBrakes true)
  else ok s

/-! ## CAR: the report (R99, R170, R187, R257, R412) -/

def tbCode : TbState → Nat
  | .unset => 0
  | .free => 1
  | .acquiring => 2
  | .locked => 3
  | .holdover => 4

/-- The debounced level of a field input that a section names; none where it names none. -/
def State.fiActive (s : State) (n : Nat) : Bool := decide (n < 64) && (s.fi n).level

/-- R412: the inspection byte. -/
def State.inspByte (s : State) : Nat :=
  let r := s.one Cfg.Start.sec Cfg.Start.dflt
  b2n s.ownInsp + 2 * b2n (s.fiActive (Cfg.Start.INSPUP r)) + 4 * b2n (s.fiActive (Cfg.Start.INSPDN r)) + 8 * b2n (s.fiActive (Cfg.Start.INSPRUN r))

/-- BRK (R170). -/
def CarRole.brk (r : CarRole) : Nat := b2n r.applied + 2 * b2n r.swApplied + 4 * b2n r.swLifted + 8 * b2n r.auto

/-- R99: a tape reading of the CAR device: the coordinate by the track's tape record, the sample instant. -/
def State.tapeReading (s : State) (value sof : Nat) : Option (Nat × Int × Nat) :=
  let n := value / 2 ^ 28 % 16
  let e := n
  ((s.recs Cfg.Tape.sec).find? fun r => Cfg.Tape.ELEM r == e).map fun r =>
    (e, Cfg.Tape.OFFSET r + tdiv (((value % 2 ^ 28 : Nat) : Int) * Cfg.Tape.SCALE r) 1000, sof - Cfg.Tape.TAPELAT r)

/-- R277 0x12, 0x13: the tape moves from rest while the car stands braked, or runs above GEARV. -/
def State.tapeWatch (pos : Int) (ts : Nat) (s : State) : State :=
  let g := s.one Cfg.Gear.sec Cfg.Gear.dflt
  let c := s.ownCar
  let moved := match s.crole.restPos with
    | some p => decide ((Cfg.Gear.UCMD g : Int) < (pos - p).natAbs)
    | none => false
  let fast := match s.crole.lastTape with
    | some (p, t0) => decide (t0 < ts) && decide (Cfg.Gear.GEARV g * (ts - t0) < (pos - p).natAbs * 1000000000)
    | none => false
  let s1 := { s with crole := { s.crole with lastTape := some (pos, ts) } }
  let s2 := if moved then s1.fault 0x12 c 0xFF else s1
  if fast then s2.fault 0x13 c 0xFF else s2

/-- Take a reading of a tape point (0x20), or the vertical alignment of a 0x21 point, into the newest position record. -/
def State.takeTape (ty value sof : Nat) (s : State) : State :=
  let old : Report := s.crole.tape.getD ⟨0, 0, 0, 0, 0, 0, 0, 0, 0, [], 0⟩
  if ty = 0x20 then
    match s.tapeReading value sof with
    | some (e, p, ts) => ({ s with crole := { s.crole with tape := some { old with elem := e, tq := old.tq ||| 1, tpos := p, ts := ts } } }).tapeWatch p ts
    | none => { s with crole := { s.crole with tape := some { old with elem := value / 2 ^ 28 % 16, tq := clearBits old.tq 1, ts := sof } } }
  else
    match s.tapeReading value sof with
    | some (_, p, _) => { s with crole := { s.crole with tape := some { old with tq := old.tq ||| 4, tvpos := p } } }
    | none => { s with crole := { s.crole with tape := some { old with tq := clearBits old.tq 4 } } }

/-- DSTATE codes (R257). -/
def DState.code : DState → Nat
  | .unhomed => 0
  | .homing => 1
  | .locked => 2
  | .opening => 3
  | .opened => 4
  | .closing => 5
  | .reopening => 6
  | .nudging => 7
  | .stopped => 8
  | .fault => 9

/-- R99: the car report of a tick: newest reading, brakes, load, doors, inspection. The brake switches and the load cell
are free values (log 31). TQ[1] reads 1 while the brakes are commanded applied and BRK[1] stood in this and the last report. -/
def State.makeReport (s : State) : State :=
  let sw := Config.brakeSwitches s.free
  let ld := Config.loadCell s.free
  let old : Report := s.crole.tape.getD ⟨0, 0, 0, 0, 0, 0, 0, 0, 0, [], 0⟩
  let was := match s.crole.report with
    | some r => bit r.brk 1
    | none => false
  let cr := { s.crole with swApplied := sw.toNat % 2 == 1, swLifted := decide (2 ≤ sw.toNat) }
  let still := cr.applied && cr.swApplied && was
  let rep : Report := { old with
    tbState := tbCode s.time.tb
    tq := clearBits old.tq 2 + 2 * b2n still
    brk := cr.brk, loadKg := ld.toNat % 65536, lq := ld.toNat / 65536
    doors := (List.range 8).map fun d => if s.doorNums.contains d then (s.doors.getD d {}).st.code else 0xFF
    insp := s.inspByte }
  { s with
    free := s.free + 1
    crole := { cr with report := some rep, restPos := if still then some (cr.restPos.getD old.tpos) else none } }

end Sys2Proof.Machine
end

