-- ==== Sys2Proof/Machine/Alloc.lean ====
section
/-! DEFINITION. Movement authority (file 08: R205-R218, R413, R470): the books, the allocator pass, AUTH_READ, AUTH_CAR,
AUTH_CLOSE. -/

namespace Sys2Proof.Machine

/-- R205: OWNER codes. -/
def Owner.code : Owner → Nat
  | .car n => n
  | .unsettled => 0x1D
  | .closed => 0x1E
  | .free => 0x1F

/-! ## Books -/

def State.blk? (s : State) (b : Nat) : Option Blk := s.auth.blocks.find? fun x => x.id == b
def State.modBlk (b : Nat) (f : Blk → Blk) (s : State) : State :=
  { s with auth := { s.auth with blocks := s.auth.blocks.map fun x => if x.id = b then f x else x } }
def State.mapBlks (f : Blk → Blk) (s : State) : State := { s with auth := { s.auth with blocks := s.auth.blocks.map f } }
def State.modAuth (c : Nat) (f : CarAuth → CarAuth) (s : State) : State := s.modCar c fun x => { x with auth := f x.auth }
def State.chainOf (s : State) (c : Nat) : List Nat := (s.car c).auth.chain

/-- R232: payload of the class 0x5 events. -/
def authItems (car blk new : Nat) : List Byte := le 1 car ++ le 2 blk ++ le 1 new

/-- Near and far edge of a block in its element's direction of travel. -/
def State.nearEdge (s : State) (b : Blk) : Int := if 0 < s.elemDir b.elem then b.start else b.stop
def State.farEdge (s : State) (b : Blk) : Int := if 0 < s.elemDir b.elem then b.stop else b.start

/-- Blocks of an element in route order. -/
def State.elemBlocks (s : State) (e : Nat) : List Blk :=
  sortKey (fun b => s.elemDir e * b.start) (s.auth.blocks.filter fun b => b.elem == e)

/-- Blocks of an element that a stretch covers, in route order. -/
def State.covering (s : State) (e : Nat) (lo hi : Int) : List Blk :=
  (s.elemBlocks e).filter fun b => decide (b.start < hi) && decide (lo < b.stop)

/-- The books over the configured blocks, every one UNSETTLED (R208). -/
def State.openBooks (s : State) : State :=
  { s with
    auth := { s.auth with
      rebuilt := false, badBooks := false, rebuildDue := false
      blocks := s.blockCfgs.map fun r =>
        ({ id := Cfg.Block.BLOCK r, elem := Cfg.Block.ELEM r, start := Cfg.Block.START r, stop := Cfg.Block.END r, owner := .unsettled } : Blk) }
    cars := s.cars.map fun x => { x with auth := {} } }

/-- R215: the blocks a car needs, in route order. -/
def State.needs (s : State) (c : Nat) : List Nat :=
  let x := s.car c
  let p := roundQ x.pos.pQ
  let tm : Int := s.tailMargin
  (s.covering x.pos.elem (p - s.extDn c x.pos.elem - s.unc c - tm) (p + s.extUp c x.pos.elem + s.unc c + tm)).map (·.id)

/-- R215: rebuild the books, once every configured car is COARSE or better (log 32). A block two cars need stays UNSETTLED,
and both hold no chain; a block no car needs becomes FREE. -/
def State.rebuild (s : State) : State :=
  let s1 := s.openBooks
  if s1.carNums.all fun c => decide (1 ≤ (s1.car c).pos.trust) then
    let need := s1.carNums.map fun c => (c, s1.needs c)
    let users (b : Nat) : List Nat := (need.filter fun p => p.2.contains b).map (·.1)
    let placed (c : Nat) : Bool := ((need.find? fun p => p.1 == c).map (·.2)).getD [] |>.all fun b => (users b).length == 1
    let own (b : Nat) : Owner := match users b with
      | [] => .free
      | [c] => if placed c then .car c else .unsettled
      | _ => .unsettled
    let s2 := { s1 with auth := { s1.auth with rebuilt := true, blocks := s1.auth.blocks.map fun b => { b with owner := own b.id } } }
    need.foldl (fun s p => s.modAuth p.1 fun a => { a with chain := if placed p.1 then p.2 else [] }) s2
  else s1

/-- BOOKS_REBUILD (R470): the first boundary after the write at which every car stands braked. -/
def execBooksRebuild (t : Nat) (s : State) : Host.Outcome State Fault Refusal :=
  let s := s.advance t
  if s.boot.role == .lane && s.auth.rebuildDue && s.allStand then ok s.rebuild else ok s

/-! ## Route coordinates: distance along the route from the car's reference point, in µm -/

/-- The way on through elements: coordinate of `target` in the last of them. -/
def State.coordGo (s : State) (base entry : Int) (e : Nat) : List Nat → Int → Int
  | [], target => base + s.elemDir e * (target - entry)
  | n :: ns, target =>
    let j := s.joinOut e n
    let entry' := if isLane e then 0 else Cfg.Xing.TOJOIN (s.xingOf e)
    s.coordGo (base + (j - entry).natAbs) entry' n ns target

/-- Coordinate of a position of an element for a car; none where no route leads there. -/
def State.coord (s : State) (c elem : Nat) (pos : Int) : Option Int :=
  let x := (s.car c).pos
  (s.route x.elem elem).map fun r => s.coordGo 0 (roundQ x.pQ) x.elem r pos

def State.blkCoord (s : State) (c b : Nat) : Option Int := (s.blk? b).bind fun k => s.coord c k.elem (s.nearEdge k)

/-- The forward reach of a car in an element: extent and UNC in the direction of travel. -/
def State.fwd (s : State) (c e : Nat) : Int := s.reach c e (s.elemDir e)

/-! ## Demand (R212) -/

/-- The blocks to-lane side of a transfer group: what the extent covers at TOJOIN, widened by TAILMARGIN. -/
def State.groupAt (s : State) (c xe : Nat) : List Nat :=
  let g := s.xingOf xe
  let l := Cfg.Xing.TOLANE g
  let j := Cfg.Xing.TOJOIN g
  let tm : Int := s.tailMargin
  (s.elemBlocks xe).map (·.id) ++ (s.covering l (j - s.extDn c l - tm) (j + s.extUp c l + tm)).map (·.id)

/-- Items of a lane up to a furthest front. -/
def State.laneItems (s : State) (e : Nat) (front : Int) : List (List Nat) :=
  let d := s.elemDir e
  ((s.elemBlocks e).filter fun b => decide (d * s.nearEdge b < d * front)).map fun b => [b.id]

/-- The items of a route in order: each lane up to its standing front at FROMJOIN, or to the target's front; each Crossing
with its transfer group. -/
def State.routeItems (s : State) (c : Nat) (e : Nat) : List Nat → Int → List (List Nat)
  | [], target => if isLane e then s.laneItems e (target + s.elemDir e * s.fwd c e) else (s.elemBlocks e).map fun b => [b.id]
  | n :: ns, target =>
    (if isLane e then s.laneItems e (s.joinOut e n + s.elemDir e * s.fwd c e) ++ [s.groupAt c n] else (s.elemBlocks e).map fun b => [b.id])
      ++ s.routeItems c n ns target

/-- The target of a car: its move's, or where its stop ends; none where it stands with no move. -/
def State.goal (s : State) (c : Nat) : Option (Nat × Int) :=
  let x := s.car c
  match x.plan.move with
  | some mv => some (mv.elem, mv.target)
  | none => if x.plan.standing then none else some (x.pos.elem, roundQ x.plan.endQ)

/-- R212: whether a car has a claim list, and its target. -/
def State.claimGoal (s : State) (c : Nat) : Option (Nat × Int) :=
  let x := s.car c
  if x.pos.trust = 0 ∨ x.plan.stop = some .s2 ∨ x.plan.stop = some .s3 then none else s.goal c

/-- R212: the demand front as a route coordinate: the nearer of target front and look front; without a claim list the
present front. -/
def State.demandCoord (s : State) (c : Nat) : Int :=
  let x := s.car c
  let here := s.fwd c x.pos.elem
  match s.claimGoal c with
  | none => here
  | some (e, t) =>
    let svc := s.svcLim c
    let look := here + roundQ (stopDist svc ((svc.v : Int) * oneQ) 0) + Cfg.Authority.LOOKMARGIN s.authCfg
    match s.coord c e t with
    | some r => min (r + s.fwd c e) look
    | none => here

/-- The demand front as a position of the car's element. -/
def State.demandPos (s : State) (c : Nat) : Int :=
  let x := (s.car c).pos
  roundQ x.pQ + s.elemDir x.elem * s.demandCoord c

/-- Cut a list of items so that a chain keeps within its bound. -/
def cutItems (room : Nat) : List (List Nat) → List (List Nat)
  | [] => []
  | i :: is => if i.length ≤ room then i :: cutItems (room - i.length) is else []

/-- R212: the claim list of a car: the route's items after its head block, up to the demand front. -/
def State.claims (s : State) (c : Nat) : List (List Nat) :=
  match s.claimGoal c, (s.chainOf c).getLast? with
  | some (e, t), some head =>
    let x := s.car c
    match s.route x.pos.elem e with
    | none => []
    | some r =>
      let dc := s.demandCoord c
      let items := s.routeItems c x.pos.elem r t
      let after := ((items.dropWhile fun i => !i.contains head).map fun i => i.filter fun b => !(s.chainOf c).contains b).filter fun i => !i.isEmpty
      let near := after.takeWhile fun i => (i.head?.bind (s.blkCoord c)).any fun k => decide (k < dc)
      cutItems (Cfg.Authority.MAXCHAIN s.authCfg - (s.chainOf c).length) near
  | _, _ => []

/-! ## Release (R210, R211, R217) -/

/-- A token leaves a car: CLOSED where the closure was pending, else FREE. -/
def State.giveUp (b : Nat) (s : State) : State :=
  match s.blk? b with
  | none => s
  | some k =>
    if k.closeP then (s.modBlk b fun x => { x with owner := .closed, closeP := false }).fire 0x51 (tgtOf 4 b) 0 (authItems 0xFF b 0x1E)
    else s.modBlk b fun x => { x with owner := .free }

/-- R210: whether a tail block lies wholly behind the release line. -/
def State.behind (s : State) (c : Nat) (k : Blk) : Bool :=
  let x := (s.car c).pos
  let tm : Int := s.tailMargin
  let d := s.elemDir x.elem
  let line := x.pQ - d * (s.extDn c x.elem + s.unc c + tm) * oneQ
  if k.elem = x.elem then (if 0 < d then decide (k.stop * oneQ ≤ line) else decide (line ≤ k.start * oneQ))
  else if !isLane x.elem then Cfg.Xing.FROMLANE (s.xingOf x.elem) == k.elem && decide (0 ≤ line)
  else if !isLane k.elem then
    Cfg.Xing.TOLANE (s.xingOf k.elem) == x.elem && decide (0 ≤ d * (line - Cfg.Xing.TOJOIN (s.xingOf k.elem) * oneQ))
  else true

/-- R210: tail release of a car. -/
def State.tailGo (c : Nat) : List Nat → State → State
  | [], s => s
  | b :: bs, s =>
    match s.blk? b with
    | some k => if !bs.isEmpty && s.behind c k then State.tailGo c bs ((s.giveUp b).modAuth c fun a => { a with chain := a.chain.drop 1 }) else s
    | none => s

def State.tailRelease (c : Nat) (s : State) : State :=
  let x := s.car c
  if !x.plan.tailFrz.isEmpty || x.pos.trust == 0 || (isLane x.pos.elem && decide (x.pos.vQ * s.elemDir x.pos.elem < 0)) then s
  else s.tailGo c x.auth.chain

/-- R211: the blocks kept, from the head backwards. -/
def State.trimGo (c : Nat) (dc sc : Int) : List Nat → State → State
  | [], s => s
  | b :: bs, s =>
    if !bs.isEmpty && !((s.car c).plan.tailFrz.contains b) && (s.blkCoord c b).any fun k => decide (dc ≤ k) && decide (sc ≤ k) then
      State.trimGo c dc sc bs ((s.giveUp b).modAuth c fun a => { a with chain := a.chain.dropLast })
    else s

/-- R211: head trim of a car: blocks beyond the demand front and beyond the stop point's envelope. -/
def State.headTrim (c : Nat) (s : State) : State :=
  let x := s.car c
  if x.pos.trust = 0 then s
  else
    let stop := roundQ (s.elemDir x.pos.elem * (stopPoint (s.svcLim c) x.plan.mot - x.pos.pQ)) + s.fwd c x.pos.elem
    s.trimGo c (s.demandCoord c) stop x.auth.chain.reverse

/-- R217: what AUTH_CLOSE asks of the blocks of one command. -/
def State.closeStep (k : CloseCmd) (s : State) : State :=
  k.blocks.foldl (fun s b =>
    match s.blk? b with
    | none => s
    | some x =>
      if k.close then
        match x.owner with
        | .free => (s.modBlk b fun y => { y with owner := .closed }).fire 0x51 (tgtOf 4 b) 0 (authItems 0xFF b 0x1E)
        | .car _ => s.modBlk b fun y => { y with closeP := true }
        | _ => s
      else
        let s1 := s.modBlk b fun y => { y with closeP := false }
        if x.owner = .closed then (s1.modBlk b fun y => { y with owner := .free }).fire 0x51 (tgtOf 4 b) 0 (authItems 0xFF b 0x1F) else s1) s

/-- The blocks of a node. -/
def State.nodeBlocks (s : State) (t : Nat) : List Nat :=
  if tgtKind t = 4 then [tgtIdx t]
  else (s.blockCfgs.filter fun r => elemNode (Cfg.Block.ELEM r) == t).map Cfg.Block.BLOCK

/-- Whether a command's blocks are as asked (log 33). -/
def State.closeMet (s : State) (k : CloseCmd) : Bool := k.blocks.all fun b => match s.blk? b with
  | some x => if k.close then x.owner == .closed else x.owner != .closed && !x.closeP
  | none => (s.block? b).isNone

/-- AUTH_CLOSE commands whose blocks are as asked end DONE. -/
def State.closeEnds (s : State) : State :=
  let met := s.auth.closing.filter fun k => s.closeMet k
  met.foldl (fun s k => s.done k.tag (le 2 (s.nodeBlocks k.tag.tgt).length ++ zeros 2))
    { s with auth := { s.auth with closing := s.auth.closing.filter fun k => !s.closeMet k } }

/-! ## Arbitration (R213, R214, R218) -/

def State.blkAuth (s : State) (b : Nat) : Option (List Byte) := (s.recs Cfg.BlockAuth.sec).find? fun r => Cfg.BlockAuth.BLOCK r == b
def State.rank (s : State) (b : Nat) : Nat := ((s.blkAuth b).map Cfg.BlockAuth.RANK).getD 0x10000
def State.thru (s : State) (b : Nat) : Nat := ((s.blkAuth b).map Cfg.BlockAuth.THRU).getD 0xFFFF
def State.aging (s : State) (b : Nat) : Nat := ((s.blkAuth b).map Cfg.BlockAuth.AGING).getD 0

/-- One offer of a round: car, item, the block before it, the WAIT that counts for it. -/
structure Offer where
  car  : Nat
  item : List Nat
  prev : Nat
  wait : Nat
deriving DecidableEq, Repr

/-- The block before `b` on the offer's way. -/
def Offer.before (o : Offer) (b : Nat) : Nat := ((o.item.takeWhile fun x => x != b).getLast?).getD o.prev

/-- R214: class of a claim on a block. -/
def State.claimClass (s : State) (o : Offer) (b : Nat) : Nat :=
  if s.thru b = 0xFFFF ∨ s.thru b = o.before b then 2 else if s.aging b ≤ o.wait then 1 else 3

/-- R214: order of claims on a block; the lower wins. ROT is BOOT_TICKS modulo 24 (R432). -/
def State.claimKey (s : State) (o : Offer) (b : Nat) : Nat := 24 * s.claimClass o b + (o.car + 24 - s.boot.ticks % 2 ^ 32 % 24) % 24

def minOf : List Nat → Nat
  | [] => 0x10000
  | x :: xs => min x (minOf xs)

/-- The elements that form a loop with an element: each reaches the other. -/
def State.ringOf (s : State) (e : Nat) : List Nat := s.elems.filter fun t => (s.route e t).isSome && (s.route t e).isSome

/-- R218: footprint of a car in a loop. -/
def State.footprint (s : State) (loop : List Nat) (c : Nat) : Nat :=
  let lens := (s.blockCfgs.filter fun r => loop.contains (Cfg.Block.ELEM r)).map fun r => (Cfg.Block.END r - Cfg.Block.START r).toNat
  let bmin := lens.foldl min (2 ^ 31)
  let r := s.carPos c
  ceilDiv (Cfg.CarPos.EXTUP r + Cfg.CarPos.EXTDN r + 2 * (1000 * Cfg.CarPos.COARSEWIN r) + s.tailMargin) (max 1 bmin) + 1

/-- R218: the occupancy bound of a loop for a set of cars. -/
def State.occupancyOk (s : State) (loop : List Nat) (cs : List Nat) : Bool :=
  decide ((cs.map fun c => s.footprint loop c + 1).sum ≤ (s.blockCfgs.filter fun r => loop.contains (Cfg.Block.ELEM r)).length)

/-- Cars in a loop, or admitted to it. -/
def State.loopCars (s : State) (loop : List Nat) : List Nat :=
  s.carNums.filter fun c => loop.contains (s.car c).pos.elem || (s.chainOf c).any fun b => ((s.blk? b).map fun k => loop.contains k.elem).getD false

/-- R213: a transfer group is admitted only within the occupancy bound of its to-loop. -/
def State.admits (s : State) (o : Offer) : Bool :=
  match o.item.findSome? fun b => (s.blk? b).bind fun k => if isLane k.elem then none else some k.elem with
  | none => true
  | some xe =>
    let loop := s.ringOf (Cfg.Xing.TOLANE (s.xingOf xe))
    let cs := s.loopCars loop
    s.occupancyOk loop (if cs.contains o.car then cs else o.car :: cs)

/-- R213, R216: a block that may be granted now. -/
def State.grantable (s : State) (b : Nat) : Bool := match s.blk? b with
  | some k => k.owner == .free && !k.unpow && !k.removed && !k.closeP
  | none => false

/-- Whether an offer is granted among the offers of its round. -/
def State.wins (s : State) (os : List Offer) (o : Offer) : Bool :=
  o.item.all (fun b => s.grantable b && os.all fun p => p.car == o.car || !p.item.contains b || decide (s.claimKey o b < s.claimKey p b)) && s.admits o

/-- A granted item joins the chain. -/
def State.grantTo (o : Offer) (s : State) : State :=
  (s.mapBlks fun k => if o.item.contains k.id then { k with owner := .car o.car } else k).modAuth o.car fun a => { a with chain := a.chain ++ o.item }

/-- One round: items in ascending RANK of their lowest-ranked block; answers the cars that go on. -/
def State.round (os : List Offer) (s : State) : State × List Nat :=
  (sortKey (fun o => (minOf (o.item.map s.rank) : Nat)) os).foldl (fun p o =>
    let s1 := p.1.modAuth o.car fun a => { a with cls := p.1.claimClass o ((o.item.find? fun b => p.1.rank b == minOf (o.item.map p.1.rank)).getD 0) }
    if s1.wins os o then (s1.grantTo o, o.car :: p.2)
    else (s1.mapBlks fun k => if o.item.contains k.id then { k with claimed := true } else k, p.2)) (s, [])

/-- R213: the rounds. `act` are the cars still in, with the rest of their claim lists. -/
def State.rounds : Nat → List (Nat × List (List Nat)) → State → State
  | 0, _, s => s
  | n + 1, act, s =>
    let os := act.filterMap fun p => match p.2, (s.chainOf p.1).getLast? with
      | i :: _, some h => some ({ car := p.1, item := i, prev := h, wait := if (s.car p.1).auth.item = i then (s.car p.1).auth.wait else 0 } : Offer)
      | _, _ => none
    if os.isEmpty then s
    else
      let q := s.round os
      State.rounds n ((act.filter fun p => q.2.contains p.1).map fun p => (p.1, p.2.drop 1)) q.1

/-- R215: the first item of each car before the rounds. -/
def State.offerFirst (c : Nat) (s : State) : State :=
  let l := s.claims c
  let i := l.head?.getD []
  s.modAuth c fun a => { a with claims := l, item := i, wait := if a.item = i ∧ !i.isEmpty then a.wait else 0 }

/-- R215: WAIT after the rounds. -/
def State.countWait (c : Nat) (s : State) : State :=
  let a := (s.car c).auth
  if a.item.isEmpty then s
  else s.modAuth c fun a => { a with wait := if a.item.all fun b => a.chain.contains b then 0 else min 65535 (a.wait + 1) }

/-- R209 steps 3 and 4. -/
def State.arbitrate (s : State) : State :=
  let s1 := s.mapBlks fun k => { k with claimed := false }
  let s2 := s1.carNums.foldl (fun s c => s.offerFirst c) s1
  let s3 := if s2.auth.badBooks then s2 else s2.rounds 64 (s2.carNums.map fun c => (c, (s2.car c).auth.claims))
  s3.carNums.foldl (fun s c => s.countWait c) s3

/-! ## LOA and the recount (R206, R207, R413) -/

/-- R413: LOA of a car that moves while the books are not rebuilt. -/
def State.loaUnbuilt (s : State) (c : Nat) (d : Int) : Int :=
  let x := (s.car c).pos
  let tm : Int := s.tailMargin
  let lim := s.limits x.elem
  let others := (s.carsIn x.elem).filter fun k => k != c && decide (0 < d * ((s.car k).pos.pQ - x.pQ))
  let ends := others.map fun k =>
    let p := roundQ (s.car k).pos.pQ
    if 0 < d then p - s.extDn k x.elem - s.unc k - s.unc c - tm else p + s.extUp k x.elem + s.unc k + s.unc c + tm
  ends.foldl (fun a b => nearer d a b) (if 0 < d then lim.2 else lim.1)

/-- The direction in which a car travels or is about to: its plan's, or its target's. -/
def State.heading (s : State) (c : Nat) : Int :=
  let x := s.car c
  if x.plan.vQ ≠ 0 then isign x.plan.vQ else match x.plan.move with
    | some mv => isign (mv.target * oneQ - x.plan.pQ)
    | none => 0

/-- R206, R413: write LOA and LOAELEM of a car. -/
def State.writeLoa (c : Nat) (s : State) : State :=
  let x := s.car c
  let front := roundQ x.pos.pQ + s.elemDir x.pos.elem * s.fwd c x.pos.elem
  let a : Int × Nat × Int :=
    if s.auth.rebuilt then
      match (x.auth.chain.getLast?).bind s.blk? with
      | some k => (s.farEdge k, k.elem, s.elemDir x.pos.elem)
      | none => (front, x.pos.elem, 0)
    else
      let d := s.heading c
      if d = 0 then (front, x.pos.elem, 0) else (s.loaUnbuilt c d, x.pos.elem, d)
  (s.modPos c fun p => { p with loa := a.1, loaElem := a.2.1, loaDir := a.2.2 }).modAuth c fun y => { y with demand := s.demandPos c }

/-- R207: consecutive blocks of a chain touch along the route. -/
def State.touches (s : State) (a b : Nat) : Bool := match s.blk? a, s.blk? b with
  | some x, some y => if x.elem = y.elem then s.farEdge x == s.nearEdge y else (s.nexts x.elem).contains y.elem
  | _, _ => false

def State.contiguous (s : State) : List Nat → Bool
  | a :: b :: rest => s.touches a b && s.contiguous (b :: rest)
  | _ => true

/-- R207: the recount of the tokens from the owners and from the chains. -/
def State.booksOk (s : State) : Bool :=
  (s.auth.blocks.all fun k =>
    let holders := s.carNums.filter fun c => (s.chainOf c).contains k.id
    match k.owner with
    | .car c => holders == [c]
    | _ => holders.isEmpty)
    && s.carNums.all fun c => s.contiguous (s.chainOf c) && (s.chainOf c).all fun b => (s.blk? b).isSome

/-- R207: a mismatch: event source 0x52 and fault 0x0B. -/
def State.recount (s : State) : State :=
  if s.booksOk || s.auth.badBooks then s
  else (({ s with auth := { s.auth with badBooks := true } }).fire 0x52 (tgtOf 1 0) 0 (authItems 0xFF 0xFFFF 1)).fault 0x0B 0xFF 0xFF

/-- R277 0x0A: an unpowered block held ahead of a car that moves. -/
def State.aheadUnpowered (s : State) (c : Nat) : Bool :=
  let x := s.car c
  !x.stands && x.auth.chain.any fun b => ((s.blk? b).map (·.unpow)).getD false && (s.blkCoord c b).any fun k => decide (s.fwd c x.pos.elem ≤ k)

/-- R209: the allocator pass of a tick boundary; while the books are not rebuilt nothing is granted. -/
def State.allocate (s : State) : State :=
  if s.boot.role ≠ .lane ∨ s.boot.stage < 5 then s
  else
    let s0 := if s.auth.rebuilt then s else s.rebuild
    let s1 : State := { s0 with auth := { s0.auth with blocks := s0.markDark s0.auth.blocks } }
    let s2 := if s1.auth.rebuilt then
        let a := s1.carNums.foldl (fun s c => (s.tailRelease c).headTrim c) s1
        (a.auth.closing.foldl (fun s k => s.closeStep k) a).arbitrate
      else s1
    let s3 := s2.carNums.foldl (fun s c => s.writeLoa c) s2
    let s4 := if s3.auth.rebuilt then s3.recount else s3
    let s5 := s4.carNums.foldl (fun s c => if s.aheadUnpowered c then s.fault 0x0A c (s.car c).pos.elem else s) s4
    s5.closeEnds

/-- AGING_REACHED (R215): a WAIT has reached the AGING of a merge block of its item; event source 0x50. -/
def execAgingReached (t car : Nat) (s : State) : Host.Outcome State Fault Refusal :=
  let s := s.advance t
  let a := (s.car car).auth
  match a.item.find? fun b => s.thru b != 0xFFFF && s.aging b == a.wait with
  | some b => if a.wait = 0 then ok s else ok (s.fire 0x50 (tgtOf 4 b) 0 (authItems car b 1))
  | none => ok s

/-! ## Cards -/

/-- Longest WAIT on a block. -/
def State.waitOn (s : State) (b : Nat) : Nat :=
  s.carNums.foldl (fun m c => if (s.car c).auth.item.contains b then max m (s.car c).auth.wait else m) 0

def State.frozen (s : State) (b : Nat) : Bool := s.carNums.any fun c => (s.car c).plan.tailFrz.contains b

/-- AUTH_READ entry; a block outside the books reads UNSETTLED where configured, else OWNER 0xFF (log 34). -/
def State.authEntry (s : State) (b : Nat) : List Byte := match s.blk? b with
  | some k => le 1 k.owner.code ++ le 1 (b2n k.unpow + 2 * b2n (s.frozen b) + 4 * b2n k.closeP + 8 * b2n k.claimed) ++ le 2 (s.waitOn b)
  | none => le 1 (if (s.block? b).isSome then 0x1D else 0xFF) ++ zeros 3

def authReadOwn (_s : State) (_tr : TagRec) (d : List Byte) : Own := refuseIf (rd d 2 2 == 0 || decide (1000 < rd d 2 2)) 0xFF07

def authReadReply (s : State) (_tr : TagRec) (d : List Byte) : List Byte :=
  let bs := (List.range (rd d 2 2)).filterMap fun i => if rd d 0 2 + i < 8192 then some (rd d 0 2 + i) else none
  le 2 (s.auth.blocks.filter fun k => k.owner == .free).length ++ le 2 (s.auth.blocks.filter fun k => k.owner == .closed).length
    ++ le 2 bs.length ++ zeros 2 ++ bs.flatMap s.authEntry

def authReadCard : CardDef where
  k := { opc := 0x5001, role := 1, query := true, kinds := [1] }
  lenOk := lenIs 4
  own := authReadOwn
  eff := answer authReadReply

/-- AUTH_READ (R205). -/
def execAuthRead (h : Hdr) (data : List Byte) (s : State) : Host.Outcome State Fault Refusal := ok (runCard authReadCard h data s)

def authCarReply (s : State) (tr : TagRec) (_d : List Byte) : List Byte :=
  let x := s.car (tgtIdx tr.tgt)
  let a := x.auth
  le 2 (a.chain.head?.getD 0xFFFF) ++ le 2 (a.chain.getLast?.getD 0xFFFF) ++ le 2 a.chain.length
    ++ le 2 (if a.item.isEmpty then 0xFFFF else minOf a.item) ++ leS 4 x.pos.loa ++ le 1 x.pos.loaElem ++ le 1 a.cls ++ le 2 a.wait
    ++ leS 4 a.demand ++ le 1 (b2n (x.svc.mode != 0)) ++ zeros 3

def authCarCard : CardDef where
  k := { opc := 0x5002, role := 1, query := true, kinds := [8] }
  lenOk := lenIs 0
  eff := answer authCarReply

/-- AUTH_CAR (R206). -/
def execAuthCar (h : Hdr) (data : List Byte) (s : State) : Host.Outcome State Fault Refusal := ok (runCard authCarCard h data s)

def authCloseOwn (_s : State) (_tr : TagRec) (d : List Byte) : Own := refuseIf (decide (1 < rd d 0 1)) 0xFF07

/-- R217: the request; a newer one takes its blocks over from an older. -/
def authCloseEff (tr : TagRec) (d : List Byte) (s : State) : State :=
  let bs := s.nodeBlocks tr.tgt
  { s with auth := { s.auth with closing :=
      (s.auth.closing.map fun k => { k with blocks := k.blocks.filter fun b => !bs.contains b })
        ++ [{ tag := tr, close := rd d 0 1 == 1, blocks := bs }] } }

def authCloseCard : CardDef where
  k := { opc := 0x5003, role := 1, query := false, kinds := [2, 3, 4], lead := some 250000 }
  lenOk := lenIs 4
  own := authCloseOwn
  eff := authCloseEff

/-- AUTH_CLOSE (R217). -/
def execAuthClose (h : Hdr) (data : List Byte) (s : State) : Host.Outcome State Fault Refusal := ok (runCard authCloseCard h data s)

end Sys2Proof.Machine
end

