-- ==== Sys2Proof/Machine/Can.lean ====
section
/-! DEFINITION. CAN FD channels (file 12): states, object store, transmit queue, contests, references, sleep. -/

namespace Sys2Proof.Machine

/-! ## The object store (R309-R313) -/

/-- R309: the index of an identifier. -/
def State.objIdx (s : State) (ch id : Nat) (ext : Bool) : Option Nat :=
  if ext then ((s.extRecs ch).findIdx? fun r => Cfg.CanRxObj.ID r % 2 ^ 29 == id).map (· + 2048)
  else some (id % 2048)

def Can.obj (c : Can) (idx : Nat) : CanObj := (c.objs.find? fun o => o.idx == idx).getD { idx := idx }

def Can.putObj (c : Can) (o : CanObj) : Can := { c with objs := (c.objs.filter fun x => x.idx != o.idx) ++ [o] }

/-- Points a device function reads (R311): tape, Waymarks, lock points, step inputs. -/
def State.fnPoints (s : State) : List Nat :=
  (s.ptRecs.filter fun r => ptType r == 0x20 || ptType r == 0x21).map ptIdx
    ++ ((s.recs Cfg.Waymark.sec).filter fun r => Cfg.Waymark.SRCK r == 1).map Cfg.Waymark.SRC
    ++ ((s.recs Cfg.LandLock.sec).filter fun r => Cfg.LandLock.LSRCK r == 1).map Cfg.LandLock.LSRC
    ++ ((s.recs Cfg.StepIn.sec).filter fun r => Cfg.StepIn.SRCK r == 2).flatMap fun r => [Cfg.StepIn.STEP r, Cfg.StepIn.DIR r]

/-- R311: an object read by a device function is taken at storage. -/
def State.fnTakes (s : State) (ch idx : Nat) : Bool :=
  (s.fnPoints.any fun p => ((s.point? p).map fun r => ptSource r == objSource ch idx && ptType r != 0x80 && ptType r != 0x81).getD false)
    || (s.recs Cfg.Source.sec).any fun r => Cfg.Source.KIND r == 0 && Cfg.Source.CHAN r == ch && Cfg.Source.SRC r != 0
        && s.objIdx ch (Cfg.Source.ID r % 2 ^ 29) (bit (Cfg.Source.ID r) 30) == some idx

/-- Data bytes of a DLC, as ISO CAN FD codes them. -/
def dlcLen (d : Nat) : Nat := if d ≤ 8 then d else [12, 16, 20, 24, 32, 48, 64].getD (d - 9) 0

/-- R310, R311: an object after storing a frame. -/
def storedObj (o : CanObj) (id : Nat) (fr : CanRx) (wake taken : Bool) : CanObj :=
  let lost := bit o.flags 8 && !taken
  { idx := o.idx, id := id, dlc := fr.dlc, stamp := if wake then fr.sof / 1000 * 1000 else fr.sof
    flags := 1 + 2 * b2n (lost || (bit o.flags 1 && !taken)) + 4 * b2n fr.fd + 8 * b2n fr.brs + 16 * b2n fr.esi + 32 * b2n fr.rtr + 64 * b2n wake + 256 * b2n (!taken)
    ovw := if lost then min 255 (o.ovw + 1) else if taken then 0 else o.ovw
    data := (fr.data.take (dlcLen fr.dlc) ++ zeros 64).take 64 }

/-- Store a frame whole in its object (R311), and bring its points up to date. -/
def State.storeFrame (ch idx : Nat) (fr : CanRx) (wake : Bool) (s : State) : State :=
  let o := (s.chan ch).obj idx
  let taken := s.fnTakes ch idx
  let lost := bit o.flags 8 && !taken
  let o1 := storedObj o (fr.id % 2 ^ 29 + 2 ^ 30 * b2n fr.ext) fr wake taken
  let s1 := s.modCan ch fun c =>
    { c.putObj o1 with rxFr := wrapAdd 32 c.rxFr 1, lostCnt := if lost then wrapAdd 32 c.lostCnt 1 else c.lostCnt }
  let s2 := if lost && !bit o.flags 1 then s1.canFire 0x92 ch fr.id else s1
  s2.feedObj ch o1

/-! ## Transmit objects and the queue (R314-R318) -/

/-- A host transmit object's record. -/
def State.hostTx (s : State) (ch id : Nat) (ext : Bool) : Option (List Byte) :=
  (s.recs Cfg.CanTxObj.sec).find? fun r => Cfg.CanTxObj.CH r == ch && Cfg.CanTxObj.ID r % 2 ^ 29 == id && bit (Cfg.CanTxObj.TFLG r) 0 == ext

def State.refOf (s : State) (ch : Nat) : CanRef := s.time.cfg.canRef.getD ch {}

/-- R314: an identifier of a function object: ANSID of a CAN source, an enabled reference's SYNC and FOLLOW. -/
def State.refTx (s : State) (ch id : Nat) (ext : Bool) : Bool :=
  (s.refOf ch).en && (s.refOf ch).ext == ext && ((s.refOf ch).id == id || (s.refOf ch).id + 1 == id)

def State.ansTx (s : State) (ch id : Nat) (ext : Bool) : Bool :=
  (s.recs Cfg.Source.sec).any fun r => Cfg.Source.KIND r == 0 && Cfg.Source.SRC r != 0 && Cfg.Source.CHAN r == ch
    && Cfg.Source.ANSID r % 2 ^ 29 == id && bit (Cfg.Source.ANSID r) 30 == ext

def State.isTx (s : State) (ch id : Nat) (ext : Bool) : Bool := (s.hostTx ch id ext).isSome || s.refTx ch id ext || s.ansTx ch id ext

def Can.tx (c : Can) (id : Nat) (ext : Bool) : TxObj := (c.txObjs.find? fun o => o.id == id && o.ext == ext).getD { id := id, ext := ext }

def Can.putTx (c : Can) (o : TxObj) : Can :=
  { c with txObjs := (c.txObjs.filter fun x => !(x.id == o.id && x.ext == o.ext)) ++ [o] }

/-- Arbitration order: base identifier, base format first, then the rest, then order of queueing (R315). -/
def TxFrame.key (f : TxFrame) : Nat :=
  (if f.ext then (f.id / 2 ^ 18 * 2 + 1) * 2 ^ 18 + f.id % 2 ^ 18 else f.id * 2 * 2 ^ 18) * 2 ^ 32 + f.order

/-- Whether a frame's object is withheld by a back-off (R318). -/
def Can.withheld (c : Can) (now : Nat) (f : TxFrame) : Bool :=
  match (c.tx f.id f.ext).until0 with
  | some t => decide (now < t)
  | none => false

def winnerOf : List TxFrame → Option TxFrame
  | [] => none
  | f :: fs => match winnerOf fs with
    | none => some f
    | some g => if f.key ≤ g.key then some f else some g

/-- R315: the waiting frame that would win arbitration. -/
def Can.winner (c : Can) (now : Nat) : Option TxFrame := winnerOf (c.txq.filter fun f => !c.withheld now f)

/-- R315: a new frame for an object replaces the one waiting; a replaced CAN_SEND ends ABORTED with 0x9022. -/
def State.queueTx (ch : Nat) (f : TxFrame) (s : State) : State :=
  let same := fun (g : TxFrame) => g.id == f.id && g.ext == f.ext
  let old := (s.chan ch).txq.filter same
  let s1 := s.modCan ch fun c => { c with txq := (c.txq.filter fun g => !same g) ++ [{ f with order := c.order }], order := c.order + 1 }
  old.foldl (fun (s : State) g => match g.kind with | .host tr => s.abort tr 0x9022 | _ => s) s1

/-- R317, R318: a contest on a transmit object: counted, reported, its object backed off. -/
def State.contest (ch id : Nat) (ext : Bool) (data : List Byte) (s : State) : State :=
  let c := s.chan ch
  let o := c.tx id ext
  let fresh := decide (o.lastContest + 60000000000 < s.time.now) || o.backoff == 0
  let s1 := s.modCan ch fun c => { c with contest := wrapAdd 32 c.contest 1 }
  if s.refTx ch id ext then
    let n := if fresh then 1 else min 8 (2 * o.backoff)
    (s1.modCan ch fun c => c.putTx { o with backoff := n, skip := n, lastContest := s.time.now }).canFire 0x15 ch id
  else
    let r := (s.hostTx ch id ext).getD Cfg.CanTxObj.dflt
    let b := if fresh then Cfg.CanTxObj.BOFFT r else min (Cfg.CanTxObj.BOFFMAX r) (2 * o.backoff)
    let s2 := s1.modCan ch fun c => c.putTx
      { o with backoff := b, lastContest := s.time.now, until0 := if Cfg.CanTxObj.BOFFT r = 0 then none else some (s.time.now + b * 1000000) }
    s2.fire 0x93 0 0 (s2.canItems ch id ++ (data ++ zeros 8).take 8)

/-- R318: the end of a back-off. -/
def execBackoffExpiry (t ch id : Nat) (s : State) : Host.Outcome State Fault Refusal :=
  let s := s.advance t
  ok (s.modCan ch fun c => { c with txObjs := c.txObjs.map fun o =>
    if o.id = id then { o with until0 := o.until0.filter fun u => decide (s.time.now < u) } else o })

/-! ## Receiving (R307, R308, R311, R317) -/

/-- R308, R307: a valid frame is received: error runs end, DETECT counts it, VERIFY leaves for ACTIVE, REC falls as the
standard defines (a REC above 127 to a value from 119 to 127 that the standard leaves open, log 6). -/
def State.validFrame (ch : Nat) (s : State) : State :=
  let c := s.chan ch
  let low := if 127 < c.recv then 119 + (s.takeFree.1.toNat % 9) else c.recv - 1
  let s0 := if 127 < c.recv then s.takeFree.2 else s
  let s1 := s0.modCan ch fun c => { c with errRun := 0, valid := c.valid + 1, recv := low }
  match c.st with
  | .detect => if 2 ≤ c.valid + 1 then s1.setCan ch .active else s1
  | .verify => s1.setCan ch .active
  | .passive => if c.tec < 128 ∧ low < 128 then s1.setCan ch .active else s1
  | _ => s1

/-- R302, R306: a channel takes frames in the states that receive; one with CFLG[1] clear lets FD frames pass. -/
def State.hears (s : State) (ch : Nat) (fr : CanRx) : Bool :=
  (s.chan ch).st.receives && (!fr.fd || bit (Cfg.CanCh.CFLG (s.canRec ch)) 1)

/-- R311, R313, R317: what a received frame does to the store: a transmit object's frame is a contest or nothing, an
extended frame without a record is counted, a frame on a full queue is discarded. -/
def State.takeFrame (ch : Nat) (fr : CanRx) (s : State) : State :=
  if !s.hears ch fr then s
  else if fr.full then s.canFire 0x97 ch fr.id
  else
    let s1 := s.validFrame ch
    if s.isTx ch fr.id fr.ext then
      (if ((s.chan ch).tx fr.id fr.ext).last == some (fr.dlc, fr.data) then s1 else s1.contest ch fr.id fr.ext fr.data)
    else match s.objIdx ch fr.id fr.ext with
      | none => (s1.modCan ch fun c => { c with unmatched := min 65535 (c.unmatched + 1) }).canFire 0x95 ch fr.id
      | some idx => s1.storeFrame ch idx fr false

/-- R312: STALET has passed since an object's last store. -/
def execStaletExpiry (t ch idx : Nat) (s : State) : Host.Outcome State Fault Refusal :=
  let s := s.advance t
  let o := (s.chan ch).obj idx
  let rr := (s.recs Cfg.CanRxObj.sec).find? fun r => Cfg.CanRxObj.CH r == ch
    && s.objIdx ch (Cfg.CanRxObj.ID r % 2 ^ 29) (bit (Cfg.CanRxObj.ID r) 30) == some idx
  let st := (rr.map Cfg.CanRxObj.STALET).getD 0
  if st = 0 || !bit o.flags 0 || decide (s.time.now < o.stamp + st * 1000000) then ok s
  else
    let o1 := { o with flags := o.flags ||| 128 }
    ok ((s.modCan ch fun c => c.putObj o1).feedObj ch o1)

/-! ## Errors and bus-off (R302, R307, R308) -/

/-- R302, R307, R317: a frame or bit error, with TEC and REC after it as the standard defines. -/
def execCanBusError (t ch : Nat) (err : CanErr) (s : State) : Host.Outcome State Fault Refusal :=
  let s := s.advance t
  let c := s.chan ch
  if c.st == .off || c.st == .asleep || c.st == .mismatch then ok s
  else
    let s1 := s.modCan ch fun c =>
      { c with tec := err.tec, recv := err.recv, errFr := wrapAdd 32 c.errFr 1, lastErr := err.code, errRun := c.errRun + 1, dirty := true }
    let s2 := match c.st with
      | .active => if 128 ≤ err.tec ∨ 128 ≤ err.recv then s1.setCan ch .passive else s1
      | .passive => if err.tec < 128 ∧ err.recv < 128 then s1.setCan ch .active else s1
      | _ => s1
    match err.contest, c.winner s.time.now with
    | true, some f => if c.st.sends then ok (s2.contest ch f.id f.ext []) else ok s2
    | _, _ => ok s2

/-- R308: TEC exceeds 255: BUSOFF, the queue held. -/
def execBusOff (t ch : Nat) (s : State) : Host.Outcome State Fault Refusal :=
  let s := s.advance t
  if (s.chan ch).st.sends then
    ok ((s.modCan ch fun c => { c with busOffs := wrapAdd 16 c.busOffs 1, tec := 256 }).setCan ch .busOff)
  else ok s

/-- R308: 128 × 11 recessive bits: VERIFY, with the error counters at zero as the standard defines. -/
def execBusOffRecovery (t ch : Nat) (s : State) : Host.Outcome State Fault Refusal :=
  let s := s.advance t
  if (s.chan ch).st = .busOff then
    ok ((s.modCan ch fun c => { c with tec := 0, recv := 0 }).setCan ch .verify)
  else ok s

/-- R308: VERIFYT without a frame error. -/
def execVerifytExpiry (t ch : Nat) (s : State) : Host.Outcome State Fault Refusal :=
  let s := s.advance t
  if (s.chan ch).st = .verify ∧ (s.chan ch).errRun = 0 then ok (s.setCan ch .active) else ok s

/-- R307: DETWAIT without an error detected since DETECT began. -/
def execDetwaitExpiry (t ch : Nat) (s : State) : Host.Outcome State Fault Refusal :=
  let s := s.advance t
  if (s.chan ch).st = .detect ∧ (s.chan ch).dirty = false then ok (s.setCan ch .active) else ok s

/-- R307: 16 frame errors without a valid frame: MISMATCH, DETBIT measured; event source 0x91. -/
def execRateMismatch (t ch detbit : Nat) (s : State) : Host.Outcome State Fault Refusal :=
  let s := s.advance t
  let c := s.chan ch
  if (c.st == .detect || c.st == .verify) && decide (16 ≤ c.errRun) then
    ok (((s.modCan ch fun c => { c with detBit := detbit }).setCan ch .mismatch).canFire 0x91 ch 0xFFFFFFFF)
  else ok s

/-! ## Sending (R315, R319) -/

/-- R78: the FOLLOW frame of a SYNC sent at `sof`. -/
def State.follow (s : State) (ch seq8 sof : Nat) : TxFrame :=
  let r := s.refOf ch
  let data := if r.fd then le 1 seq8 ++ le 1 (match s.time.tb with | .unset => 0 | .free => 1 | .acquiring => 2 | .locked => 3 | .holdover => 4)
      ++ zeros 2 ++ le 8 sof
    else le 1 seq8 ++ le 7 sof
  { id := r.id + 1, ext := r.ext, fd := r.fd, dlc := if r.fd then 9 else 8, data := data, kind := .follow seq8 }

/-- R315: the frame being sent is acknowledged. -/
def execCanTransmitDone (t ch sof tries : Nat) (s : State) : Host.Outcome State Fault Refusal :=
  let s := s.advance t
  let c := s.chan ch
  match c.winner s.time.now with
  | none => ok s
  | some f =>
    if !c.st.sends || s.standby then ok s
    else
      let s1 := s.modCan ch fun c =>
        { c.putTx { c.tx f.id f.ext with last := some (f.dlc, f.data) } with
          txq := c.txq.filter fun g => g != f, txFr := wrapAdd 32 c.txFr 1, tec := c.tec - 1 }
      let s2 := if c.st = .passive ∧ c.tec - 1 < 128 ∧ c.recv < 128 then s1.setCan ch .active else s1
      match f.kind with
      | .host tr => ok (s2.done tr (le 8 sof ++ le 1 (satN 8 tries) ++ zeros 3))
      | .sync q => ok (s2.queueTx ch (s2.follow ch q sof))
      | _ => ok s2

/-- R315: EXPIRE passes before a waiting frame is sent. -/
def execCanExpire (t ch id : Nat) (s : State) : Host.Outcome State Fault Refusal :=
  let s := s.advance t
  let gone := (s.chan ch).txq.filter fun f => f.id == id && f.expire != 0 && decide (f.expire ≤ s.time.now)
  let s1 := s.modCan ch fun c => { c with txq := c.txq.filter fun f => !gone.contains f }
  ok (gone.foldl (fun (s : State) f => (match f.kind with | .host tr => s.abort tr 0x9020 | _ => s).canFire 0x96 ch f.id) s1)

/-- R81, R319: a reference falls due: its SYNC is queued in place of an unsent one; a waiting FOLLOW is withdrawn. -/
def execReferenceDue (t ch : Nat) (s : State) : Host.Outcome State Fault Refusal :=
  let s := s.advance t
  let r := s.refOf ch
  let c := s.chan ch
  if !r.en || s.time.tb == .unset || s.standby || c.st == .off || c.st == .asleep || c.st == .listen || c.st == .mismatch then ok s
  else
    let o := c.tx r.id r.ext
    let s1 := s.modCan ch fun c => { c with refDue := s.time.now + r.period * 1000000 }
    if 0 < o.skip then ok (s1.modCan ch fun c => c.putTx { o with skip := o.skip - 1 })
    else
      let unsent := c.txq.any fun f => f.id == r.id && f.ext == r.ext
      let q := wrapAdd 8 c.seq8 1
      let s2 := s1.modCan ch fun c => { c with seq8 := q, txq := c.txq.filter fun f => !(f.id == r.id + 1 && f.ext == r.ext) }
      let s3 := s2.queueTx ch { id := r.id, ext := r.ext, fd := r.fd, dlc := 1, data := le 1 q, kind := .sync q }
      ok (if unsent then s3.canFire 0x15 ch r.id else s3)

/-! ## Commands -/

def canEnabled (s : State) (ch : Nat) : Bool := decide (ch < 6) && bit (Cfg.CanCh.CFLG (s.canRec ch)) 0

/-- Bit rate of R304. -/
def canRate (brp tseg1 tseg2 : Nat) : Nat := if brp = 0 then 0 else 80000000 / (brp * (1 + tseg1 + tseg2))

def State.nrate (s : State) (ch : Nat) : Nat := let r := s.canRec ch; canRate (Cfg.CanCh.NBRP r) (Cfg.CanCh.NTSEG1 r) (Cfg.CanCh.NTSEG2 r)
def State.drate (s : State) (ch : Nat) : Nat :=
  let r := s.canRec ch
  if bit (Cfg.CanCh.CFLG r) 1 then canRate (Cfg.CanCh.DBRP r) (Cfg.CanCh.DTSEG1 r) (Cfg.CanCh.DTSEG2 r) else 0

/-- CAN_STATUS's reply. -/
def canStatusReply (s : State) (_tr : TagRec) (d : List Byte) : List Byte :=
  let ch := rd d 0 1
  let c := s.chan ch
  le 1 ch ++ le 1 c.st.code ++ le 1 (satN 8 c.tec) ++ le 1 (satN 8 c.recv) ++ le 4 (s.nrate ch) ++ le 4 (s.drate ch)
    ++ le 4 (if c.st = .mismatch then c.detBit else 0) ++ le 4 c.rxFr ++ le 4 c.txFr ++ le 4 c.errFr ++ le 4 c.lostCnt
    ++ le 4 c.contest ++ le 2 c.busOffs ++ le 2 c.txq.length ++ le 2 c.unmatched ++ le 1 c.lastErr ++ zeros 1

def canStatusCard : CardDef where
  k := { opc := 0x9001, role := 3, query := true, kinds := [0] }
  lenOk := lenIs 4
  own := fun s _ d => refuseIf (!canEnabled s (rd d 0 1)) 0x9010
  eff := answer canStatusReply

/-- CAN_STATUS (R306). -/
def execCanStatus (h : Hdr) (data : List Byte) (s : State) : Host.Outcome State Fault Refusal := ok (runCard canStatusCard h data s)

/-- CAN_SEND's checks. -/
def canSendOwn (s : State) (_tr : TagRec) (d : List Byte) : Own :=
  let ch := rd d 0 1
  let fl := rd d 1 1
  let id := rd d 4 4 % 2 ^ 29
  let ext := bit fl 0
  firstOf [
    refuseIf (!canEnabled s ch) 0x9010,
    refuseIf (s.refTx ch id ext || s.ansTx ch id ext) 0x9012,
    refuseIf (match s.hostTx ch id ext with | none => true | some r => Cfg.CanTxObj.TFLG r % 8 != fl) 0x9011,
    refuseIf ((decide (8 < rd d 2 1) && !bit fl 1) || (bit fl 1 && !bit (Cfg.CanCh.CFLG (s.canRec ch)) 1)) 0x9013,
    refuseIf ([CanSt.asleep, .listen, .mismatch].contains (s.chan ch).st) 0x9014]

/-- R315: the frame enters the queue. -/
def canSendEff (tr : TagRec) (d : List Byte) (s : State) : State :=
  let fl := rd d 1 1
  let e := rd d 8 4
  s.queueTx (rd d 0 1) { id := rd d 4 4 % 2 ^ 29, ext := bit fl 0, fd := bit fl 1, brs := bit fl 2, dlc := rd d 2 1, data := d.drop 12,
                         expire := if e = 0 then 0 else s.time.now + e * 1000, kind := .host tr }

def canSendCard : CardDef where
  k := { opc := 0x9002, role := 3, query := false, kinds := [0], lead := some 250000 }
  lenOk := fun d => decide (12 ≤ d.length) && decide (rd d 2 1 ≤ 15) && d.length == 12 + dlcLen (rd d 2 1)
  own := canSendOwn
  eff := canSendEff

/-- CAN_SEND (R315). -/
def execCanSend (h : Hdr) (data : List Byte) (s : State) : Host.Outcome State Fault Refusal := ok (runCard canSendCard h data s)

/-- R310: the 80 bytes of an object. -/
def CanObj.bytes (o : CanObj) : List Byte :=
  le 4 o.id ++ le 2 o.flags ++ le 1 o.dlc ++ le 1 o.ovw ++ le 8 o.stamp ++ (o.data ++ zeros 64).take 64

def canReadReply (s : State) (_tr : TagRec) (d : List Byte) : List Byte :=
  let ch := rd d 0 1
  le 1 ch ++ zeros 1 ++ le 2 (rd d 4 2) ++ ((List.range (rd d 4 2)).map fun i => ((s.chan ch).obj (rd d 2 2 + i)).bytes).flatten

def canReadOwn (s : State) (_tr : TagRec) (d : List Byte) : Own :=
  firstOf [refuseIf (!canEnabled s (rd d 0 1)) 0x9010,
    refuseIf (decide (6144 < rd d 2 2 + rd d 4 2)) 0x9015,
    refuseIf (rd d 4 2 == 0 || decide (50 < rd d 4 2)) 0xFF07]

def canReadCard : CardDef where
  k := { opc := 0x9003, role := 3, query := true, kinds := [0] }
  lenOk := lenIs 8
  own := canReadOwn
  eff := answer canReadReply

/-- CAN_READ (R311). -/
def execCanRead (h : Hdr) (data : List Byte) (s : State) : Host.Outcome State Fault Refusal := ok (runCard canReadCard h data s)

/-- R311: a take clears UNREAD, LOST and OVW. -/
def CanObj.taken (o : CanObj) : CanObj := { o with flags := clearBits o.flags 0x102, ovw := 0 }

def canTakeEff (tr : TagRec) (d : List Byte) (s : State) : State :=
  let ch := rd d 0 1
  let reply := canReadReply s tr d
  let hit := fun (o : CanObj) => decide (rd d 2 2 ≤ o.idx) && decide (o.idx < rd d 2 2 + rd d 4 2)
  let s1 := s.modCan ch fun c => { c with objs := c.objs.map fun o => if hit o then o.taken else o }
  let s2 := ((s1.chan ch).objs.filter hit).foldl (fun (s : State) o => s.feedObj ch o) s1
  s2.done tr reply

def canTakeCard : CardDef where
  k := { opc := 0x9004, role := 3, query := false, kinds := [0] }
  lenOk := lenIs 8
  own := canReadOwn
  eff := canTakeEff

/-- CAN_TAKE (R311). -/
def execCanTake (h : Hdr) (data : List Byte) (s : State) : Host.Outcome State Fault Refusal := ok (runCard canTakeCard h data s)

/-! ## Sleep and wake (R320, R321) -/

def canPowerOwn (s : State) (_tr : TagRec) (d : List Byte) : Own :=
  let asleep := (s.chan (rd d 0 1)).st == .asleep
  firstOf [refuseIf (!canEnabled s (rd d 0 1)) 0x9010,
    refuseIf (if rd d 1 1 = 0 then !asleep else asleep || (s.chan (rd d 0 1)).sleeping.isSome) 0x9016,
    refuseIf (decide (1 < rd d 1 1)) 0xFF07]

/-- R321: leave ASLEEP: event source 0x94, then DETECT or ACTIVE. -/
def State.wakeCan (ch id : Nat) (s : State) : State :=
  (s.canFire 0x94 ch id).setCan ch (canStartState (s.canRec ch))

/-- R320: every waiting frame is discarded; a CAN_SEND ends ABORTED with 0x9023. -/
def State.dropQueue (ch : Nat) (s : State) : State :=
  (s.chan ch).txq.foldl (fun (s : State) f => match f.kind with | .host t => s.abort t 0x9023 | _ => s) (s.modCan ch fun c => { c with txq := [] })

def canPowerEff (tr : TagRec) (d : List Byte) (s : State) : State :=
  let ch := rd d 0 1
  if rd d 1 1 = 0 then
    let s1 := s.wakeCan ch 0xFFFFFFFF
    s1.done tr (le 1 (s1.chan ch).st.code ++ zeros 3)
  else
    (s.modCan ch fun c => { c with sleeping := some tr, prev := c.st }).dropQueue ch

def canPowerCard : CardDef where
  k := { opc := 0x9005, role := 3, query := false, kinds := [0] }
  lenOk := lenIs 4
  own := canPowerOwn
  eff := canPowerEff

/-- CAN_POWER (R320). -/
def execCanPower (h : Hdr) (data : List Byte) (s : State) : Host.Outcome State Fault Refusal := ok (runCard canPowerCard h data s)

/-- R320: after 11 recessive bits the transceiver is in low-power mode: ASLEEP, DONE; what was queued meanwhile is discarded,
too. -/
def execSleepEntry (t ch : Nat) (s : State) : Host.Outcome State Fault Refusal :=
  let s := s.advance t
  match (s.chan ch).sleeping with
  | none => ok s
  | some tr => ok ((((s.modCan ch fun c => { c with sleeping := none }).dropQueue ch).setCan ch .asleep).done tr (le 1 7 ++ zeros 3))

/-- R321: whether a frame is the configured wake frame. -/
def wakeMatches (r : List Byte) (fr : CanRx) : Bool :=
  !fr.fd && fr.ext == bit (Cfg.CanCh.WAKEID r) 30
    && (fr.id &&& Cfg.CanCh.WAKEMASK r % 2 ^ 29) == (Cfg.CanCh.WAKEID r % 2 ^ 29 &&& Cfg.CanCh.WAKEMASK r % 2 ^ 29)
    && (!bit (Cfg.CanCh.CFLG r) 5 ||
        (leNat ((fr.data ++ zeros 8).take 8) &&& Cfg.CanCh.WAKEDMSK r) == (Cfg.CanCh.WAKEDATA r &&& Cfg.CanCh.WAKEDMSK r))

/-- R321: whether the condition that WAKEMODE selects holds: a dominant phase comes without a frame. -/
def State.wakeHolds (s : State) (ch : Nat) (fr : Option CanRx) : Bool :=
  let r := s.canRec ch
  if Cfg.CanCh.WAKEMODE r = 0 then true else match fr with | some f => wakeMatches r f | none => false

/-- R320-R322, R422: a wake condition on a channel; WAKEMODE 0 stores no frame. -/
def execCanWake (t ch : Nat) (fr : Option CanRx) (s : State) : Host.Outcome State Fault Refusal :=
  let s := s.advance t
  let c := s.chan ch
  if !s.wakeHolds ch fr then ok s
  else match c.sleeping with
    | some tr => ok ((s.modCan ch fun c => { c with sleeping := none }).abort tr 0x9021)
    | none =>
      if c.st ≠ .asleep then ok s
      else
        let fr := if Cfg.CanCh.WAKEMODE (s.canRec ch) = 0 then none else fr
        let s1 := match fr with
          | some f => (match s.objIdx ch f.id f.ext with | some i => s.storeFrame ch i f true | none => s)
          | none => s
        let s2 := s1.wakeCan ch ((fr.map (·.id)).getD 0xFFFFFFFF)
        ok (if bit (Cfg.Start.WAKECAN (s.one Cfg.Start.sec Cfg.Start.dflt)) ch then s2.wakeUp 1 else s2)

end Sys2Proof.Machine
end

