-- ==== Sys2Proof/Machine/Calls.lean ====
section
/-! DEFINITION. The dispatcher (file 08: R221-R229, R434): destination calls, trip-plan evaluation, assignment, answers,
dispatch service of cars, the class 0x5 call cards. -/

namespace Sys2Proof.Machine

def State.dispParam (s : State) : List Byte := s.one Cfg.DispParam.sec Cfg.DispParam.dflt
def State.modSvc (c : Nat) (f : Svc → Svc) (s : State) : State := s.modCar c fun x => { x with svc := f x.svc }
def State.modCall (id : Nat) (f : Call → Call) (s : State) : State :=
  { s with disp := { s.disp with calls := s.disp.calls.map fun k => if k.id = id then f k else k } }
def State.call? (s : State) (id : Nat) : Option Call := s.disp.calls.find? fun k => k.id == id
def State.sourceRec (s : State) (src : Nat) : Option (List Byte) := (s.recs Cfg.Source.sec).find? fun r => Cfg.Source.SRC r == src
def State.capPax (s : State) (c : Nat) : Nat := (((s.recs Cfg.CarDisp.sec).find? fun r => Cfg.CarDisp.CAR r == c).map Cfg.CarDisp.CAPPAX).getD 0
def State.accessible (s : State) (c : Nat) : Bool := (((s.recs Cfg.CarDisp.sec).find? fun r => Cfg.CarDisp.CAR r == c).map fun r => bit (Cfg.CarDisp.CFL r) 0).getD false

/-! ## Floors and lanes -/

/-- The landing of a floor in a lane; 0xFFFF for none. -/
def State.landOf (s : State) (lane floor : Nat) : Nat :=
  match (s.recs Cfg.Floor.sec).find? fun r => Cfg.Floor.FLOOR r == floor with
  | some r => match lane with
    | 0 => Cfg.Floor.LAND0 r
    | 1 => Cfg.Floor.LAND1 r
    | 2 => Cfg.Floor.LAND2 r
    | 3 => Cfg.Floor.LAND3 r
    | _ => 0xFFFF
  | none => 0xFFFF

def State.sillAt (s : State) (lane land : Nat) : Int := (s.sills lane).getD land 0

/-- R222 step 4: a lane serves both floors, TO ahead of FROM in its direction of travel. -/
def State.laneServes (s : State) (lane frm dst : Nat) : Bool :=
  let a := s.landOf lane frm
  let b := s.landOf lane dst
  decide (a < (s.sills lane).length) && decide (b < (s.sills lane).length)
    && decide (0 < s.elemDir lane * (s.sillAt lane b - s.sillAt lane a))

/-- The lane of a car's loop that serves a trip. -/
def State.laneFor (s : State) (c frm dst : Nat) : Option Nat :=
  (s.lanes.map Cfg.Lane.LANE).find? fun l => (s.ringOf (s.car c).pos.elem).contains l && s.laneServes l frm dst

/-! ## Trips (R224): legs, arrival times, energy, block occupancy -/

/-- A stop as the trip-plan evaluator takes it: place, dwell in ns, passengers aboard when leaving it. -/
structure TStop where
  elem  : Nat
  pos   : Int
  dwell : Nat
  aboard : Nat
deriving DecidableEq, Repr

/-- A leg in one element: start instant and motion, phases, end, instant at which the car leaves its end. -/
structure Leg where
  elem   : Nat
  t0     : Nat
  mot    : Mot
  phases : List Phase
  leave  : Nat
deriving DecidableEq, Repr

/-- Limits of a leg in an element (R120, R135). -/
def State.legLim (s : State) (c e : Nat) : Lim :=
  let l := s.svcLim c
  if isLane e then { l with v := min l.v 10000000 } else { l with v := min (Cfg.CarMotion.VXING (s.carMotion c)) 1000000 }

/-- Elements on the way from a state to a place ahead, round the loop where the place lies behind. -/
def State.wayTo (s : State) (c e : Nat) (m : Mot) (te : Nat) (tp : Int) : List Nat :=
  let d := s.elemDir e
  if e = te then
    (if 0 ≤ d * (tp * oneQ - stopPoint (s.svcLim c) m) then []
     else match (s.nexts e).findSome? fun n => (s.route n te).map fun r => n :: r with
      | some r => r
      | none => [])
  else (s.route e te).getD []

/-- Legs of a way, each lane leg from the boundary after the last (R126); the end instant. -/
def State.legsGo (s : State) (c t e : Nat) (m : Mot) : List Nat → Int → Nat → List Leg × Nat
  | [], target, dwell =>
    let ps := planPhases (s.legLim c e) m target
    let t1 := t + durOf ps
    ([{ elem := e, t0 := t, mot := m, phases := ps, leave := t1 + dwell }], t1)
  | n :: ns, target, dwell =>
    let ps := planPhases (s.legLim c e) m (s.joinOut e n)
    let t1 := boundaryAfter s.time.phase tickNs (t + durOf ps - 1)
    let entry := if isLane e then 0 else Cfg.Xing.TOJOIN (s.xingOf e)
    let r := s.legsGo c t1 n { pQ := entry * oneQ } ns target dwell
    ({ elem := e, t0 := t, mot := m, phases := ps, leave := t1 } :: r.1, r.2)

/-- The legs and arrival of every stop of a list, from a state. -/
def State.tripGo (s : State) (c t e : Nat) (m : Mot) : List TStop → List (List Leg × Nat)
  | [] => []
  | st :: rest =>
    let r := s.legsGo c t e m (s.wayTo c e m st.elem st.pos) st.pos st.dwell
    r :: s.tripGo c (r.2 + st.dwell) st.elem { pQ := st.pos * oneQ } rest

/-- R224: a trip from a car's present set-point state. -/
def State.trip? (s : State) (c : Nat) (l : List TStop) : List (List Leg × Nat) :=
  s.tripGo c s.time.now (s.car c).pos.elem (s.planOf c).mot l

/-- R225: positive and negative work of phases, in kg·µm²/s² in 2^-64: a phase at a time, the acceleration keeping its sign
within each. -/
def workGo (mass g : Int) : List Phase → Mot → Int × Int
  | [], _ => (0, 0)
  | ph :: ps, m =>
    let n := (m.enter ph).flow ph.jerk ph.dur
    let w := mass * ((n.vQ * n.vQ - m.vQ * m.vQ) / 2 + g * (n.pQ - m.pQ) * 4294967296)
    let r := workGo mass g ps n
    if 0 ≤ w then (r.1 + w, r.2) else (r.1, r.2 - w)

def State.legWork (s : State) (c aboard : Nat) (l : Leg) : Int × Int :=
  let r := s.carMass c
  let load := (s.car c).prop.load.getD (Cfg.CarMass.LOADDEF r)
  workGo (Cfg.CarMass.MCAR r + load + 75 * aboard) (if isLane l.elem then Cfg.CarMass.GLOC r else 0) l.phases l.mot

/-- kg·µm²/s² in 2^-64 to Wh×10⁻³, halves away from zero (log 26). -/
def toMilliWh (x : Int) : Int := divRound x (18446744073709551616 * 3600000000000)

/-- Positive and negative work of a trip, Wh×10⁻³; `aboard` is what the car carries to the first stop. -/
def State.tripWork (s : State) (c aboard : Nat) (l : List TStop) : Int × Int :=
  let legs := (s.trip? c l).map (·.1)
  let load := aboard :: l.map (·.aboard)
  let w := (legs.zip load).flatMap fun p => p.1.map (s.legWork c p.2)
  (toMilliWh (w.map (·.1)).sum, toMilliWh (w.map (·.2)).sum)

/-- The least time after a leg's start at which it has covered a distance (Q32.32), by bisection. -/
def timeAt (ps : List Phase) (m : Mot) (dist : Int) : Nat → Nat → Nat → Nat
  | 0, _, hi => hi
  | n + 1, lo, hi =>
    let mid := (lo + hi) / 2
    if dist ≤ (((runPhases ps mid m).1.pQ - m.pQ).natAbs : Int) then timeAt ps m dist n lo mid else timeAt ps m dist n mid hi

/-- The interval in which a leg occupies a block's extent, if it does. -/
def State.legIn (s : State) (c : Nat) (l : Leg) (b : List Byte) : Option (Nat × Nat) :=
  if Cfg.Block.ELEM b ≠ l.elem then none
  else
    let d := if isign (distOf l.phases l.mot) = 0 then s.elemDir l.elem else isign (distOf l.phases l.mot)
    let lead := if 0 < d then s.extUp c l.elem else s.extDn c l.elem
    let rear := if 0 < d then s.extDn c l.elem else s.extUp c l.elem
    let near := if 0 < d then Cfg.Block.START b else Cfg.Block.END b
    let far := if 0 < d then Cfg.Block.END b else Cfg.Block.START b
    let inn := d * (near * oneQ - l.mot.pQ) - lead * oneQ
    let out := d * (far * oneQ - l.mot.pQ) + rear * oneQ
    let len : Int := (distOf l.phases l.mot).natAbs
    let dur := durOf l.phases
    let a : Option Nat := if inn ≤ 0 then some l.t0 else if len ≤ inn then none else some (l.t0 + timeAt l.phases l.mot inn 48 0 dur)
    if out ≤ 0 then none
    else a.map fun t => (t, if len ≤ out then l.leave else l.t0 + timeAt l.phases l.mot out 48 0 dur)

/-- Another car's present plan as a leg; it stands at its end from then on. -/
def State.planLeg (s : State) (c : Nat) : Leg :=
  let p := s.planOf c
  if p.phases.isEmpty then { elem := (s.car c).pos.elem, t0 := 0, mot := p.mot, phases := [], leave := 2 ^ 64 }
  else { elem := (s.car c).pos.elem, t0 := p.t0, mot := { pQ := p.pQ0, vQ := p.vQ0, aQ := p.a0 }, phases := p.phases, leave := 2 ^ 64 }

def overlap (a b : Nat × Nat) : Nat := min a.2 b.2 - max a.1 b.1

/-- R225: C, in ms: overlap of a car's predicted occupancy of the blocks on its path with other cars' current plans. -/
def State.contention (s : State) (c : Nat) (legs : List Leg) : Nat :=
  let others := s.carNums.filter fun k => k != c
  let ns := (s.blockCfgs.map fun b => (legs.filterMap fun l => s.legIn c l b).map fun i =>
    (others.filterMap fun k => s.legIn k (s.planLeg k) b).map (overlap i) |>.sum).flatten.sum
  ns / 1000000

/-! ## Stop lists (R224, R225) -/

/-- Passengers of a call aboard a car. -/
def State.aboard (s : State) (c : Nat) : Nat := ((s.disp.calls.filter fun k => k.state == 1 && k.car == some c).map (·.pax)).sum

/-- The stops of a list with dwells; successive stops at one landing share DWELLBASE. -/
def State.tstops (s : State) (pax : Nat → Nat) : Nat → List Stop → List TStop
  | _, [] => []
  | n, st :: rest =>
    let p := s.dispParam
    let on := if st.pickup then n + pax st.call else n - pax st.call
    let shared := match rest with
      | q :: _ => q.lane == st.lane && q.land == st.land
      | [] => false
    { elem := st.lane, pos := st.pos, aboard := on,
      dwell := 1000000 * ((if shared then 0 else Cfg.DispParam.DWELLBASE p) + Cfg.DispParam.PAXT p * pax st.call) } :: s.tstops pax on rest

def satI64 (x : Int) : Int := max (-9223372036854775808) (min 9223372036854775807 x)

/-- Calls of a list with those being tried. -/
def State.callIn (s : State) (extra : List Call) (id : Nat) : Call := ((extra ++ s.disp.calls).find? fun k => k.id == id).getD {}

/-- Arrival at each stop of a list. -/
def State.arrivals (s : State) (c : Nat) (extra : List Call) (l : List Stop) : List (Stop × Nat) :=
  l.zip ((s.trip? c (s.tstops (fun i => (s.callIn extra i).pax) (s.aboard c) l)).map (·.2))

/-- R225: the value of a car's stop list. -/
def State.listValue (s : State) (c : Nat) (extra : List Call) (l : List Stop) : Int :=
  let p := s.dispParam
  let ts := s.tstops (fun i => (s.callIn extra i).pax) (s.aboard c) l
  let arr := s.arrivals c extra l
  let pick (id : Nat) : Option Nat := (arr.find? fun q => q.1.call == id && q.1.pickup).map (·.2)
  let wait := (arr.filter fun q => q.1.pickup).map fun q => ((q.2 : Int) - (s.callIn extra q.1.call).recv) / 1000000
  let ride := (arr.filter fun q => !q.1.pickup).map fun q => ((q.2 : Int) - (pick q.1.call).getD s.time.now) / 1000000
  let w := s.tripWork c (s.aboard c) ts
  let e := w.1 - Cfg.DispParam.REGEN p * w.2 / 65536
  let k := s.contention c ((s.trip? c ts).flatMap (·.1))
  satI64 (satI64 (Cfg.DispParam.WW p * wait.sum) + satI64 (Cfg.DispParam.WR p * ride.sum) + satI64 (Cfg.DispParam.WE p * e) + satI64 (Cfg.DispParam.WC p * k))

/-- R224: capacity along a list. -/
def State.fits (s : State) (extra : List Call) (cap : Nat) : Nat → List Stop → Bool
  | _, [] => true
  | n, st :: rest =>
    let x := (s.callIn extra st.call).pax
    let on := if st.pickup then n + x else n - x
    decide (on ≤ cap) && s.fits extra cap on rest

def insAt {α : Type} (i : Nat) (x : α) (l : List α) : List α := l.take i ++ x :: l.drop i

/-- The two stops of a call on a car, where its loop serves the call. -/
def State.callStops (s : State) (c : Nat) (k : Call) : Option (Stop × Stop) :=
  (s.laneFor c k.frm k.dst).map fun l =>
    (⟨k.id, l, s.landOf l k.frm, s.sillAt l (s.landOf l k.frm), true⟩, ⟨k.id, l, s.landOf l k.dst, s.sillAt l (s.landOf l k.dst), false⟩)

/-- R224: whether a car may take a call at all. -/
def State.mayTake (s : State) (c : Nat) (k : Call) : Bool :=
  (s.car c).svc.mode == 1 && (!k.access || s.accessible c) && (s.callStops c k).isSome

/-- R224: candidates of a call on one car: insertions, the earlier first. -/
def State.candidates (s : State) (k : Call) (c : Nat) : List (Nat × List Stop) :=
  if !s.mayTake c k then []
  else match s.callStops c k with
    | none => []
    | some (p, q) =>
      let l := (s.car c).svc.stops.filter fun st => st.call != k.id
      if 30 < l.length then []
      else
        ((List.range (l.length + 1)).flatMap fun i => (List.range (l.length + 1 - i)).map fun j =>
          (c, insAt (i + j + 1) q (insAt i p l))).filter fun x => s.fits [k] (s.capPax c) (s.aboard c) x.2

/-- The cheapest of a list of candidates with its cost; the first of equal ones. -/
def State.cheapest (s : State) (k : Call) : List (Nat × List Stop) → Option ((Nat × List Stop) × Int)
  | [] => none
  | x :: xs =>
    let cost := satI64 (s.listValue x.1 [k] x.2 - s.listValue x.1 [k] ((s.car x.1).svc.stops.filter fun st => st.call != k.id))
    match s.cheapest k xs with
    | some r => if r.2 < cost then some r else some (x, cost)
    | none => some (x, cost)

/-- R226: the fallback: earliest predicted arrival at the pickup with the call appended. -/
def State.fallback (s : State) (k : Call) : Option (Nat × List Stop) :=
  let cs := (s.carNums.filter fun c => s.mayTake c k).filterMap fun c => (s.callStops c k).bind fun st =>
    let l := (s.car c).svc.stops ++ [st.1, st.2]
    if l.length ≤ 32 && s.fits [k] (s.capPax c) (s.aboard c) l then
      some ((((s.arrivals c [k] l).find? fun q => q.1.call == k.id && q.1.pickup).map (·.2)).getD 0, c, l)
    else none
  cs.foldl (fun (best : Option (Nat × Nat × List Stop)) x => match best with
    | some b => if x.1 < b.1 then some x else best
    | none => some x) none |>.map (·.2)

/-! ## Answers (R223, R226) -/

/-- ETA of R223: seconds × 10 to the pickup, saturating. -/
def State.etaTenths (s : State) (k : Call) : Nat := if k.car.isNone then 65535 else min 65535 ((k.pickEta - s.time.now) / 100000000)

/-- R223: the eight bytes of an answer. -/
def State.answerBytes (s : State) (k : Call) (astat : Nat) : List Byte :=
  le 2 k.treq ++ le 1 (k.car.getD 0xFF) ++ le 1 (if k.car.isSome then k.lane else 0xFF) ++ le 1 astat ++ le 2 (s.etaTenths k) ++ zeros 1

/-- R223: an answer joins its ANSID object's queue: it replaces a waiting answer of the same call, or, with 96 waiting, the
oldest that carries ASTAT 2 or 3. -/
def State.queueAnswer (ch id : Nat) (ext : Bool) (call astat : Nat) (data : List Byte) (s : State) : State :=
  let c := s.chan ch
  let mine (f : TxFrame) : Bool := f.id == id && f.ext == ext
  let sameCall (f : TxFrame) : Bool := mine f && (match f.kind with
    | .answer k _ => k == call && decide (call < 4096)
    | _ => false)
  let low (f : TxFrame) : Bool := mine f && (match f.kind with
    | .answer _ a => a == 2 || a == 3
    | _ => false)
  let f : TxFrame := { id := id, ext := ext, dlc := 8, data := data, kind := .answer call astat, order := c.order }
  let q := c.txq.filter fun g => !sameCall g
  let q' := if (q.filter mine).length < 96 then q else match q.find? low with
    | some g => q.filter fun x => x != g
    | none => q
  s.modCan ch fun c => { c with txq := q' ++ [f], order := c.order + 1 }

/-- The answer of a call goes to its source: a CAN frame, a datagram, or event source 0x55 for the host. -/
def State.sendAnswer (k : Call) (astat : Nat) (s : State) : State :=
  let b := s.answerBytes k astat
  match (if k.src = 0 then none else s.sourceRec k.src) with
  | none => if k.src = 0 then s.fire 0x55 (tgtOf 1 0) 0 (authItems (k.car.getD 0xFF) k.id astat ++ b) else s
  | some r =>
    if Cfg.Source.KIND r = 0 then s.queueAnswer (Cfg.Source.CHAN r) (Cfg.Source.ANSID r % 2 ^ 29) (bit (Cfg.Source.ANSID r) 30) k.id astat b
    else { s with disp := { s.disp with answers := s.disp.answers ++ [⟨k.src, le 4 (Cfg.Source.ID r) ++ zeros 4 ++ b⟩] } }

/-- A record of CALL_READ. -/
def callRecord (k : Call) : List Byte :=
  le 2 k.id ++ le 1 k.state ++ le 1 k.src ++ le 2 k.frm ++ le 2 k.dst ++ le 1 k.pax ++ le 1 (k.car.getD 0xFF) ++ le 1 k.reass
    ++ le 1 (b2n k.fallback + 2 * b2n k.committed + 4 * b2n k.access) ++ le 8 k.recv ++ le 8 k.answered ++ le 8 k.pickEta ++ le 8 k.dropEta

/-- R399: JTYPE 5 and 6: the first 28 bytes of the call record. -/
def State.callJournal (type id : Nat) (s : State) : State := match s.call? id with
  | some k => s.journal type (k.car.getD 0xFF) ((callRecord k).take 28)
  | none => s

/-- R224: the predicted times of every call on a car's list. -/
def State.refreshEtas (c : Nat) (s : State) : State :=
  (s.arrivals c [] (s.car c).svc.stops).foldl (fun s q =>
    s.modCall q.1.call fun k => if q.1.pickup then { k with pickEta := q.2 } else { k with dropEta := q.2 }) s

/-- The reply of CALL_SUBMIT. -/
def callReply (k : Call) : List Byte := le 2 k.id ++ le 1 (k.car.getD 0xFF) ++ le 1 (if k.car.isSome then k.lane else 0xFF) ++ le 8 k.pickEta

/-- A call's first answer: its instant, the answer, the waiting CALL_SUBMIT ends DONE. -/
def State.firstAnswer (id : Nat) (s : State) : State :=
  match s.call? id with
  | none => s
  | some k =>
    let s1 := s.modCall id fun k => { k with answered := s.time.now, pending := false, tag := none }
    let s2 := s1.sendAnswer k 0
    let s3 := if k.src ≠ 0 ∧ k.car.isSome then s2.fire 0x55 (tgtOf 1 0) 0 (authItems (k.car.getD 0xFF) id 0) else s2
    let s3 := if k.car.isSome then s3.callJournal 5 id else s3
    match k.tag with
    | some tr => s3.done tr (callReply k)
    | none => s3

/-- A call takes a place in a car's list. -/
def State.place (id c : Nat) (l : List Stop) (s : State) : State :=
  let lane := ((l.find? fun st => st.call == id).map (·.lane)).getD 0
  ((s.modSvc c fun v => { v with stops := l }).modCall id fun k => { k with car := some c, lane := lane }).refreshEtas c

/-- Take a call off its car's list. -/
def State.unplace (id : Nat) (s : State) : State :=
  match (s.call? id).bind (·.car) with
  | none => s
  | some c => ((s.modSvc c fun v => { v with stops := v.stops.filter fun st => st.call != id }).modCall id fun k => { k with car := none }).refreshEtas c

/-- An ended call keeps its record for 60 s (R434). -/
def State.endCall (id st astat : Nat) (s : State) : State :=
  let s1 := s.unplace id
  match s1.call? id with
  | none => s1
  | some k =>
    let s2 := (s1.modCall id fun k => { k with state := st, ended := s.time.now, pending := false, tag := none, committed := false }).sendAnswer { k with car := none } astat
    let s3 := if st = 3 then s2.fire 0x56 (tgtOf 1 0) 0 (authItems 0xFF id 3) else s2
    match k.tag with
    | some tr => s3.done tr (callReply { k with car := none })
    | none => s3

/-! ## Arriving calls (R221, R222) -/

def rec0Rate (r : Option (List Byte)) : Nat := (r.map Cfg.Source.RATE).getD 600
def rec0Burst (r : Option (List Byte)) : Nat := (r.map Cfg.Source.BURST).getD 32
def rec0Pend (r : Option (List Byte)) : Nat := (r.map Cfg.Source.SRCPEND).getD 64

/-- One token: 60 s of a rate of 1 per minute. -/
def tokenNs : Nat := 60000000000

/-- R222 step 2: a source's bucket at an instant; full before its first use (log 36). -/
def State.bucketOf (s : State) (src : Nat) (r : Option (List Byte)) : Bucket :=
  let full := rec0Burst r * tokenNs
  match s.disp.buckets.find? fun b => b.src == src with
  | some b => { b with level := min full (b.level + (s.time.now - b.at0) * rec0Rate r), at0 := s.time.now }
  | none => { src := src, level := full, at0 := s.time.now }

def State.putBucket (b : Bucket) (s : State) : State :=
  { s with disp := { s.disp with buckets := (s.disp.buckets.filter fun x => x.src != b.src) ++ [b] } }

def Call.isPending (k : Call) : Bool := decide (k.state ≤ 1)
def State.unanswered (s : State) : Nat := (s.disp.calls.filter (·.pending)).length

/-- At most one event a second. -/
def quietSince (last : Option Nat) (now : Nat) : Bool := match last with
  | some t => decide (now < t + 1000000000)
  | none => false

/-- What the checks of R222 make of a call. -/
inductive Verdict where
  | rated
  | crowded
  | floors
  | pax
  | absorbed (id : Nat)
  | srcFull
  | full
  | fine
deriving DecidableEq, Repr

/-- R222 steps 4-8. -/
def State.judge (s : State) (src frm dst pax cflags : Nat) (r : Option (List Byte)) : Verdict :=
  let fl (f : Nat) : Bool := (s.recs Cfg.Floor.sec).any fun x => Cfg.Floor.FLOOR x == f
  let maxPax := (s.carNums.map s.capPax).foldl max 0
  let any := match r with
    | some r => bit (Cfg.Source.SFLG r) 0
    | none => true
  let mine := s.disp.calls.filter fun k => k.src == src && k.isPending
  if !(fl frm) || !(fl dst) || frm == dst || !((s.lanes.map Cfg.Lane.LANE).any fun l => s.laneServes l frm dst) then .floors
  else if !any && frm != (r.map Cfg.Source.FLOOR).getD 0 then .floors
  else if pax = 0 ∨ maxPax < pax ∨ (bit cflags 0 = true ∧ !(s.carNums.any s.accessible)) then .pax
  else match s.disp.calls.find? fun k => k.state == 0 && k.src == src && k.frm == frm && k.dst == dst && k.access == bit cflags 0
      && decide (s.time.now ≤ k.recv + 1000000 * Cfg.DispParam.DUPWIN s.dispParam) with
    | some k => .absorbed k.id
    | none =>
      if rec0Pend r ≤ mine.length then .srcFull
      else if 4096 ≤ (s.disp.calls.filter (·.isPending)).length ∨ 4096 ≤ s.disp.calls.length then .full
      else .fine

/-- R222 steps 2 and 3, then the rest. -/
def State.hear (src frm dst pax cflags : Nat) (s : State) : Verdict × State :=
  let r := if src = 0 then none else s.sourceRec src
  let b := s.bucketOf src r
  if b.level < tokenNs then
    let s1 := (s.putBucket { b with limAt := if quietSince b.limAt s.time.now then b.limAt else some s.time.now })
    let s2 := { s1 with disp := { s1.disp with discarded := wrapAdd 32 s1.disp.discarded 1 } }
    (.rated, if quietSince b.limAt s.time.now then s2 else s2.fire 0x54 (tgtOf 1 0) 0 (authItems 0xFF 0xFFFF src))
  else
    let s1 := s.putBucket { b with level := b.level - tokenNs }
    if 48 ≤ s1.unanswered then
      let quiet := quietSince s1.disp.admitAt s.time.now
      let s2 := { s1 with disp := { s1.disp with discarded := wrapAdd 32 s1.disp.discarded 1, admitAt := if quiet then s1.disp.admitAt else some s.time.now } }
      (.crowded, if quiet then s2 else s2.fire 0x5A (tgtOf 1 0) 0 (authItems 0xFF 0xFFFF src))
    else (s1.judge src frm dst pax cflags r, s1)

/-- R434: the next CALLID that no record holds. -/
def State.nextId (s : State) : Nat → Nat → Nat
  | 0, i => i
  | n + 1, i => if (s.call? i).isSome then s.nextId n ((i + 1) % 4096) else i

/-- A call enters the pending list in state WAITING; event source 0x58 when it fills to 75 %. -/
def State.enterCall (k : Call) (s : State) : State :=
  let id := s.nextId 4096 ((s.disp.lastId + 1) % 4096)
  let s1 := { s with disp := { s.disp with calls := s.disp.calls ++ [{ k with id := id }], lastId := id } }
  let n : Nat := (s1.disp.calls.filter (·.isPending)).length
  if 3072 ≤ n ∧ s.disp.full75 = false then ({ s1 with disp := { s1.disp with full75 := true } }).fire 0x58 (tgtOf 1 0) 0 (authItems 0xFF 0xFFFF 1)
  else if n < 3072 then { s1 with disp := { s1.disp with full75 := false } } else s1

/-- R222 step 7: PAX is added, up to the CAPPAX of the call's car. -/
def State.absorb (id pax : Nat) (s : State) : State :=
  s.modCall id fun k => { k with pax := min (match k.car with | some c => s.capPax c | none => (s.carNums.map s.capPax).foldl max 0) (k.pax + pax) }

/-- R222: a call of a terminal, its source known: checked and entered, or answered; under LAND, past the receive path, with
ASTAT 3 (R278). -/
def State.terminal (src treq frm dst pax cflags : Nat) (s : State) : State :=
  let v := ({ s with power := { s.power with idleSince := none } } : State).hear src frm dst pax cflags
  let k : Call := { src := src, frm := frm, dst := dst, pax := pax, access := bit cflags 0, recv := s.time.now, treq := treq, pending := true, id := 4096 }
  let no (astat : Nat) (s : State) : State := (s.sendAnswer k astat).fire 0x53 (tgtOf 1 0) 0 (authItems 0xFF 0xFFFF astat)
  if v.1 = .rated ∨ v.1 = .crowded then v.2
  else if s.safe.land then v.2.sendAnswer k 3
  else match v.1 with
  | .rated => v.2
  | .crowded => v.2
  | .floors => no 2 v.2
  | .pax => no 2 v.2
  | .srcFull => no 3 v.2
  | .full => no 3 v.2
  | .absorbed id =>
    let s1 := v.2.absorb id pax
    match s1.call? id with
    | some x => if x.pending then s1 else s1.sendAnswer { x with treq := treq } 0
    | none => s1
  | .fine => v.2.enterCall k

/-- R222 step 1: the source that a call comes from. -/
def State.sourceOf (s : State) (kind chan id : Nat) : Option Nat :=
  ((s.recs Cfg.Source.sec).find? fun r => Cfg.Source.KIND r == kind && Cfg.Source.CHAN r == chan
    && (if kind = 0 then Cfg.Source.ID r % 2 ^ 31 == id % 2 ^ 31 else Cfg.Source.ID r == id)).map Cfg.Source.SRC

/-- TERMINAL_CALL (R221, R222). -/
def execTerminalCall (t : Nat) (call : TermCall) (s : State) : Host.Outcome State Fault Refusal :=
  let s := s.advance t
  if s.boot.role ≠ .lane ∨ s.boot.stage ≠ 6 ∨ s.standby then ok s
  else match s.sourceOf call.kind call.chan call.id with
    | none => ok { s with disp := { s.disp with unkSrc := wrapAdd 32 s.disp.unkSrc 1 } }
    | some src => ok (s.terminal src call.treq call.frm call.dst call.pax call.cflags)

/-! ## Assignment (R226, R228) -/

/-- Plans the evaluator completes in an interval, at most 48. -/
def plansIn (ns : Nat) : Nat := min 48 (ns * 65536 / 1000000000)

/-- R226: the best candidate found in time, or the fallback (event source 0x57). -/
def State.assign (k : Call) (plans : Nat) (s : State) : State :=
  let cs := (s.carNums.flatMap fun c => s.candidates k c).take plans
  match s.cheapest k cs with
  | some r => s.place k.id r.1.1 r.1.2
  | none => match s.fallback k with
    | some (c, l) => ((s.place k.id c l).modCall k.id fun k => { k with fallback := true }).fire 0x57 (tgtOf 1 0) 0 (authItems c k.id 0)
    | none => s

/-- CALL_DEADLINE (R226): 1,750 µs after receipt the call is assigned and answered. -/
def execCallDeadline (t id : Nat) (s : State) : Host.Outcome State Fault Refusal :=
  let s := s.advance t
  match s.call? id with
  | none => ok s
  | some k =>
    if !k.pending || k.state != 0 || decide (s.time.now < k.recv + 1750000) then ok s
    else
      let start := max k.recv s.disp.evalFree
      let n := plansIn (k.recv + 1750000 - start)
      let s1 := { s with disp := { s.disp with evalFree := min (k.recv + 1750000) (start + n * 1000000000 / 65536) } }
      ok ((s1.assign k n).firstAnswer id)

/-- R228: a call moves to another car: REASS rises, a new answer with ASTAT 1. -/
def State.move (id c : Nat) (l : List Stop) (s : State) : State :=
  let s1 := (s.unplace id).place id c l
  let s2 := s1.modCall id fun k => { k with reass := k.reass + 1, committed := false }
  match s2.call? id with
  | some k =>
    let s3 := (s2.callJournal 5 id).sendAnswer k 1
    if k.src = 0 then s3 else s3.fire 0x55 (tgtOf 1 0) 0 (authItems c id 1)
  | none => s2

/-- R228: a forced move; at REASSMAX the call is dropped. -/
def State.forceMove (id : Nat) (s : State) : State :=
  match s.call? id with
  | none => s
  | some k =>
    if k.state ≠ 0 then s
    else if k.pending then s.unplace id
    else if Cfg.DispParam.REASSMAX s.dispParam ≤ k.reass then s.endCall id 3 4
    else
      let old := k.car
      let s1 := s.unplace id
      match s1.cheapest k ((s1.carNums.filter fun c => some c != old).flatMap fun c => s1.candidates k c) with
      | some r => s1.move id r.1.1 r.1.2
      | none => s1

/-- R228: one call is re-costed. -/
def State.recost (id : Nat) (s : State) : State :=
  match s.call? id with
  | none => s
  | some k =>
    if k.state ≠ 0 ∨ k.pending ∨ k.committed ∨ Cfg.DispParam.REASSMAX s.dispParam ≤ k.reass then s
    else
      let cands := (s.carNums.filter fun c => some c != k.car).flatMap fun c => s.candidates k c
      match s.cheapest k cands, k.car with
      | some r, some c =>
        let l := (s.car c).svc.stops
        let now := satI64 (s.listValue c [k] l - s.listValue c [k] (l.filter fun st => st.call != id))
        if r.2 + Cfg.DispParam.REASSGAIN s.dispParam ≤ now then s.move id r.1.1 r.1.2 else s
      | some r, none => s.move id r.1.1 r.1.2
      | none, _ => s

/-- REEVAL (R228). -/
def execReeval (t : Nat) (s : State) : Host.Outcome State Fault Refusal :=
  let s := s.advance t
  if s.boot.role ≠ .lane ∨ s.boot.stage ≠ 6 ∨ s.standby ∨ s.time.now < s.disp.lastEval + 1000000 * Cfg.DispParam.REEVAL s.dispParam then ok s
  else
    let s1 := { s with disp := { s.disp with lastEval := s.time.now } }
    ok ((s1.disp.calls.map (·.id)).foldl (fun s id => s.recost id) s1)

/-- CALLID_RELEASE (R434): 60 s after a call ended. -/
def execCallidRelease (t id : Nat) (s : State) : Host.Outcome State Fault Refusal :=
  let s := s.advance t
  ok { s with disp := { s.disp with calls := s.disp.calls.filter fun k => !(k.id == id && decide (2 ≤ k.state) && decide (k.ended + 60000000000 ≤ s.time.now)) } }

/-! ## Service (R227, R229) -/

/-- R229: a car enters or leaves service (event source 0x59), or goes from service to drain or back. Leaving moves its unboarded calls. -/
def State.setSvc (c mode : Nat) (s : State) : State :=
  if (s.car c).svc.mode = mode then s
  else
    let s0 := s.modSvc c fun v => { v with mode := mode }
    let s1 := if (s.car c).svc.mode = 0 ∨ mode = 0 then s0.fire 0x59 (tgtOf 8 c) 0 (authItems c 0xFFFF mode) else s0
    if mode = 0 then ((s1.disp.calls.filter fun k => k.car == some c && k.state == 0).map (·.id)).foldl (fun s id => s.forceMove id) s1 else s1

/-- R229: the conditions of dispatch service. -/
def State.svcHolds (s : State) (c : Nat) : Bool :=
  let x := s.car c
  s.boot.stage == 6 && !s.inspected c && decide (2 ≤ x.pos.trust) && x.plan.stop != some .s2 && x.plan.stop != some .s3

/-- R229 at a boundary: a car whose condition ended leaves; a drained car passes to out. -/
def State.svcStep (c : Nat) (s : State) : State :=
  let m := (s.car c).svc.mode
  if m ≠ 0 ∧ !s.svcHolds c then s.setSvc c 0
  else if m = 2 ∧ !(s.disp.calls.any fun k => k.car == some c && k.isPending) then s.setSvc c 0
  else s

/-- R227: the next landing ahead of a car, in its lane or the next. -/
def State.landingAhead (s : State) (c : Nat) : Option (Nat × Int) :=
  let x := s.car c
  let e := x.pos.elem
  let d := s.elemDir e
  let here := stopPoint (s.svcLim c) x.plan.mot
  let first (l : Nat) (from0 : Option Int) : Option (Nat × Int) :=
    ((sortKey (fun p => s.elemDir l * p) (s.sills l)).find? fun p => match from0 with
      | some q => decide (0 < d * (p * oneQ - q))
      | none => true).map fun p => (l, p)
  match (if isLane e then first e (some here) else none) with
  | some r => some r
  | none => (s.nexts e).findSome? fun n => if isLane n then first n none else (s.nexts n).findSome? fun l => first l none

/-- R227: PARKFLOOR of a car as a place. -/
def State.parkPlace (s : State) (c : Nat) : Option (Nat × Int) :=
  match (s.recs Cfg.CarDisp.sec).find? fun r => Cfg.CarDisp.CAR r == c with
  | none => none
  | some r =>
    ((s.lanes.map Cfg.Lane.LANE).filter fun l => (s.ringOf (s.car c).pos.elem).contains l).findSome? fun l =>
      let i := s.landOf l (Cfg.CarDisp.PARKFLOOR r)
      if i < (s.sills l).length then some (l, s.sillAt l i) else none

/-- R227, A6: a block of the car's chain that another car claims. -/
def State.claimedFrom (s : State) (c : Nat) : Bool :=
  s.carNums.any fun k => k != c && (s.car k).auth.item.any fun b => (s.chainOf c).contains b

/-- R227: the place the dispatcher sends a car to. -/
def State.dispGoal (s : State) (c : Nat) : Option (Nat × Int) :=
  match (s.car c).svc.stops.head? with
  | some st => some (st.lane, st.pos)
  | none => if s.claimedFrom c then s.landingAhead c else s.parkPlace c

/-- Whether a car stands at a place with nothing to do. -/
def State.restsAt (s : State) (c : Nat) (g : Nat × Int) : Bool :=
  let x := s.car c
  x.pos.elem == g.1 && x.plan.standing && x.plan.move.isNone && x.plan.pQ == g.2 * oneQ

/-- R227: the doors of a car are shut and its dwell is over: none has reported OPEN since its last LOCKED. -/
def State.doorsDone (s : State) (c : Nat) : Bool := (s.car c).doorsLocked && !((s.car c).door.sawOpen.any id)

/-- R227 at a boundary: the dispatcher sets a car's target, taken at step 5 of R117. -/
def State.dispTarget (c : Nat) (s : State) : State :=
  let x := s.car c
  let boarded := x.svc.stops.isEmpty == false
  if x.svc.mode = 0 ∧ !boarded then s
  else if x.plan.stop.isSome ∨ s.inspected c ∨ s.safe.land then s
  else match s.dispGoal c with
    | none => s
    | some g =>
      let cur : Bool := match x.plan.move with
        | some mv => mv.elem == g.1 && mv.target == g.2
        | none => s.restsAt c g
      let busy : Bool := match x.plan.move with
        | some mv => mv.kind != 1
        | none => !(s.doorsDone c)
      if cur ∨ busy ∨ x.plan.next.isSome then s
      else
        let s1 := s.modPlan c fun p => { p with next := some { elem := g.1, target := g.2, kind := 1, due := s.time.now } }
        let head := (x.svc.stops.head?).filter (·.pickup)
        { s1 with disp := { s1.disp with calls := s1.disp.calls.map fun k =>
          if (k.car == some c) = true then { k with committed := head.any fun st => st.call == k.id } else k } }

/-- R228, R229, R227 at a tick boundary. -/
def State.dispatch (s : State) : State :=
  if s.boot.role ≠ .lane ∨ s.boot.stage ≠ 6 ∨ s.standby then s
  else s.carNums.foldl (fun s c => (s.svcStep c).dispTarget c) s

/-- R257, R224: doors and dwell of the dispatch stop a car arrives at: dwell by the passengers, at most 60 s (log 37). -/
def State.stopDwell (s : State) (c : Nat) : Nat :=
  let x := s.car c
  let here := x.svc.stops.takeWhile fun st => st.lane == x.pos.elem && st.pos * oneQ == x.plan.pQ
  let p := s.dispParam
  min 60000 (Cfg.DispParam.DWELLBASE p + Cfg.DispParam.PAXT p * (here.map fun st => (s.callIn [] st.call).pax).sum)

/-- R257: the door request of an arrival, at its edge: the doors the landing serves, with CYCLE. -/
def State.requestDoors (c at0 : Nat) (s : State) : State :=
  let x := s.car c
  match (List.range (s.sills x.pos.elem).length).find? fun i => x.plan.pQ == s.sillAt x.pos.elem i * oneQ with
  | some i => s.askDoors c (s.sidesAt x.pos.elem i) (if s.safe.land then 2 else 1) 0 (s.stopDwell c) at0
  | none => s

/-- R227: a door cycle is complete at a landing: pickups there are BOARDED, drops DONE, and the stops leave the list. -/
def State.doorCycle (c : Nat) (s : State) : State :=
  let x := s.car c
  let here (st : Stop) : Bool := st.lane == x.pos.elem && st.pos * oneQ == x.plan.pQ
  let gone := x.svc.stops.takeWhile here
  let s1 := s.modSvc c fun v => { v with stops := v.stops.dropWhile here }
  let s2 := gone.foldl (fun (s : State) (st : Stop) => s.modCall st.call fun k =>
    if st.pickup = true then { k with state := 1, committed := false } else { k with state := 2, ended := s.time.now }) s1
  let s3 := (gone.filter fun st => !st.pickup).foldl (fun (s : State) (st : Stop) => s.callJournal 6 st.call) s2
  if gone.isEmpty then s else s3.refreshEtas c

/-- CAR_REPORT (R99, R170, R187, R227, R257, R412). -/
def execCarReport (t car : Nat) (rep : Report) (s : State) : Host.Outcome State Fault Refusal :=
  let s := s.advance t
  if s.boot.role ≠ .lane ∨ !s.carNums.contains car then ok s
  else
    let done := cycled (s.car car).door.sawOpen rep.doors
    let s1 := s.hearReport car rep
    ok (if done then s1.doorCycle car else s1)

/-! ## Cards -/

def callSubmitEff (tr : TagRec) (d : List Byte) (s : State) : State :=
  let frm := rd d 0 2
  let dst := rd d 2 2
  let v := s.hear 0 frm dst (rd d 4 1) (rd d 5 1)
  let no (reason : Nat) : State := (v.2.refuse tr reason).fire 0x53 (tgtOf 1 0) 0 (authItems 0xFF 0xFFFF 2)
  match v.1 with
  | .rated => v.2.refuse tr 0x5014
  | .crowded => v.2.refuse tr 0x5018
  | .floors => no 0x5010
  | .pax => no 0x5011
  | .srcFull => no 0x5013
  | .full => no 0x5012
  | .absorbed id =>
    let s1 := v.2.absorb id (rd d 4 1)
    s1.finish tr 2 0x5017 s.time.now (callReply (s1.callIn [] id))
  | .fine => v.2.enterCall { frm := frm, dst := dst, pax := rd d 4 1, access := bit (rd d 5 1) 0, recv := s.time.now, pending := true, tag := some tr }

def callSubmitCard : CardDef where
  k := { opc := 0x5010, role := 1, query := false, kinds := [1], enabled := true }
  lenOk := lenIs 8
  own := fun s _ _ => firstOf [refuseIf s.safe.land 0x7014, refuseIf s.swapping 0xB014]
  eff := callSubmitEff

/-- CALL_SUBMIT (R222). -/
def execCallSubmit (h : Hdr) (data : List Byte) (s : State) : Host.Outcome State Fault Refusal := ok (runCard callSubmitCard h data s)

def callCancelOwn (s : State) (_tr : TagRec) (d : List Byte) : Own :=
  match s.call? (rd d 0 2) with
  | none => some (0x5015, [])
  | some k => firstOf [refuseIf (decide (2 ≤ k.state)) 0x5015, refuseIf (k.state == 1) 0x5016]

def callCancelEff (tr : TagRec) (d : List Byte) (s : State) : State := (s.endCall (rd d 0 2) 4 5).done tr []

def callCancelCard : CardDef where
  k := { opc := 0x5011, role := 1, query := false, kinds := [1], enabled := true }
  lenOk := lenIs 4
  own := callCancelOwn
  eff := callCancelEff

/-- CALL_CANCEL (R434). -/
def execCallCancel (h : Hdr) (data : List Byte) (s : State) : Host.Outcome State Fault Refusal := ok (runCard callCancelCard h data s)

def callReadOwn (_s : State) (_tr : TagRec) (d : List Byte) : Own := refuseIf (rd d 2 2 == 0 || decide (90 < rd d 2 2)) 0xFF07

/-- Records in ascending CALLID from the START-th on. -/
def callReadReply (s : State) (_tr : TagRec) (d : List Byte) : List Byte :=
  let l := ((sortKey (fun k => (k.id : Int)) s.disp.calls).drop (rd d 0 2)).take (rd d 2 2)
  le 2 s.disp.calls.length ++ le 2 l.length ++ l.flatMap callRecord

def callReadCard : CardDef where
  k := { opc := 0x5012, role := 1, query := true, kinds := [1] }
  lenOk := lenIs 4
  own := callReadOwn
  eff := answer callReadReply

/-- CALL_READ (R434). -/
def execCallRead (h : Hdr) (data : List Byte) (s : State) : Host.Outcome State Fault Refusal := ok (runCard callReadCard h data s)

/-- A host MOVE_TO in force or waiting on a car. -/
def Plan.hostMove (p : Plan) : Bool := ((p.move.map fun m => m.kind == 0).getD false) || ((p.next.map fun m => m.kind == 0).getD false)

def carServiceOwn (s : State) (tr : TagRec) (d : List Byte) : Own :=
  let c := tgtIdx tr.tgt
  firstOf [
    refuseIf (rd d 0 1 == 1 && s.safe.land) 0x7014,
    refuseIf (rd d 0 1 != 0 && !s.svcHolds c) 0x5020,
    refuseIf (rd d 0 1 != 0 && (s.planOf c).hostMove) 0x5021,
    refuseIf (decide (2 < rd d 0 1)) 0xFF07]

def carServiceEff (tr : TagRec) (d : List Byte) (s : State) : State := (s.setSvc (tgtIdx tr.tgt) (rd d 0 1)).done tr []

def carServiceCard : CardDef where
  k := { opc := 0x5013, role := 1, query := false, kinds := [8], enabled := true }
  lenOk := lenIs 4
  own := carServiceOwn
  eff := carServiceEff

/-- CAR_SERVICE (R229). -/
def execCarService (h : Hdr) (data : List Byte) (s : State) : Host.Outcome State Fault Refusal := ok (runCard carServiceCard h data s)

/-! ## TRIP_EVAL (R224, R231) -/

/-- The stops of a TRIP_EVAL: element, position, boarding, alighting. -/
def evalStops (d : List Byte) : List (Nat × Int × Nat × Nat) :=
  (records 8 (d.drop 4)).map fun b => (rd b 0 1, rdS b 4 4, rd b 2 1, rd b 3 1)

/-- Dwells and passengers aboard; none where more would alight than are aboard. -/
def State.evalTStops (s : State) : Nat → List (Nat × Int × Nat × Nat) → Option (List TStop)
  | _, [] => some []
  | n, (e, p, b, a) :: rest =>
    if n < a then none
    else (s.evalTStops (n - a + b) rest).map fun l =>
      { elem := e, pos := p, aboard := n - a + b, dwell := 1000000 * (Cfg.DispParam.DWELLBASE s.dispParam + Cfg.DispParam.PAXT s.dispParam * (a + b)) } :: l

def tripEvalOwn (s : State) (tr : TagRec) (d : List Byte) : Own :=
  let l := evalStops d
  let c := tgtIdx tr.tgt
  refuseIf (l.isEmpty || decide (32 < l.length) || (s.evalTStops (s.aboard c) l).isNone
    || l.any fun q => !(s.elems.contains q.1) || decide (q.2.1 < (s.limits q.1).1) || decide ((s.limits q.1).2 < q.2.1)
      || !((s.ringOf (s.car c).pos.elem).contains q.1)) 0x5031

def tripEvalEff (tr : TagRec) (d : List Byte) (s : State) : State := { s with disp := { s.disp with evals := s.disp.evals ++ [⟨tr, d⟩] } }

def tripEvalCard : CardDef where
  k := { opc := 0x5014, role := 1, query := true, kinds := [8] }
  lenOk := fun d => decide (4 ≤ d.length) && d.length == 4 + 8 * rd d 0 1
  own := tripEvalOwn
  eff := tripEvalEff

/-- TRIP_EVAL (R224). -/
def execTripEval (h : Hdr) (data : List Byte) (s : State) : Host.Outcome State Fault Refusal := ok (runCard tripEvalCard h data s)

/-- TRIP_EVAL_COMPLETE (R224): the oldest evaluation ends. -/
def execTripEvalComplete (t : Nat) (s : State) : Host.Outcome State Fault Refusal :=
  let s := s.advance t
  match s.disp.evals with
  | [] => ok s
  | e :: rest =>
    let c := tgtIdx e.tag.tgt
    let l := (s.evalTStops (s.aboard c) (evalStops e.data)).getD []
    let w := s.tripWork c (s.aboard c) l
    ok (({ s with disp := { s.disp with evals := rest } }).done e.tag
      (le 4 (satN 32 w.1.toNat) ++ le 4 (satN 32 w.2.toNat) ++ ((s.trip? c l).flatMap fun (q : List Leg × Nat) => le 8 q.2)))

/-- TRIP_EVAL_TIMEOUT (R231): not completed within 10 ms. -/
def execTripEvalTimeout (t : Nat) (s : State) : Host.Outcome State Fault Refusal :=
  let s := s.advance t
  let late := s.disp.evals.filter fun e => decide (e.tag.acc + 10000000 ≤ s.time.now)
  ok (late.foldl (fun s e => s.abort e.tag 0x5032) { s with disp := { s.disp with evals := s.disp.evals.filter fun e => !decide (e.tag.acc + 10000000 ≤ s.time.now) } })

end Sys2Proof.Machine
end

