-- ==== Sys2Proof/Machine/Doors.lean ====
section
/-! DEFINITION. Door operators (file 09: R233-R261, R139, R140) in the CAR role: the plans of door axes, closing limits,
obstruction, homing, the permit, drive modes, the class 0x6 cards and rows. -/

namespace Sys2Proof.Machine

/-! ## Parts -/

def State.door (s : State) (d : Nat) : Door := s.doors.getD d {}
def State.axis (s : State) (a : Nat) : Axis := s.axes.getD a {}
def State.modDoor (d : Nat) (f : Door → Door) (s : State) : State := { s with doors := s.doors.modify d f }
def State.modAxis (a : Nat) (f : Axis → Axis) (s : State) : State := { s with axes := s.axes.modify a f }
def State.modMembers (d : Nat) (f : Axis → Axis) (s : State) : State := (s.doorMembers d).foldl (fun s a => s.modAxis a f) s
def State.axisRec (s : State) (a : Nat) : List Byte := s.keyed Cfg.DoorAxis.sec Cfg.DoorAxis.AXIS a Cfg.DoorAxis.dflt
def State.axisMotion (s : State) (a : Nat) : List Byte := s.keyed Cfg.AxisMotion.sec Cfg.AxisMotion.AXIS a Cfg.AxisMotion.dflt
def State.doorRec (s : State) (d : Nat) : List Byte := s.keyed Cfg.DoorCfg.sec Cfg.DoorCfg.DOOR d Cfg.DoorCfg.dflt

/-- The switch of an axis reads made. -/
def State.made (s : State) (a : Nat) : Bool :=
  let r := s.axisRec a
  s.axisConfigured a && ((s.fi (Cfg.DoorAxis.CLSW r)).level != bit (Cfg.DoorAxis.CLFLG r) 0)

def State.allMade (s : State) (d : Nat) : Bool := (s.doorMembers d).all s.made
def State.doorHomed (s : State) (d : Nat) : Bool := (s.doorMembers d).all fun a => (s.axis a).homed

/-- The light curtain of a door is broken. -/
def State.curtain (s : State) (d : Nat) : Bool := s.fiActive (Cfg.DoorCfg.LCIN (s.doorRec d))

/-- R255: a door is permitted. -/
def State.permitted (s : State) (d : Nat) : Bool :=
  (match s.crole.permit with
    | some (r, at0) => bit r.permit d && decide (s.time.now ≤ at0 + 2 * tickNs)
    | none => false) && (s.pairsOf 5).any s.pairClosed

/-- R242: ICLOSE of a member, in mA. -/
def State.iclose (s : State) (d a : Nat) : Nat := Cfg.DoorCfg.FLIM (s.doorRec d) * 1000 / max 1 (Cfg.DoorAxis.KF (s.axisRec a))

def Door.closing (x : Door) : Bool := x.st == .closing || x.st == .nudging

/-- R241: moving mass of a member, in 0.1 kg. -/
def State.mass10 (s : State) (a : Nat) : Nat := Cfg.DoorAxis.PANELKG (s.axisRec a) + Cfg.DoorAxis.LANDKG (s.axisRec a)

/-- A member's speed as the energy rules take it: the observer's where valid, otherwise v_cmd; in µm/s. -/
def Axis.speed (x : Axis) : Int := if x.lamValid then x.obsV else roundQ x.plan.vQ

/-- Kinetic energy of a door, in 10^-13 J. -/
def State.energy (s : State) (d : Nat) : Nat := ((s.doorMembers d).map fun a => s.mass10 a * ((s.axis a).speed.natAbs ^ 2)).sum / 2

/-- R239: the current demand of an axis, in mA; IHOLD in FAULT (R253). -/
def State.demandOf (s : State) (a : Nat) : Int :=
  let r := s.axisRec a
  let d := s.axisDoor a
  let x := s.door d
  if x.st = .fault then Cfg.DoorAxis.IHOLD r else
  let cap : Int := if x.closing || x.st == .homing then min (Cfg.DoorAxis.IMAX r) (s.iclose d a) else Cfg.DoorAxis.IMAX r
  let chans := (s.recs Cfg.Channel.sec).any fun c => Cfg.Channel.NODE c == tgtOf 9 a && Cfg.Channel.DEST c == 3
  if chans then max (min (Cfg.DoorAxis.IHOLD r) cap) (min cap (s.outSum (tgtOf 9 a) 3)) else cap

/-- R242: thrust of a member from its load angle, in mN. -/
def State.thrust (s : State) (a : Nat) : Int :=
  let x := s.axis a
  if x.lamValid then divRound (Cfg.DoorAxis.KF (s.axisRec a) * s.demandOf a * sin1024 x.lambda) (2 ^ 30) else 0

/-! ## Status and events -/

def modeCode (x : Axis) : Nat := if x.energised then x.mode else 0

/-- The nudging condition of a door's next or present close (R245, R249). -/
def State.nudges (s : State) (d : Nat) : Bool :=
  let x := s.door d
  let n := Cfg.DoorCfg.NUDGEN (s.doorRec d)
  x.st == .nudging || x.nudge || (n != 0 && decide (n ≤ x.obsCnt))

/-- DSTAT. -/
def State.dstat (s : State) (d : Nat) : Nat :=
  let x := s.door d
  let pre := match s.crole.permit with
    | some (r, _) => bit r.pflg 0
    | none => false
  bitsOf [s.doorHomed d, s.allMade d, s.permitted d, pre, s.curtain d, s.nudges d,
    (s.doorMembers d).any fun a => (s.axis a).mode == 3, x.stepLoss, x.chatter, x.winFlt, x.lockTo, x.reopWait, x.keCap]

/-- R262: payload of the class 0x6 events. -/
def State.doorItems (s : State) (d : Nat) : List Byte :=
  le 1 d ++ le 1 (s.door d).st.code ++ le 2 (s.dstat d) ++ leS 4 (roundQ (s.axis ((s.doorMembers d).head?.getD 0)).plan.pQ)

/-- The node of a door. -/
def doorNode (d : Nat) : Nat := if d < 4 then tgtOf 10 d else tgtOf 9 (d - 4)

def State.doorFire (src d : Nat) (extra : List Byte) (s : State) : State := s.fire src (doorNode d) 0 (s.doorItems d ++ extra)

/-- A class 0x3 event of a door's plan (R144): its lowest member axis. -/
def State.axisFire (src d : Nat) (extra : List Byte) (s : State) : State :=
  let a := (s.doorMembers d).head?.getD 0
  s.fire src (doorNode d) 0 ((s.axis a).plan.items a ++ extra)

/-- NUDGEQ of a door, where one is configured (R249). -/
def State.nudgeOut (d : Nat) (on : Bool) (s : State) : State :=
  let q := Cfg.DoorCfg.NUDGEQ (s.doorRec d)
  if q < 32 then s.writeFq q on else s

/-- A change of DSTATE; event source 0x60. NUDGEQ goes off as a nudging close ends (R249). -/
def State.setDoor (d : Nat) (st : DState) (s : State) : State :=
  if (s.door d).st = st then s
  else
    let s1 := (s.modDoor d fun x => { x with st := st }).doorFire 0x60 d []
    if (s.door d).st = .nudging then s1.nudgeOut d false else s1

/-- The reply of the door commands. -/
def State.doorReply (s : State) (d : Nat) (k : DoorCmd) : List Byte :=
  let x := s.door d
  le 1 x.st.code ++ le 1 (satN 8 (x.obsTot - k.obs0)) ++ le 1 (b2n x.nudged) ++ le 1 x.lastObs ++ le 8 s.time.now

/-- The set-point position that a MOVE_TO's reply gives: the first member's. -/
def State.doorPos (s : State) (d : Nat) : Int := roundQ (s.axis ((s.doorMembers d).head?.getD 0)).plan.pQ

/-- End a door command or MOVE_TO with its final reply. -/
def State.endDoorCmd (d : Nat) (k : DoorCmd) (status reason : Nat) (s : State) : State :=
  match k.tag with
  | none => s
  | some tr =>
    if k.kind = 3 then s.finish tr status reason s.time.now (moveReply s.time.now (s.doorPos d) (s.axis ((s.doorMembers d).head?.getD 0)).plan.clamp)
    else s.finish tr status reason s.time.now (s.doorReply d k)

def State.clearDoorMs (d : Nat) (s : State) : State := { s with miles := s.miles.filter fun m => m.kind != MsKind.axisArrival d }

/-- End the command in force on a door; MOVE_TO ends with its own reason. -/
def State.endDoor (d status door move : Nat) (s : State) : State :=
  match (s.door d).cmd with
  | none => s
  | some k => ((s.endDoorCmd d k status (if k.kind = 3 then move else door)).modDoor d fun x => { x with cmd := none }).clearDoorMs d

/-! ## Limits (R135, R139, R243) -/

/-- Configured limits of an axis, with the step clamp of R139. -/
def State.axisLim (s : State) (a : Nat) : Lim :=
  let r := s.axisMotion a
  { v := min (min (Cfg.AxisMotion.VMAX r) 2000000) (2000000 * 1000 / max 1 (Cfg.AxisMotion.MSPMM r))
    a := min (Cfg.AxisMotion.AMAX r) 20000000, j := min (Cfg.AxisMotion.JMAX r) 400000000, trap := Cfg.AxisMotion.PROF r == 1 }

/-- Period of the channel that drives a member, in ns; the tick where it has none. -/
def State.chanPeriod (s : State) (a : Nat) : Nat :=
  if (s.recs Cfg.Channel.sec).any fun c => Cfg.Channel.NODE c == tgtOf 9 a && Cfg.Channel.DEST c == 3 && Cfg.Channel.RATE c == 1 then 31250 else 125000

/-- KEL: the energy limit of a close, in mJ. -/
def State.kel (s : State) (d : Nat) (nudge : Bool) : Nat :=
  if nudge || (s.doorMembers d).any fun a => (s.axis a).mode == 3 then 4000 else Cfg.DoorCfg.KELIM (s.doorRec d)

/-- R243: the reversal cap of a door, in µm/s. -/
def State.revCap (s : State) (d : Nat) : Nat :=
  let r := s.doorRec d
  let deb := if Cfg.DoorCfg.LCIN r < 64 then 1000 * Cfg.FieldIn.DEB (s.fiRec (Cfg.DoorCfg.LCIN r)) else 0
  let obsn := ((s.doorMembers d).map fun a => Cfg.DoorAxis.OBSN (s.axisRec a)).foldl max 0
  let tch := ((s.doorMembers d).map s.chanPeriod).foldl max 0
  Cfg.DoorCfg.OBSA r * (20000000 - (max (obsn * tch) deb + 281250)) / 1000000000

/-- R243: the energy cap of a member whose door moves by `deltas` (µm), in µm/s. -/
def State.energyCap (s : State) (d : Nat) (nudge : Bool) (deltas : List (Nat × Int)) (delta : Int) : Nat :=
  let den := (deltas.map fun p => s.mass10 p.1 * p.2.natAbs ^ 2).sum
  if den = 0 then 2 ^ 32 else isqrt (2 * s.kel d nudge * 10 ^ 10 * delta.natAbs ^ 2 / den)

/-- Whether a move lowers the coordinate of a member (R234). -/
def State.lowers (s : State) (ts : List (Nat × Int)) : Bool := ts.any fun p => decide (p.2 * oneQ < (s.axis p.1).plan.pQ)

/-- R135: the least share of a limit over the members: l_j·|Δi|/|Δj|. -/
def shareLim (f : Nat → Nat) (deltas : List (Nat × Int)) (di : Int) : Nat :=
  (deltas.filter fun p => p.2 != 0).foldl (fun m p => min m (f p.1 * di.natAbs / p.2.natAbs)) (2 ^ 40)

/-- The members' limits of a move of a door (R120, R135, R243): each axis follows its own profile within the shared ratios. -/
def State.doorLims (s : State) (d : Nat) (ts : List (Nat × Int)) (nudge : Bool) (vcap : Option Nat) (mv : Move) : List (Nat × Int × Lim) :=
  let deltas := ts.map fun p => (p.1, p.2 - roundQ (s.axis p.1).plan.pQ)
  let closing := s.lowers ts
  let v (a : Nat) : Nat :=
    let base := min (orCfg mv.vmax (s.axisLim a).v) (vcap.getD (2 ^ 32))
    let delta := ((deltas.find? fun p => p.1 == a).map (·.2)).getD 0
    let c := if closing then min (min base (s.energyCap d nudge deltas delta)) (s.revCap d) else base
    if nudge then min c (Cfg.DoorCfg.NUDGEV (s.doorRec d)) else c
  deltas.map fun p =>
    let l := s.axisLim p.1
    (p.1, ((ts.find? fun q => q.1 == p.1).map (·.2)).getD 0,
      { v := shareLim v deltas p.2, a := max 1 (shareLim (fun a => orCfg mv.amax (s.axisLim a).a) deltas p.2)
        j := max 1 (shareLim (fun a => orCfg mv.jmax (s.axisLim a).j) deltas p.2)
        trap := if mv.prof = 0 then l.trap else mv.prof == 2 })

/-- R243: VCAPC and KECAP of a closing move. -/
def State.noteCaps (d : Nat) (ts : List (Nat × Int)) (nudge : Bool) (s : State) : State :=
  let deltas := ts.map fun p => (p.1, p.2 - roundQ (s.axis p.1).plan.pQ)
  let e := (deltas.filter fun p => p.2 != 0).foldl (fun m p => min m (s.energyCap d nudge deltas p.2)) (2 ^ 32 - 1)
  let v := (deltas.map fun p => (s.axisLim p.1).v).foldl min (2 ^ 32 - 1)
  let r := s.revCap d
  s.modDoor d fun x => { x with vcapC := min (min e v) r, keCap := decide (e < v) && decide (e < r) }

/-! ## Moving the members -/

/-- Take up a target under limits from the present state (R117 step 6, R123, R124). -/
def Plan.axisGo (now : Nat) (l : Lim) (target : Int) (p : Plan) : Plan :=
  let p1 := { p with limV := l.v, limA := l.a, limJ := l.j, trap := l.trap, target := target, effTgt := target, mode := 1, vcap := l.v, capSrc := 0 }
  match choose l l p.mot target (fun _ => target) with
  | .go ps eff => { p1.start now ps (eff * oneQ) with eta := now + durOf ps, turn := none }.refresh now 0
  | .turn ps => { p1.start now ps (endOf ps p.mot).pQ with turn := some (roundQ (endOf ps p.mot).pQ), eta := 0 }.refresh now 0
  | .halt ps _ => (p1.start now ps (endOf ps p.mot).pQ).refresh now 0
  | .stay => { p1 with eta := 0 }

/-- R244, R245, R251: the trapezoidal stop at OBSA. -/
def Plan.axisHalt (now obsa : Nat) (p : Plan) : Plan :=
  if p.standing then { p with move := none, phases := [], turn := none, mode := 0 }
  else
    let ps := stopPlan { v := 2000000, a := obsa, j := 1, trap := true } p.mot
    ({ p.start now ps (endOf ps p.mot).pQ with move := none, turn := none, eta := 0 }).refresh now 0

/-- Move a door's members to targets. -/
def State.moveMembers (d : Nat) (ts : List (Nat × Int)) (nudge : Bool) (vcap : Option Nat) (mv : Move) (s : State) : State :=
  (s.doorLims d ts nudge vcap mv).foldl (fun s p => s.modAxis p.1 fun x => { x with
    energised := true, mode := if x.mode = 0 then 1 else x.mode
    plan := { (x.plan.axisGo s.time.now p.2.2 p.2.1) with
      move := some { mv with target := p.2.1 }, stop := none
      clamp := b2n (decide ((s.axisLim p.1).v < mv.vmax)) + 2 * b2n (decide ((s.axisLim p.1).a < mv.amax)) + 4 * b2n (decide ((s.axisLim p.1).j < mv.jmax)) } }) s

/-- Halt a door's members at OBSA. -/
def State.haltMembers (d : Nat) (s : State) : State :=
  s.modMembers d fun x => { x with plan := x.plan.axisHalt s.time.now (Cfg.DoorCfg.OBSA (s.doorRec d)) }

/-- The travel ETA of a door: the latest of its members'. -/
def State.doorEta (s : State) (d : Nat) : Nat := ((s.doorMembers d).map fun a => (s.axis a).plan.eta).foldl max 0

def State.doorStands (s : State) (d : Nat) : Bool := (s.doorMembers d).all fun a => (s.axis a).plan.standing

/-- Every member stands at its target. -/
def State.doorThere (s : State) (d : Nat) : Bool :=
  (s.doorMembers d).all fun a => let p := (s.axis a).plan; p.standing && p.pQ == p.target * oneQ && p.move.isSome

/-- Targets of an open width (Q0.16 of STROKE; 0 is full). -/
def State.widthTargets (s : State) (d w : Nat) : List (Nat × Int) :=
  (s.doorMembers d).map fun a =>
    let k := Cfg.DoorAxis.STROKE (s.axisRec a)
    (a, ((if w = 0 then k else divRound (k * w) 65536) : Int))

def State.shutTargets (s : State) (d : Nat) : List (Nat × Int) := (s.doorMembers d).map fun a => (a, 0)

/-! ## Beginning moves -/

def State.setTimer (d : Nat) (t : Option (Nat × Nat)) (s : State) : State := s.modDoor d fun x => { x with timer := t }

/-- The opening move of a door begins. -/
def State.startOpen (d w : Nat) (reopen : Bool) (s : State) : State :=
  let vcap := if s.doorHomed d then none else some (((s.doorMembers d).map fun a => 1000 * Cfg.DoorAxis.HOMEV (s.axisRec a)).foldl min 100000)
  let s1 := (s.modDoor d fun x => { x with width := w, opening := true, reopWait := false, reacting := false, timer := none }).moveMembers d (s.widthTargets d w) false vcap {}
  s1.setDoor d (if reopen then .reopening else .opening)

/-- The closing move of a door begins (R248, R249). -/
def State.startClose (d : Nat) (nudge : Bool) (s : State) : State :=
  let s1 := (s.noteCaps d (s.shutTargets d) nudge).modDoor d fun x => { x with opening := false, reacting := false, timer := none, obsEn := 0, nudged := x.nudged || nudge, obsPend := 0 }
  let s2 := (s1.modMembers d fun x => { x with obsCur := 0, obsForce := 0 }).moveMembers d (s.shutTargets d) nudge none {}
  let s3 := s2.setDoor d (if nudge then .nudging else .closing)
  if nudge then (s3.nudgeOut d true).doorFire 0x62 d [] else s3

/-- A close is wanted: it begins, or waits for the light curtain (R248). -/
def State.wantClose (d : Nat) (nudge : Bool) (s : State) : State :=
  if nudge || !s.curtain d then s.startClose d nudge else s.setTimer d (some (3, s.time.now))

/-- R251: a homing run begins or begins again; a member already made is homed where it stands (log 41). -/
def State.startHoming (d : Nat) (s : State) : State :=
  let s1 := (s.doorMembers d).foldl (fun s a =>
    if s.made a && (s.axis a).plan.standing then s.modAxis a fun x => { x with homed := true, energised := true, mode := if x.mode = 0 then 1 else x.mode, plan := { x.plan with pQ := 0, endQ := 0, target := 0, move := some {} } }
    else
      let r := s.axisRec a
      let p := (s.axis a).plan.pQ
      let tgt := roundQ p - 12 * Cfg.DoorAxis.STROKE r / 10
      let l := { s.axisLim a with v := min (s.axisLim a).v (1000 * Cfg.DoorAxis.HOMEV r) }
      s.modAxis a fun x => { x with homed := false, energised := true, mode := if x.mode = 0 then 1 else x.mode, homeFrom := p, obsCur := 0, obsForce := 0, plan := { (x.plan.axisGo s.time.now l tgt) with move := some { target := tgt } } }) s
  (s1.modDoor d fun x => { x with timer := none, reacting := false, opening := false }).setDoor d .homing

/-- The door becomes LOCKED: OBSCNT and the nudging condition clear; the command that waited for it ends DONE. -/
def State.lockDoor (d : Nat) (s : State) : State :=
  let x := s.door d
  let s0 := if [DState.closing, .nudging].contains x.st then s.journal 4 s.ownCar (le 1 d ++ le 1 x.obsCnt ++ le 1 x.lastObs) else s
  let s1 := (s0.modDoor d fun x => { x with obsCnt := 0, nudge := false, timer := none, reacting := false, opening := false, stepLoss := false })
  let s3 := (s1.modMembers d fun x => { x with plan := { x.plan with move := none, mode := 0 } }).setDoor d .locked
  match (s3.door d).cmd with
  | some k => if k.kind = 0 && !k.cycle then s3 else s3.endDoor d 2 0 0
  | none => s3

/-- R253: a homing fault of a member: FAULT, the command ends, event source 0x63. -/
def State.homingFault (a reason : Nat) (latch : Door → Door) (s : State) : State :=
  let d := s.axisDoor a
  let s1 := (s.modAxis a fun x => { x with homed := false }).haltMembers d
  let s2 := (s1.modDoor d fun x => { latch x with timer := none, reacting := false, reopWait := false, opening := false }).setDoor d .fault
  (s2.endDoor d 4 reason 0x3022).doorFire 0x63 d []

/-! ## Obstruction (R244, R245) -/

/-- R244: an obstruction with its cause bits; those of one boundary fold into one. -/
def State.obstruct (d causes : Nat) (s : State) : State :=
  let x := s.door d
  if !(x.closing || x.st == .homing) || x.reacting then s
  else if x.obsPend ≠ 0 then s.modDoor d fun x => { x with obsPend := x.obsPend ||| causes, lastObs := x.lastObs ||| causes }
  else
    (s.modDoor d fun x => { x with
      obsPend := causes, lastObs := causes, obsCnt := min 255 (x.obsCnt + 1), obsTot := wrapAdd 32 x.obsTot 1, obsDue := s.time.now + 31250 }).doorFire 0x61 d (le 1 causes)

/-- R244: causes counted at an evaluation of a member's channel. -/
def State.obsAxis (d a : Nat) (s : State) : State :=
  let r := s.axisRec a
  let x := s.axis a
  let n := Cfg.DoorAxis.OBSN r
  let cur := decide ((Cfg.DoorAxis.IOBS r : Int) ≤ s.outSum (tgtOf 9 a) 3) && (s.recs Cfg.Channel.sec).any fun c => Cfg.Channel.NODE c == tgtOf 9 a && Cfg.Channel.DEST c == 3
  let ma := divRound (s.mass10 a * (isign x.plan.vQ * x.plan.a)) (4294967296 * 10000)
  let frc := x.lamValid && decide ((1000 * Cfg.DoorCfg.FOBS (s.doorRec d) : Int) ≤ s.thrust a - ma)
  let s1 := s.modAxis a fun y => { y with obsCur := if cur then y.obsCur + 1 else 0, obsForce := if frc then y.obsForce + 1 else 0 }
  let y := s1.axis a
  let b := b2n (cur && decide (n ≤ y.obsCur)) + 2 * b2n (frc && decide (n ≤ y.obsForce))
  if b = 0 then s1 else s1.obstruct d b

/-- R244: the evaluations of a control pass, for every closing door. -/
def State.obstructPass (tick : Bool) (s : State) : State :=
  s.doorNums.foldl (fun s d =>
    if !((s.door d).closing || (s.door d).st == .homing) then s
    else
      let due := (s.doorMembers d).filter fun a => tick || s.chanPeriod a == 31250
      let s1 := due.foldl (fun s a => s.obsAxis d a) s
      if due.isEmpty then s1
      else
        let above := decide (s1.kel d ((s1.door d).st == .nudging) * 10 ^ 10 < s1.energy d)
        let s2 := s1.modDoor d fun x => { x with obsEn := if above then x.obsEn + 1 else 0 }
        let n := ((s2.doorMembers d).map fun a => Cfg.DoorAxis.OBSN (s2.axisRec a)).foldl max 0
        if above && decide (n ≤ (s2.door d).obsEn) then s2.obstruct d 4 else s2) s

/-- R245 step 1, R249, R251: the reaction's boundary: the door stops at OBSA. -/
def State.obsStep (d : Nat) (s : State) : State :=
  let x := s.door d
  if x.obsPend = 0 ∨ s.time.now < x.obsDue then s
  else
    let s1 := (s.modDoor d fun x => { x with obsPend := 0, reacting := true }).haltMembers d
    let s2 := match x.cmd with
      | some k => if k.kind = 3 then s1.endDoor d 4 0 0x3022 else s1
      | none => s1
    if x.st = .closing then s2.setDoor d .reopening else s2

/-- R245 step 2, R247: at standstill the door begins to reopen, or waits for the permit. -/
def State.reopenStep (d : Nat) (s : State) : State :=
  let x := s.door d
  if !x.reacting || !s.doorStands d then s
  else match x.st with
    | .reopening =>
      if s.permitted d then s.startOpen d x.width true
      else (s.modDoor d fun y => { y with reacting := false, reopWait := true, timer := some (2, s.time.now) }).setDoor d .stopped
    | .nudging => (s.modDoor d fun y => { y with reacting := false, nudge := true, timer := some (1, s.time.now) }).setDoor d .stopped
    | .homing => s.modDoor d fun y => { y with reacting := false, timer := some (1, s.time.now) }
    | _ => s.modDoor d fun y => { y with reacting := false }

/-! ## Stops (R117, R131) -/

/-- R117: a command that would take effect at the boundary of a stop ends with it. -/
def State.dropDoorDue (d door move : Nat) (s : State) : State :=
  match (s.door d).next with
  | some k => if k.due ≤ s.time.now then (s.endDoorCmd d k 4 (if k.kind = 3 then move else door)).modDoor d fun x => { x with next := none } else s
  | none => s

/-- The stops due on a door at this boundary: the whole door stops (R136); its command ends. -/
def State.doorStops (d : Nat) (s : State) : State :=
  let ps := (s.doorMembers d).map fun a => (s.axis a).plan
  let due := ps.flatMap fun p => p.stops.filter fun r => decide (r.due ≤ s.time.now)
  match topStop due with
  | none => s
  | some r =>
    let tags := due.filterMap (·.tag)
    let host := due.all (·.tag.isSome)
    let s1 := s.modMembers d fun x => { x with plan := { x.plan with stops := x.plan.stops.filter fun q => !decide (q.due ≤ s.time.now) } }
    let kind := if r.kind = .s1 then StopKind.s1 else StopKind.s2
    let s2 := (s1.endDoor d 4 0x6023 (if host then 0x3021 else 0x3022)).dropDoorDue d 0x6023 (if host then 0x3021 else 0x3022)
    let s3 := (s2.doorMembers d).foldl (fun s a => (s.endInjsOf (tgtOf 9 a)).modAxis a fun x =>
      let l := s.axisLim a
      let ph := stopPlan l x.plan.mot
      let p1 := if x.plan.standing then x.plan else (x.plan.start s.time.now ph (endOf ph x.plan.mot).pQ).refresh s.time.now 0
      { x with plan := { p1 with
        stop := some kind, move := none, turn := none, eta := 0, mode := if kind = .s2 then 4 else 3
        stopTag := if (s.doorMembers d).head? = some a then x.plan.stopTag ++ tags else x.plan.stopTag } }) s2
    let s4 := (s3.modDoor d fun x => { x with timer := none, reacting := false, reopWait := false, obsPend := 0, opening := false }).axisFire 0x34 d (le 1 kind.rank)
    if [DState.opening, .closing, .reopening, .nudging].contains (s4.door d).st then s4.setDoor d .stopped
    else if (s4.door d).st = .homing then s4.setDoor d .unhomed else s4

/-- A door's stop ends when every member stands: its commands end DONE, those of a stop that a later command replaced too. -/
def State.doorStopEnd (d : Nat) (s : State) : State :=
  let tags := (s.doorMembers d).flatMap fun a => (s.axis a).plan.stopTag
  if (!tags.isEmpty || (s.doorMembers d).any fun a => (s.axis a).plan.stop.isSome) && s.doorStands d then
    (tags.foldl (fun s tr => s.done tr (leS 4 (s.doorPos d) ++ zeros 4)) s).modMembers d fun x =>
      { x with plan := { x.plan with stop := none, stopTag := [], mode := if x.plan.stop.isSome then 0 else x.plan.mode } }
  else s

/-! ## Commands at a boundary (R255, R259, R142) -/

/-- A newer command ends the one in force (R259). -/
def State.supersede (d : Nat) (s : State) : State := s.endDoor d 4 0x6021 0x3020

/-- Whether a command would open the door. -/
def State.opens (s : State) (d : Nat) (k : DoorCmd) : Bool :=
  match k.kind with
  | 0 => !(s.lowers (s.widthTargets d k.width)) && !((s.door d).st == .opened && s.doorStands d && (s.widthTargets d k.width).all fun p => (s.axis p.1).plan.pQ == p.2 * oneQ)
  | 3 => (s.doorMembers d).zip ((k.move.map (·.targets)).getD []) |>.any fun p => decide ((s.axis p.1).plan.pQ < p.2 * oneQ)
  | _ => false

/-- The door stands at a commanded open width: OPEN. -/
def State.reachOpen (d : Nat) (s : State) : State :=
  let re := (s.door d).st == .reopening
  let s1 := (s.modDoor d fun x => { x with opening := false, width := match x.cmd with
    | some k => if k.kind = 0 ∧ re = false then k.width else x.width
    | none => x.width }).modMembers d fun x => { x with plan := { x.plan with move := none, mode := 0 } }
  let s2 := s1.setDoor d .opened
  if re then s2.setTimer d (some (1, s.time.now))
  else match (s2.door d).cmd with
    | some k =>
      if k.kind = 0 ∧ k.cycle = true then s2.setTimer d (some (4, s.time.now))
      else if k.kind = 0 then s2.endDoor d 2 0 0 else s2
    | none => s2

/-- A command takes effect on a door. -/
def State.takeDoor (d : Nat) (k : DoorCmd) (s : State) : State :=
  let k := { k with obs0 := (s.door d).obsTot }
  let s1 := ((s.supersede d).modDoor d fun x => { x with cmd := some k, next := none, timer := none, reopWait := false, nudged := false, reacting := false })
  match k.kind with
  | 0 =>
    let ts := s1.widthTargets d k.width
    if ts.all fun p => (s1.axis p.1).plan.standing && (s1.axis p.1).plan.pQ == p.2 * oneQ then s1.reachOpen d
    else if s1.lowers ts then ((s1.noteCaps d ts false).moveMembers d ts false none {}).setDoor d .closing
    else s1.startOpen d k.width false
  | 1 => if s1.doorHomed d && s1.allMade d && (s1.door d).st == .locked then s1.lockDoor d else s1.wantClose d k.nudge
  | 2 =>
    (s1.modDoor d fun x => { x with chatter := false, winFlt := false, lockTo := false, stepLoss := false }).startHoming d
  | _ =>
    match k.move with
    | none => s1
    | some mv =>
      let ts := (s1.doorMembers d).zip mv.targets
      let low := s1.lowers ts
      let s2 := ((if low then s1.noteCaps d ts false else s1).modMembers d fun x => { x with plan := { x.plan with stepOvf := false } }).moveMembers d ts false none { mv with tag := none }
      let s3 := (s2.modDoor d fun x => { x with opening := !low }).setDoor d (if low then .closing else .opening)
      let eta := edgeAt s3.time.phase (max s3.time.now (s3.doorEta d))
      let s4 : State := { (s3.clearDoorMs d) with miles := (s3.clearDoorMs d).miles ++ [{ edge := eta, cls := 3, kind := MsKind.axisArrival d }] }
      s4.axisFire 0x30 d (le 8 eta)

/-- Put a command before a door: one that still waits there is superseded at once. -/
def State.offerDoor (d : Nat) (k : DoorCmd) (s : State) : State :=
  let s1 := match (s.door d).next with
    | some old => s.endDoorCmd d old 4 (if old.kind = 3 then 0x3020 else 0x6021)
    | none => s
  s1.modDoor d fun x => { x with next := some { k with since := s.time.now } }

/-- R255, R259 step 5: the waiting command of a door at a boundary; an S2 stop in progress runs to its end first (R131). -/
def State.doorCommand (d : Nat) (s : State) : State :=
  match (s.door d).next with
  | none => s
  | some k =>
    if s.time.now < k.due then s
    else if s.opens d k && !s.permitted d then s
    else if (s.doorMembers d).any fun a => (s.axis a).plan.stop == some .s2 then s
    else s.takeDoor d k

/-- R256: the permit is withdrawn during an opening move. -/
def State.permitLost (d : Nat) (s : State) : State :=
  let x := s.door d
  if x.opening && (x.st == .opening || x.st == .reopening) && !x.reacting && !s.permitted d then
    let s1 := ((s.haltMembers d).modDoor d fun y => { y with opening := false, timer := none }).setDoor d .stopped
    (s1.endDoor d 4 0x6020 0x3022).doorFire 0x66 d []
  else s

/-- R247: a withheld reopening begins with the permit; the nudging close after it waits for the curtain (timer 7). -/
def State.waitStep (d : Nat) (s : State) : State :=
  let x := s.door d
  match x.timer with
  | some (2, _) => if x.reopWait && s.permitted d then s.startOpen d x.width true else s
  | some (3, _) => if !s.curtain d then s.startClose d (s.nudges d) else s
  | some (7, _) => if !s.curtain d then s.startClose d true else s
  | _ => s

/-- Where a door's move has ended. -/
def State.doorEnds (d : Nat) (s : State) : State :=
  let x := s.door d
  if x.reacting || !s.doorThere d then s
  else match x.st with
    | .opening => if (x.cmd.map (·.kind)) = some 3 then s else s.reachOpen d
    | .reopening => s.reachOpen d
    | .closing =>
      if (s.doorMembers d).all fun a => (s.axis a).plan.target == 0 then
        (if s.allMade d then s.lockDoor d else (s.setTimer d (some (5, s.time.now))).setDoor d .stopped)
      else if (x.cmd.map (·.kind)) = some 0 then s.reachOpen d else s
    | .nudging => if s.allMade d then s.lockDoor d else (s.setTimer d (some (5, s.time.now))).setDoor d .stopped
    | .stopped => match x.timer with
      | some (5, _) => if s.allMade d && s.doorHomed d then s.lockDoor d else s
      | _ => s
    | .homing => if s.doorHomed d && s.allMade d then s.lockDoor d else s
    | _ => s

/-! ## The plans at a boundary -/

/-- R140: the coarse step interpolator over one tick: microsteps in Q32.32 drained, and the axis's set-point. -/
def State.stepTick (a : Nat) (s : State) : State :=
  let x := s.axis a
  if !x.plan.stepIn then s
  else
    let r := s.axisMotion a
    let div := ((s.recs Cfg.StepIn.sec).find? fun r => Cfg.StepIn.AXIS r == a).map Cfg.StepIn.STEPDIV |>.getD 1
    let rate : Nat := if x.stepIvl = 0 then 2000000 else min 2000000 (div * 1000000000 / x.stepIvl)
    let room : Int := (rate : Int) * oneQ * 125 / 1000000
    let n := if 0 ≤ x.stepPend then min x.stepPend room else max x.stepPend (-room)
    let dp := n * 1000 / max 1 (Cfg.AxisMotion.MSPMM r)
    s.modAxis a fun y => { y with stepPend := y.stepPend - n, plan := { y.plan with
      pQ := y.plan.pQ + dp, endQ := y.plan.pQ + dp, vQ := dp * 8000, phases := [], mode := if n = 0 then 0 else 1 } }

/-- One axis at a boundary: its set-points, the second leg of a reversal, its MACC (R139). -/
def State.axisTick (a : Nat) (s : State) : State :=
  let now := s.time.now
  let s1 := s.modAxis a fun x =>
    let p := x.plan
    let p1 := if p.ended now then { p.endAt with turn := none } else p.refresh now 0
    let l : Lim := { v := p.limV, a := p.limA, j := p.limJ, trap := p.trap }
    let p2 := if p.ended now && p.turn.isSome then { p1.axisGo now l p.target with rev := true } else p1
    { x with plan := p2 }
  let s2 := s1.stepTick a
  let k := Cfg.AxisMotion.MSPMM (s2.axisMotion a)
  s2.modAxis a fun x =>
    { x with
      macc := x.plan.pQ * k / 1000
      minc := max (-2000000 * oneQ) (min (2000000 * oneQ) (x.plan.vQ * k / 1000)) / 250000000
      standAt := if x.plan.standing then some (x.standAt.getD now) else none }

/-- The doors of the CAR device at a tick boundary, in the order of R259. -/
def State.doorTick (s : State) : State :=
  if s.boot.role ≠ .car then s
  else
    let s1 := (List.range 4).foldl (fun s a => if s.axisConfigured a then s.axisTick a else s) s
    s1.doorNums.foldl (fun s d => ((((((((s.permitLost d).obsStep d).reopenStep d).doorStops d).doorStopEnd d).doorCommand d).waitStep d).doorEnds d)) s1

/-- R121: the arrival Milestone of a door's MOVE_TO. -/
def State.arriveDoor (d edge : Nat) (s : State) : State :=
  match (s.door d).cmd with
  | some k =>
    if k.kind ≠ 3 then s
    else
      let s1 := s.modMembers d fun x => { x with plan := { x.plan with
        pQ := x.plan.target * oneQ, endQ := x.plan.target * oneQ, vQ := 0, a := 0, j := 0, aMean := 0, phase := 0, phases := [], mode := 0, eta := 0 } }
      let s2 := match k.tag with
        | some tr => s1.finish tr 2 0 edge (moveReply edge (s1.doorPos d) (s1.axis ((s1.doorMembers d).head?.getD 0)).plan.clamp)
        | none => s1
      let s3 := ((s2.modDoor d fun x => { x with cmd := none, opening := false }).clearDoorMs d).axisFire 0x31 d []
      if (s3.doorMembers d).all fun a => (s3.axis a).plan.target == 0 then
        (if s3.allMade d then s3.lockDoor d else (s3.setTimer d (some (5, s3.time.now))).setDoor d .stopped)
      else (s3.modMembers d fun x => { x with plan := { x.plan with move := none } }).setDoor d .stopped
  | none => s

/-- R250: homing in place on entry to stage 5: member switches made for 100 ms. -/
def State.homeInPlace (s : State) : State :=
  if s.boot.role ≠ .car then s
  else s.doorNums.foldl (fun s d =>
    if (s.door d).st == .unhomed && (s.doorMembers d).all fun a => s.made a && decide ((s.fi (Cfg.DoorAxis.CLSW (s.axisRec a))).at0 + 100000000 ≤ s.time.now) then
      (s.modMembers d fun x => { x with homed := true, energised := true, mode := 1, plan := { x.plan with pQ := 0, endQ := 0, vQ := 0, a := 0, phases := [] } }).lockDoor d
    else s) s

/-! ## The switch (R251-R253) -/

/-- A debounced transition of an axis's switch; `e` is the edge instant (R287). -/
def State.switchEdge (a e : Nat) (s : State) : State :=
  let d := s.axisDoor a
  let x := s.axis a
  let m := s.made a
  let again := match x.swAt with
    | some t0 => decide (s.time.now < t0 + 20000000)
    | none => false
  let s1 := s.modAxis a fun y => { y with sw := m, swAt := some s.time.now }
  let at0 := (x.plan.motAt e).pQ
  if again then s1.homingFault a 0x6022 fun y => { y with chatter := true }
  else if (s.door d).st = .homing then
    (if m && !x.homed then
      let now := (x.plan.motAt s.time.now)
      let p0 := { x.plan with pQ := now.pQ - at0, vQ := now.vQ, a := now.aQ, pQ0 := x.plan.pQ0 - at0, endQ := x.plan.endQ - at0 }
      let l : Lim := { v := 1000 * Cfg.DoorAxis.HOMEV (s.axisRec a), a := Cfg.DoorCfg.OBSA (s.doorRec d), j := 1, trap := true }
      s1.modAxis a fun y => { y with homed := true, plan := { (p0.axisGo s.time.now l 0) with move := some {} } }
    else s1)
  else if !x.homed then s1
  else if 10 * Cfg.DoorAxis.CLWIN (s.axisRec a) < (roundQ at0).natAbs then s1.homingFault a 0x6022 fun y => { y with winFlt := true }
  else if !m && (s.door d).st == .locked && !(s.door d).opening then s1.homingFault a 0x6022 fun y => { y with winFlt := true }
  else s1

/-- R244, R248: a transition of a light curtain's input. -/
def State.curtainEdge (d : Nat) (s : State) : State :=
  if s.curtain d && ((s.door d).st == .closing || (s.door d).st == .homing) then s.obstruct d 8 else s

/-! ## Rows -/

/-- PERMIT_RECORD (R255, R256). -/
def execPermitRecord (t : Nat) (rec : PermitRec) (s : State) : Host.Outcome State Fault Refusal :=
  let s := s.advance t
  if s.boot.role ≠ .car then ok s
  else
    let s1 := { s with crole := { s.crole with permit := some (rec, s.time.now) } }
    ok (s1.doorNums.foldl (fun s d => s.permitLost d) s1)

/-- DOOR_REQUEST_RECORD (R258): a new RSEQ is a device command of the CAR device at AT; R258 hears it at the next boundary
where AT has passed. -/
def execDoorRequestRecord (t : Nat) (rec : DoorReq) (s : State) : Host.Outcome State Fault Refusal :=
  let s := s.advance t
  if s.boot.role ≠ .car then ok s
  else
    let s1 := { s with crole := { s.crole with request := some rec } }
    if s.crole.lastRseq = some rec.rseq then ok s1
    else
      let s2 := { s1 with crole := { s1.crole with lastRseq := some rec.rseq } }
      if rec.dreq = 0 then ok s2
      else ok { s2 with
        crole := { s2.crole with reqs := s2.crole.reqs ++ [rec] }
        miles := s2.miles ++ [{ edge := max (edgeAt s.time.phase rec.act) s.time.now, cls := 6, kind := .door rec.rseq }] }

/-- R258: a request acts: a DOOR_OPEN for every door it names. -/
def State.actRequest (rseq : Nat) (s : State) : State :=
  match s.crole.reqs.find? fun r => r.rseq == rseq with
  | none => s
  | some r =>
    let s1 := { s with crole := { s.crole with reqs := s.crole.reqs.filter fun q => q.rseq != rseq } }
    (s1.doorNums.filter fun d => bit r.dreq d && (s1.door d).st != .fault && s1.doorHomed d).foldl (fun s d =>
      s.offerDoor d { kind := 0, width := r.width, cycle := bit r.dflg 0 && !bit r.dflg 1, dwell := r.dwell, due := s.time.now }) s1

/-- PERMIT_TIMEOUT (R255): 500 ms without the permit. -/
def execPermitTimeout (t door : Nat) (s : State) : Host.Outcome State Fault Refusal :=
  let s := s.advance t
  match (s.door door).next with
  | none => ok s
  | some k =>
    if (k.kind = 0 ∨ k.kind = 3) ∧ k.since + 500000000 ≤ s.time.now ∧ !s.permitted door then
      ok ((s.modDoor door fun x => { x with next := none }).endDoorCmd door k 4 0x6020)
    else ok s

/-- REDWELL_EXPIRY (R245 step 3, R247, R249, R251). -/
def execRedwellExpiry (t door : Nat) (s : State) : Host.Outcome State Fault Refusal :=
  let s := s.advance t
  match (s.door door).timer with
  | some (1, t0) =>
    if s.time.now < t0 + 1000000 * Cfg.DoorCfg.REDWELL (s.doorRec door) then ok s
    else
      let s1 := s.setTimer door none
      if (s.door door).st = .homing ∨ !s.doorHomed door then ok (s1.startHoming door)
      else ok (s1.wantClose door (s1.nudges door))
  | _ => ok s

/-- REOPWAIT_TIMEOUT (R247). -/
def execReopwaitTimeout (t door : Nat) (s : State) : Host.Outcome State Fault Refusal :=
  let s := s.advance t
  match (s.door door).timer with
  | some (2, t0) =>
    if s.time.now < t0 + 500000000 then ok s
    else
      let s1 := s.modDoor door fun x => { x with reopWait := false, nudge := true, timer := some (7, s.time.now) }
      if s1.curtain door then ok s1 else ok (s1.startClose door true)
  | _ => ok s

/-- LCHOLD_EXPIRY (R248). -/
def execLcholdExpiry (t door : Nat) (s : State) : Host.Outcome State Fault Refusal :=
  let s := s.advance t
  match (s.door door).timer with
  | some (3, t0) =>
    if s.time.now < t0 + 1000000000 * Cfg.DoorCfg.LCHOLD (s.doorRec door) ∨ !s.curtain door then ok s else ok (s.startClose door true)
  | _ => ok s

/-- DWELL_EXPIRY (R258). -/
def execDwellExpiry (t door : Nat) (s : State) : Host.Outcome State Fault Refusal :=
  let s := s.advance t
  match (s.door door).timer, (s.door door).cmd with
  | some (4, t0), some k =>
    if s.time.now < t0 + 1000000 * k.dwell then ok s else ok ((s.setTimer door none).wantClose door (s.nudges door))
  | _, _ => ok s

/-- STEP_LOSS (R240): an obstruction during a closing move, else an S2 stop and FAULT. -/
def execStepLoss (t axis : Nat) (s : State) : Host.Outcome State Fault Refusal :=
  let s := s.advance t
  let x := s.axis axis
  let d := s.axisDoor axis
  if x.lossRun < 4 ∨ !s.axisConfigured axis then ok s
  else
    let s1 := ((s.modAxis axis fun y => { y with homed := false, lossRun := 0 }).modDoor d fun y => { y with stepLoss := true }).doorFire 0x65 d []
    if (s.door d).closing then ok (s1.obstruct d 16)
    else ok ((s1.askDoorStop .s2 none d).setDoor d .fault)

/-- REGULATION_FAILURE (R237). -/
def execRegulationFailure (t axis : Nat) (s : State) : Host.Outcome State Fault Refusal :=
  let s := s.advance t
  let x := s.axis axis
  if x.mode = 2 ∧ 48 ≤ x.errRun then
    ok ((s.modAxis axis fun y => { y with mode := 3, errRun := 0, fails := y.fails + 1, stuckChop := y.stuckChop || decide (2 ≤ y.fails), lamValid := false, lossRun := 0 }).doorFire 0x64 (s.axisDoor axis) [])
  else ok s

/-- CHOPPER_EXIT (R237). -/
def execChopperExit (t axis : Nat) (s : State) : Host.Outcome State Fault Refusal :=
  let s := s.advance t
  let x := s.axis axis
  match x.standAt with
  | some t0 =>
    if x.mode = 3 ∧ !x.stuckChop ∧ t0 + 100000000 ≤ s.time.now then
      ok ((s.modAxis axis fun y => { y with mode := 1 }).doorFire 0x64 (s.axisDoor axis) [])
    else ok s
  | none => ok s

/-- CLTIME_TIMEOUT (R253): no make within CLTIME: LOCKTO, the command ends ABORTED with 0x6024; every member
not made is un-homed. -/
def execCltimeTimeout (t door : Nat) (s : State) : Host.Outcome State Fault Refusal :=
  let s := s.advance t
  match (s.door door).timer with
  | some (5, t0) =>
    if s.time.now < t0 + 1000000 * Cfg.DoorCfg.CLTIME (s.doorRec door) ∨ s.allMade door then ok s
    else match (s.doorMembers door).filter fun a => !s.made a with
      | a :: l =>
        ok ((l.foldl (fun (s : State) b => s.modAxis b fun y => { y with homed := false }) s).homingFault a 0x6024 fun y => { y with lockTo := true })
      | [] => ok s
  | _ => ok s

/-- HOMING_TRAVEL_FAULT (R251): 1.1 × STROKE without a make. -/
def execHomingTravelFault (t axis : Nat) (s : State) : Host.Outcome State Fault Refusal :=
  let s := s.advance t
  let x := s.axis axis
  if (s.door (s.axisDoor axis)).st = .homing ∧ !x.homed ∧ 11 * Cfg.DoorAxis.STROKE (s.axisRec axis) * 4294967296 ≤ 10 * ((x.plan.motAt s.time.now).pQ - x.homeFrom).natAbs then
    ok (s.homingFault axis 0x6022 id)
  else ok s

/-- STEP_INPUT_OVERRUN (R140): event source 0x36, the count discarded, an S1 stop of the axis. -/
def execStepInputOverrun (t axis : Nat) (s : State) : Host.Outcome State Fault Refusal :=
  let s := s.advance t
  if (65535 * oneQ).natAbs < (s.axis axis).stepPend.natAbs then
    let s1 := s.modAxis axis fun x => { x with stepPend := 0, plan := { x.plan with stepOvf := true } }
    ok ((s1.fire 0x36 (tgtOf 9 axis) 0 ((s1.axis axis).plan.items axis)).askDoorStop .s1 none (s.axisDoor axis))
  else ok s

/-- R140: a coarse step; an opposite step cancels pending microsteps by its sign. -/
def State.coarseStep (a : Nat) (up : Bool) (e : Nat) (s : State) : State :=
  let div := ((s.recs Cfg.StepIn.sec).find? fun r => Cfg.StepIn.AXIS r == a).map Cfg.StepIn.STEPDIV |>.getD 0
  s.modAxis a fun x => { x with
    stepPend := x.stepPend + (if up = true then (div : Int) else -(div : Int)) * oneQ
    stepIvl := match x.stepLast with
      | some t0 => e - t0
      | none => x.stepIvl
    stepLast := some e }

/-! ## The drive at a PWM period (R235-R240) -/

/-- Signed difference of angles, −512 to 511. -/
def angleDiff (a b : Int) : Int := (a - b + 512) % 1024 - 512

/-- Duty of a voltage in µV against VDRV, 0.5 ± V/(2 VDRV), in 2^-16, held to 0-1 (log 42). -/
def dutyOf (v vdrv : Int) : Int := max 0 (min 65536 (32768 + if vdrv = 0 then 0 else v * 32768 / vdrv))

/-- R237: a phase of the chopper at a PWM period, as sampled there: on until the current reaches its set-point, then off for
TOFF, fast decay for the first TFAST and slow decay for the rest (units of 0.1 µs). Answers the duty and since when the phase
is off (log 42). -/
def chopPhase (now tfast toff : Nat) (m set : Int) (off : Option Nat) : Int × Option Nat :=
  let on : Int := if 0 ≤ set then 65536 else 0
  let start : Int × Option Nat := if m.natAbs < set.natAbs then (on, none) else (65536 - on, some now)
  match off with
  | none => start
  | some t0 => if now < t0 + 100 * tfast then (65536 - on, off) else if now < t0 + 100 * toff then (32768, off) else start

/-- One axis at a PWM period with its sampled currents in mA. -/
def State.pwmAxis (a : Nat) (ia ib : Int) (s : State) : State :=
  let x := s.axis a
  if !s.axisConfigured a || !x.energised then s.modAxis a fun y => { y with measA := ia, measB := ib, dutyA := 0, dutyB := 0 }
  else
    let r := s.axisRec a
    let th := (x.macc / 4294967296) % 1024
    let i := s.demandOf a
    let v := (roundQ x.plan.vQ).natAbs
    let mode := if x.mode = 1 ∧ Cfg.DoorAxis.VSUP r ≤ v then 2 else if x.mode = 2 ∧ v < Cfg.DoorAxis.VSDN r then 1 else x.mode
    let vdrv : Int := Cfg.DoorAxis.VDRV r * 100000
    let amp : Int := min vdrv (i * Cfg.DoorAxis.RCOIL r + Cfg.DoorAxis.KEMF r * v / 1000)
    let qa := divRound (amp * cos1024 th) (2 ^ 30)
    let qb := divRound (amp * sin1024 th) (2 ^ 30)
    let sa := divRound (i * cos1024 th) (2 ^ 30)
    let sb := divRound (i * sin1024 th) (2 ^ 30)
    let ki (e : Int) : Int := divRound (e * Cfg.DoorAxis.RCOIL r * 2617994) 10000000
    let kp (e : Int) : Int := divRound (e * Cfg.DoorAxis.LCOIL r * 1256637) 10000
    let ja := if mode = 2 ∧ x.mode ≠ 2 then qa else x.intA + ki (sa - ia)
    let jb := if mode = 2 ∧ x.mode ≠ 2 then qb else x.intB + ki (sb - ib)
    let va := if mode = 1 then qa else kp (sa - ia) + ja
    let vb := if mode = 1 then qb else kp (sb - ib) + jb
    let ca := chopPhase s.time.now (Cfg.DoorAxis.TFAST r) (Cfg.DoorAxis.TOFF r) ia sa x.offA
    let cb := chopPhase s.time.now (Cfg.DoorAxis.TFAST r) (Cfg.DoorAxis.TOFF r) ib sb x.offB
    let ok := mode != 3 && decide (5000 ≤ v)
    let dir : Int := isign x.plan.vQ
    let lam := dir * angleDiff th ((Config.rotorAngle a s.free).toNat : Int)
    let bad := decide ((Cfg.DoorAxis.REGERR r : Int) < (sa - ia).natAbs) || decide ((Cfg.DoorAxis.REGERR r : Int) < (sb - ib).natAbs)
    { (s.modAxis a fun y => { y with
        mode := mode, measA := ia, measB := ib, current := i.toNat
        dutyA := if mode = 3 then ca.1 else dutyOf va vdrv
        dutyB := if mode = 3 then cb.1 else dutyOf vb vdrv
        offA := if mode = 3 then ca.2 else none, offB := if mode = 3 then cb.2 else none
        intA := if mode = 2 then ja else 0, intB := if mode = 2 then jb else 0
        errRun := if mode = 2 ∧ bad then y.errRun + 1 else 0
        lamValid := ok, lambda := if ok then lam else y.lambda, obsV := if ok then Config.observerSpeed a s.free else y.obsV
        lamSum := if ok then y.lamSum + lam else y.lamSum, lamN := if ok then y.lamN + 1 else y.lamN
        lamSum8 := if ok then y.lamSum8 + lam else y.lamSum8, lamN8 := if ok then y.lamN8 + 1 else y.lamN8
        lossRun := if ok then (if 384 ≤ lam.natAbs then y.lossRun + 1 else 0) else y.lossRun }) with
      free := if ok then s.free + 1 else s.free }

/-- PWM_PERIOD (R235-R240): currents of phases A and B of A0-A3, in mA. -/
def execPwmPeriod (t : Nat) (currents : List Int) (s : State) : Host.Outcome State Fault Refusal :=
  let s := s.advance t
  if s.boot.role ≠ .car then ok s
  else ok ((List.range 4).foldl (fun s a => s.pwmAxis a (currents.getD (2 * a) 0) (currents.getD (2 * a + 1) 0)) s)

/-! ## Cards -/

/-- R261, 0x6014: the door a command names. -/
def State.doorTgt (s : State) (tr : TagRec) : Nat := (s.doorOf tr.tgt).getD 0
def State.grouped (s : State) (tr : TagRec) : Own := refuseIf (s.doorOf tr.tgt).isNone 0x6014

/-- R261: not homed, in FAULT. -/
def State.doorReady (s : State) (tr : TagRec) : Own :=
  let d := s.doorTgt tr
  firstOf [refuseIf ((s.door d).st == .fault) 0x6012, refuseIf (!s.doorHomed d) 0x6011]

def doorOpenOwn (s : State) (tr : TagRec) (d : List Byte) : Own :=
  firstOf [s.grouped tr, refuseIf s.swapping 0xB014, s.doorReady tr, refuseIf (decide (60000 < rd d 4 2)) 0xFF07]

def doorOpenEff (tr : TagRec) (d : List Byte) (s : State) : State :=
  s.offerDoor (s.doorTgt tr) { tag := some tr, kind := 0, width := rd d 0 2, cycle := bit (rd d 2 1) 0, dwell := rd d 4 2, due := s.time.now }

def doorOpenCard : CardDef where
  k := { opc := 0x6001, role := 2, query := false, kinds := [9, 10], lead := some 250000 }
  lenOk := lenIs 8
  own := doorOpenOwn
  eff := doorOpenEff

/-- DOOR_OPEN (R255). -/
def execDoorOpen (h : Hdr) (data : List Byte) (s : State) : Host.Outcome State Fault Refusal := ok (runCard doorOpenCard h data s)

def doorCloseOwn (s : State) (tr : TagRec) (d : List Byte) : Own :=
  firstOf [s.grouped tr, refuseIf s.swapping 0xB014, s.doorReady tr, refuseIf ((s.door (s.doorTgt tr)).st == .reopening) 0x6015, refuseIf (decide (1 < rd d 0 1)) 0xFF07]

def doorCloseEff (tr : TagRec) (d : List Byte) (s : State) : State :=
  s.offerDoor (s.doorTgt tr) { tag := some tr, kind := 1, nudge := rd d 0 1 == 1, due := s.time.now }

def doorCloseCard : CardDef where
  k := { opc := 0x6002, role := 2, query := false, kinds := [9, 10], lead := some 250000 }
  lenOk := lenIs 4
  own := doorCloseOwn
  eff := doorCloseEff

/-- DOOR_CLOSE (R259). -/
def execDoorClose (h : Hdr) (data : List Byte) (s : State) : Host.Outcome State Fault Refusal := ok (runCard doorCloseCard h data s)

def doorHomeOwn (s : State) (tr : TagRec) (_d : List Byte) : Own :=
  firstOf [s.grouped tr, refuseIf s.swapping 0xB014, refuseIf ((s.door (s.doorTgt tr)).st == .homing) 0x6013]

def doorHomeEff (tr : TagRec) (_d : List Byte) (s : State) : State := s.offerDoor (s.doorTgt tr) { tag := some tr, kind := 2, due := s.time.now }

def doorHomeCard : CardDef where
  k := { opc := 0x6003, role := 2, query := false, kinds := [9, 10] }
  lenOk := lenIs 0
  own := doorHomeOwn
  eff := doorHomeEff

/-- DOOR_HOME (R251). -/
def execDoorHome (h : Hdr) (data : List Byte) (s : State) : Host.Outcome State Fault Refusal := ok (runCard doorHomeCard h data s)

def doorStatusReply (s : State) (tr : TagRec) (_d : List Byte) : List Byte :=
  let d := s.doorTgt tr
  let x := s.door d
  let ms := s.doorMembers d
  let f := (ms.map s.thrust).foldl max 0
  le 1 d ++ le 1 x.st.code ++ le 2 (s.dstat d) ++ le 1 x.obsCnt ++ le 1 x.lastObs
    ++ le 1 ((List.range 4).foldl (fun n a => n + 4 ^ a * modeCode (s.axis a)) 0) ++ zeros 1
    ++ (List.range 4).flatMap (fun a => leS 4 (if ms.contains a then roundQ (s.axis a).plan.pQ else 0))
    ++ le 2 (satN 16 (s.energy d / 10 ^ 10)) ++ le 2 (satN 16 (f / 1000).toNat) ++ le 4 x.vcapC ++ le 4 x.obsTot ++ zeros 4

def doorStatusCard : CardDef where
  k := { opc := 0x6004, role := 2, query := true, kinds := [9, 10] }
  lenOk := lenIs 0
  own := fun s tr _ => s.grouped tr
  eff := answer doorStatusReply

/-- DOOR_STATUS (R257). -/
def execDoorStatus (h : Hdr) (data : List Byte) (s : State) : Host.Outcome State Fault Refusal := ok (runCard doorStatusCard h data s)

end Sys2Proof.Machine
end

