-- ==== Sys2Proof/Machine/Motion.lean ====
section
/-! DEFINITION. The class 0x3 motion cards of cars and door axes (file 05: R129-R131, R136, R142, R143) and WAITMAX. -/

namespace Sys2Proof.Machine

/-! ## MOVE_TO -/

/-- The move a payload asks for. -/
def moveOf (tr : TagRec) (d : List Byte) : Move :=
  { tag := some tr, elem := rd d 0 1, prof := rd d 1 1, revok := bit (rd d 2 1) 0, target := rdS d 4 4
    targets := [rdS d 4 4, rdS d 24 4, rdS d 28 4, rdS d 32 4], vmax := rd d 8 4, amax := rd d 12 4, jmax := rd d 16 4, waitMax := rd d 20 4 }

/-- The boundary that a command accepted now, or at its edge, can reach (R116). -/
def State.reachAt (s : State) : Nat := boundaryAfter s.time.phase tickNs (s.time.now + 31250 - 1)

/-- R126: a target in another element must lie ahead along the loop. -/
def State.aheadOf (s : State) (c e : Nat) : Bool := (s.route (s.car c).pos.elem e).isSome

/-- 0x3010: the car's extent at the target passes a fixed limit. -/
def State.pastLimits (s : State) (c e : Nat) (p : Int) : Bool :=
  let l := s.limits e
  decide (l.2 < p + s.extUp c e) || decide (p - s.extDn c e < l.1)

/-- R143 for a car. -/
def State.moveOwnCar (s : State) (c : Nat) (mv : Move) : Own :=
  let x := s.car c
  let m := x.plan.motAt s.reachAt
  let here := mv.elem == x.pos.elem
  let rev := here && isReversal (s.svcLim c) m mv.target
  firstOf [
    refuseIf s.safe.land 0x7014,
    refuseIf s.swapping 0xB014,
    refuseIf (x.svc.mode != 0) 0x3015,
    refuseIf (x.plan.stop == some .s2 || x.plan.stop == some .s3 || s.safe.latch) 0x3016,
    refuseIf (x.pos.trust == 0) 0x3019,
    refuseIf (s.inspected c) 0x3025,
    refuseIf (!(s.elems.contains mv.elem) || !(here || s.aheadOf c mv.elem)) 0x3011,
    refuseIf (s.pastLimits c mv.elem mv.target) 0x3010,
    refuseIf (x.prop.seq == .braked && x.stands && (s.meter.seqErr || s.meter.neutLoss)) 0xA010,
    refuseIf (rev && !mv.revok) 0x3013,
    refuseIf (rev && !s.reversalHeld c m mv.target) 0x3012,
    refuseIf (decide (2 < mv.prof)) 0xFF07]

/-- R143, R136 for a door's node. -/
def State.moveOwnDoor (s : State) (tr : TagRec) (mv : Move) : Own :=
  let d := s.doorTgt tr
  let ms := s.doorMembers d
  let ts := ms.zip mv.targets
  let k : DoorCmd := { kind := 3, move := some mv }
  firstOf [
    refuseIf (s.doorOf tr.tgt).isNone 0x3014,
    refuseIf s.swapping 0xB014,
    refuseIf (!s.doorHomed d) 0x3017,
    refuseIf (ms.any fun a => (s.axis a).plan.stepIn) 0x3018,
    refuseIf (ms.any fun a => (s.axis a).plan.stop == some .s2) 0x3016,
    refuseIf (ts.any fun p => decide (p.2 < 0) || decide ((Cfg.DoorAxis.STROKE (s.axisRec p.1) : Int) < p.2)) 0x3010,
    refuseIf (!mv.revok && ts.any fun p => isReversal (s.axisLim p.1) ((s.axis p.1).plan.motAt s.reachAt) p.2) 0x3013,
    refuseIf (s.opens d k && !s.permitted d) 0x6010,
    refuseIf (decide (2 < mv.prof)) 0xFF07]

def moveToOwn (s : State) (tr : TagRec) (d : List Byte) : Own :=
  if s.boot.role = .lane then s.moveOwnCar (tgtIdx tr.tgt) (moveOf tr d) else s.moveOwnDoor tr (moveOf tr d)

/-- R142: the move waits for its boundary; one that waits already is superseded. -/
def moveToEff (tr : TagRec) (d : List Byte) (s : State) : State :=
  let mv := { moveOf tr d with due := s.time.now + 31250 }
  if s.boot.role = .lane then
    let c := tgtIdx tr.tgt
    (s.dropNext c 4 0x3020).modPlan c fun p => { p with next := some mv }
  else s.offerDoor (s.doorTgt tr) { tag := some tr, kind := 3, move := some mv, due := s.time.now + 31250 }

/-- The ACCEPTED payload: predicted arrival, effective target, clamps and reversal. -/
def moveToAcc (s : State) (tr : TagRec) : List Byte :=
  if s.boot.role = .lane then
    let c := tgtIdx tr.tgt
    match s.planOf c |>.next with
    | none => zeros 16
    | some mv =>
      let m := (s.planOf c).motAt s.reachAt
      let lt := s.legTarget c mv
      let d := dirOf m lt
      let q := s.moveLim c mv lt
      let p := s.predict c mv s.reachAt m
      let eff := nearer d lt (s.farFrom c mv d)
      moveReply p.1 (if mv.elem = (s.car c).pos.elem then eff else if eff = lt then mv.target else eff) (q.2.2 + 8 * b2n p.2)
  else
    let d := s.doorTgt tr
    match (s.door d).next.bind (·.move) with
    | none => zeros 16
    | some mv =>
      let ts := (s.doorMembers d).zip mv.targets
      let eta := (s.doorLims d ts false none mv).map fun p =>
        durOf (planPhases p.2.2 ((s.axis p.1).plan.motAt s.reachAt) p.2.1)
      let a := (s.doorMembers d).head?.getD 0
      let l := s.axisLim a
      moveReply (s.reachAt + eta.foldl max 0) mv.target (b2n (decide (l.v < mv.vmax)) + 2 * b2n (decide (l.a < mv.amax)) + 4 * b2n (decide (l.j < mv.jmax)))

def moveToCard : CardDef where
  k := { opc := 0x3001, role := 3, query := false, kinds := [8], kindsC := some [9, 10], lead := some 250000 }
  lenOk := lenIs 36
  own := moveToOwn
  eff := moveToEff
  acc := moveToAcc

/-- MOVE_TO (R142). -/
def execMoveTo (h : Hdr) (data : List Byte) (s : State) : Host.Outcome State Fault Refusal := ok (runCard moveToCard h data s)

/-! ## MOVE_STOP -/

def moveStopOwn (s : State) (tr : TagRec) (d : List Byte) : Own :=
  firstOf [
    refuseIf (s.boot.role == .car && (s.doorOf tr.tgt).isNone) 0x3014,
    refuseIf (rd d 0 1 != 1 && rd d 0 1 != 2) 0xFF07]

/-- R131: the stop takes effect at its boundary; a standing plan with no move is DONE at once. -/
def moveStopEff (tr : TagRec) (d : List Byte) (s : State) : State :=
  let k := if rd d 0 1 = 1 then StopKind.s1 else StopKind.s2
  if s.boot.role = .lane then
    let c := tgtIdx tr.tgt
    let p := s.planOf c
    if p.standing ∧ p.move.isNone ∧ p.next.isNone ∧ p.stop.isNone then s.done tr (leS 4 (roundQ p.pQ) ++ zeros 4)
    else s.askStop k (some tr) c
  else
    let d := s.doorTgt tr
    if s.doorStands d ∧ (s.door d).cmd.isNone ∧ (s.door d).next.isNone then s.done tr (leS 4 (s.doorPos d) ++ zeros 4)
    else s.askDoorStop k (some tr) d

def moveStopCard : CardDef where
  k := { opc := 0x3002, role := 3, query := false, kinds := [8], kindsC := some [9, 10], lead := some 125000 }
  lenOk := lenIs 4
  own := moveStopOwn
  eff := moveStopEff

/-- MOVE_STOP (R131). -/
def execMoveStop (h : Hdr) (data : List Byte) (s : State) : Host.Outcome State Fault Refusal := ok (runCard moveStopCard h data s)

/-! ## MOTION_READ -/

/-- MOTION_READ's reply for a plan. -/
def Plan.readReply (elem : Nat) (stop : Int) (tag : Option TagRec) (p : Plan) : List Byte :=
  leS 4 (roundQ p.pQ) ++ leS 4 (roundQ p.vQ) ++ leS 4 (roundQ p.a) ++ leS 4 p.j ++ leS 4 p.target ++ leS 4 p.effTgt ++ leS 4 stop
    ++ le 1 elem ++ le 1 p.phase ++ le 2 p.motStat ++ le 8 p.eta ++ le 4 p.vcap ++ le 1 p.capSrc
    ++ le 1 ((tag.map (·.pair)).getD 0) ++ le 2 ((tag.map (·.tag)).getD 0xFFFF)

/-- A group reads as its lowest member axis (log 45). -/
def motionReadReply (s : State) (tr : TagRec) (_d : List Byte) : List Byte :=
  let i := tgtIdx tr.tgt
  if s.boot.role = .lane then
    let p := s.planOf i
    p.readReply (s.car i).pos.elem (roundQ (stopPoint (s.svcLim i) p.mot)) (p.move.bind (·.tag))
  else
    let a := if tgtKind tr.tgt = 9 then i else (s.groupMembers i).head?.getD 0
    let p := (s.axis a).plan
    p.readReply 0 (roundQ (stopPoint (s.axisLim a) p.mot)) (((s.door (s.axisDoor a)).cmd.bind fun k => if k.kind = 3 then k.tag else none))

def motionReadCard : CardDef where
  k := { opc := 0x3003, role := 3, query := true, kinds := [8], kindsC := some [9, 10] }
  lenOk := lenIs 0
  eff := answer motionReadReply

/-- MOTION_READ (R129). -/
def execMotionRead (h : Hdr) (data : List Byte) (s : State) : Host.Outcome State Fault Refusal := ok (runCard motionReadCard h data s)

/-! ## WAITMAX (R130) -/

/-- WAITMAX_EXPIRY: the car has stood at the authority stop for WAITMAX. -/
def execWaitmaxExpiry (t car : Nat) (s : State) : Host.Outcome State Fault Refusal :=
  let s := s.advance t
  let p := s.planOf car
  match p.move, p.waitAt with
  | some mv, some t0 =>
    if mv.waitMax ≠ 0 ∧ p.effTgt ≠ s.legTarget car mv ∧ t0 + 1000000 * mv.waitMax ≤ s.time.now then
      ok ((s.endMove car 4 0x3023 s.time.now).modPlan car fun q => { q with mode := 0 })
    else ok s
  | _, _ => ok s

end Sys2Proof.Machine
end

