-- ==== Sys2Proof/Machine/Sessions.lean ====
section
/-! DEFINITION. Opening and closing the session of a ring pair (R42, R381, R382, R469). -/

namespace Sys2Proof.Machine

/-- R388: payload of the class 0xC events: VAULT, pair or slot, KEYCTR, reason code. -/
def State.secItems (s : State) (who reason : Nat) : List Byte :=
  le 1 s.vaultCode ++ le 1 who ++ le 4 (s.vault.ctr.getD 0 0) ++ le 2 reason

/-- R42: the tags of a pair end without a reply; its waiting commands are removed. -/
def State.dropTags (p : Nat) (s : State) : State :=
  { s with rings := s.rings.modify p fun r => { r with tags := [] }
           launchQ := s.launchQ.filter fun l => l.tag.pair != p }

/-- R469: the records the device still holds: replies go, events stay, or go with their flags at a change of owner. -/
def State.dropHeld (p : Nat) (ownerChange : Bool) (s : State) : State :=
  let gone := if ownerChange then ((s.ring p).held.filterMap (·.src)) else []
  let s1 := s.modRing p fun r => { r with held := if ownerChange then [] else r.held.filter fun x => x.src.isSome }
  gone.foldl (fun s n => s.unflag n) s1

/-- R382: close the session of a pair, with the records and tags of R42 and R469; event source 0xC2. -/
def State.closeSession (p : Nat) (ownerChange : Bool) (s : State) : State :=
  if (s.ring p).sess.isSome then
    let s1 := ((s.pumpRing p).dropTags p).dropHeld p ownerChange
    let s2 := s1.modRing p fun r => { r with sess := none, recent := [], rxSeq := 1, txSeq := 1, nearRx := false, nearTx := false, fullSince := none }
    s2.fire 0xC2 0 0 (s2.secItems p 0)
  else if ownerChange then s.dropHeld p true else s

/-- R381, R42: a handshake replaces or opens the session of a pair. Tags in flight end ABORTED with 0xC043. -/
def State.bindSession (p : Nat) (se : Session) (s : State) : State :=
  let old := (s.ring p).tags
  let s1 := old.foldl (fun s tr => s.abort tr 0xC043) { s with launchQ := s.launchQ.filter fun l => l.tag.pair != p }
  let s2 := s1.modRing p fun r => { r with sess := some se, recent := [], rxSeq := 1, txSeq := 1, nearRx := false, nearTx := false }
  s2.fire 0xC2 0 0 (s2.secItems p 0)

/-- Every session closes (R385, R425). -/
def State.closeAll (s : State) : State := pairNums.foldl (fun s p => s.closeSession p false) s

end Sys2Proof.Machine
end

