-- ==== Sys2Proof/Machine/Reset.lean ====
section
/-! DEFINITION. A reset of the control die (files 01, 10, 17: R26, R30, R266, R403-R405): what is lost with its SRAM and
what stays in MRAM, the vault and the field dies. -/

namespace Sys2Proof.Machine

/-! ## What a reset keeps -/

/-- MRAM keeps owner and quota of a ring pair (R28, R49); everything else of it is lost (R42). -/
def Ring.afterReset (r : Ring) : Ring := { owner := r.owner, quota := r.quota }

/-- The image region that was being written keeps its bytes. -/
def Boot.afterReset (cause : Nat) (b : Boot) : Boot :=
  { powerGood := b.powerGood, held := true, rstLow := b.rstLow, cause := b.cause, nextCause := b.nextCause ||| cause
    clockFault := b.clockFault, simNow := b.simNow, imgA := b.imgA, imgB := b.imgB
    shutRecord := b.shutRecord }

/-- R53, R55: the table as MRAM holds it: changes not yet stored are lost (log 17). -/
def Prot.afterReset (p : Prot) : Prot := match p.storing with
  | (_, es, g) :: _ => { entries := es, gen := g }
  | [] => { entries := p.entries, gen := p.gen }

/-- Both copies of the configuration and the calibration stay; what was being staged or written is lost. -/
def ConfigStore.afterReset (c : ConfigStore) : ConfigStore := { a := c.a, b := c.b, crcOk := c.crcOk, calib := c.calib }

/-- R404: the field dies keep trip latch, ARM bits and pair levels; faults that a release clears stay (R277); the causes
that still stand are the clock fault, a die link that is down and TRIP_IN (R266). -/
def Safe.afterReset (x : Safe) (stand : Nat) : Safe :=
  { si := x.si, pairs := x.pairs.map fun p => { p with closedT := 0, wantOff := false }, latch := x.latch, netA := x.netA, netB := x.netB
    firstC := x.firstC, tripAt := x.tripAt, causes := x.causes &&& stand, so := x.so, soBad := x.soBad, trunkLvl := x.trunkLvl
    faults := (x.faults.filter fun f => decide (5 ≤ f.react)).map fun f => { f with begun := true }
    tripIn := x.tripIn, tripOut := x.tripOut, latchSeen := x.latchSeen }

/-- R297, R404: keep-alives stop, so each field die releases its outputs; latches and group states stay. -/
def Field.afterReset (x : Field) : Field :=
  { x with die := x.die.map fun d => { d with released := true, byTimeout := true, goodRun := 0, report := d.report || (d.everDrive && !d.released), due := false }
           evGrp := [], evLow := 0, evStale := [] }

/-- R330: the two slots stay in the metering store. -/
def Meter.afterReset (m : Meter) : Meter :=
  { slot0 := m.slot0, slot1 := m.slot1, regs := List.replicate 4 0, ep := [0, 0], mp := [0, 0], epOvf := [false, false] }

/-- The lines from the partner stay as they are (R344); this unit drives none. -/
def Pair.afterReset (p : Pair) : Pair := { pntIn := p.pntIn, pntInAt := p.pntInAt, hbLine := p.hbLine, partner := 0xFF }

/-- R364-R366: the vault keeps everything but the refusals that hold until reset. -/
def Vault.afterReset (v : Vault) : Vault := { v with checked := false, refuse := false, trngBad := false }

/-- R370, R375: identity records, key slots, the Custodian keys and credentials stay in MRAM. -/
def Sec.afterReset (x : Sec) : Sec := { slots := x.slots, cust := x.cust, creds := x.creds, tamper := x.tamper }

/-- R389, R392: committed records stay; records staged are lost. -/
def Ledger.afterReset (l : Ledger) : Ledger := { recs := l.recs, torn := l.torn }

/-- R28, R158: enumerated maps and delays stay in MRAM. -/
def Trunk.afterReset (t : Trunk) : Trunk := { map := t.map, known := t.known, loop := t.loop, closed := t.closed }

/-! ## The reset -/

/-- A reset of the control die with causes in BOOT_CAUSE coding. The die-to-die link stops, so both field dies set their
networks (R266); the set inputs of the safety cores fall with the reset. -/
def State.controlReset (cause : Nat) (s : State) : State :=
  let stand := 0x1000 + (if s.boot.clockFault then 0x2000 else 0) + (if (s.field.die.getD 0 {}).linkDown then 0x200 else 0)
    + (if (s.field.die.getD 1 {}).linkDown then 0x400 else 0)
  let s0 := { s with safe := s.safe.afterReset stand }
  let s1 := s0.trip 0x600 3
  { State.reset with
    boot := s1.boot.afterReset cause
    power := { wakeSrc := 0 }
    time := { now := s1.time.now, frac := s1.time.frac, phase := s1.time.phase }
    rings := s1.rings.map Ring.afterReset
    prot := s1.prot.afterReset
    cfg := s1.cfg.afterReset
    trunks := s1.trunks.map Trunk.afterReset
    safe := { s1.safe with latchSeen := true }
    field := s1.field.afterReset
    meter := s1.meter.afterReset
    pair := s1.pair.afterReset
    vault := s1.vault.afterReset
    sec := s1.sec.afterReset
    led := s1.led.afterReset
    free := s1.free
    pending := s1.pending }

/-- R424: the main supplies are gone: MRAM and the vault's always-on domain stay; the field dies lose their state. -/
def State.unpower (s : State) : State :=
  let s1 := s.controlReset 0
  { s1 with
    boot := { s1.boot with powerGood := false, clockFault := false, nextCause := 0, cause := 0, fault := 0, simNow := 0 }
    power := { mode := .batteryOnly }
    safe := { State.reset.safe with si := s.safe.si, tripIn := s.safe.tripIn, causes := s.safe.causes &&& 0x1000 }
    field := { State.reset.field with fi := s.field.fi.map fun x => { x with stale := true } } }

end Sys2Proof.Machine
end

