-- ==== Sys2Proof/Machine/SafetyPath.lean ====
section
/-! DEFINITION. The safety path and the interlock logic (file 10: R263-R286; R353, R354, R408): inputs, causes, arming,
lock points, faults, LAND, release, self-tests, and the class 0x7 cards. -/

namespace Sys2Proof.Machine

/-! ## Inputs (R263-R265) -/

def State.setSi (n : Nat) (v : Bool) (s : State) : State := { s with safe := { s.safe with si := s.safe.si.set n v } }

/-- R264: the level of a channel in its demand state. -/
def demandLevel (r : List Byte) (b : Bool) : Bool := b && bit (Cfg.SafePair.MODE r) 0

/-- R411: the own INSP pair changed: event source 0x09. -/
def State.inspWatch (old : Bool) (s : State) : State :=
  if s.ownInsp = old then s else s.fire 0x09 (if s.boot.role = .car then tgtOf 8 s.ownCar else 0) 0 s.startItems

/-- SAFETY_INPUT_DEMAND (R265): a channel enters demand for `width` ns. From 20 ns on an armed channel always trips; a
shorter opening may trip or be ignored, a free value. The channel stays in demand unless the opening was shorter. -/
def execSafetyInputDemand (t si width : Nat) (s : State) : Host.Outcome State Fault Refusal :=
  let s := s.advance t
  match s.siPair si with
  | none => ok (s.setSi si false)
  | some (r, b) =>
    let p := Cfg.SafePair.PAIR r
    let long := decide (20 ≤ width)
    let s1 := if long then (s.setSi si (demandLevel r b)).settlePair r else { s with free := s.free + 1 }
    let hits := (s.safe.pairs.getD p {}).armed && (long || Config.shortOpeningTrips s.free)
    ok ((if hits then s1.trip (2 ^ p) (if b then 2 else 1) else s1).inspWatch s.ownInsp)

/-- SAFETY_INPUT_PERMIT (R264): an armed channel returns to permit; a channel of an unarmed pair changes level. -/
def execSafetyInputPermit (t si : Nat) (s : State) : Host.Outcome State Fault Refusal :=
  let s := s.advance t
  match s.siPair si with
  | none => ok (s.setSi si (!s.safe.si.getD si false))
  | some (r, b) =>
    let armed := (s.safe.pairs.getD (Cfg.SafePair.PAIR r) {}).armed
    ok (((s.setSi si (if armed then !demandLevel r b else !s.safe.si.getD si false)).settlePair r).inspWatch s.ownInsp)

/-- DISCREPANCY (R264): the channels have differed for DISCT: DISC. Armed, it is fault 0x02; not armed, neither fault nor
trip. -/
def execDiscrepancy (t pair : Nat) (s : State) : Host.Outcome State Fault Refusal :=
  let s := s.advance t
  let x := s.safe.pairs.getD pair {}
  match s.pairCfg pair, x.differAt with
  | some r, some t0 =>
    if x.st = .disc ∨ s.time.now < t0 + 1000000 * Cfg.SafePair.DISCT r then ok s
    else
      let s1 := s.modPair pair fun y => { y with st := .disc, bothDem := false, closedT := 0 }
      let s2 := s1.fire 0x71 0 0 (s1.safeItems 0 pair 0xFF)
      ok ((if x.armed then s2.fault 0x02 0xFF 0xFF else s2).inspWatch s.ownInsp)
  | _, _ => ok s

/-! ## Causes of R266 -/

/-- R277 0x03: a safety-core fault: both networks trip, then the control die resets. Causes in FIRSTC coding, the reset's
in BOOT_CAUSE coding. -/
def State.coreFault (causes reset : Nat) (s : State) : State :=
  ((s.tripCause causes).fault 0x03 0xFF 0xFF).controlReset reset

/-- LOCKSTEP_MISMATCH (R266, R30). -/
def execLockstepMismatch (t : Nat) (s : State) : Host.Outcome State Fault Refusal := ok ((s.advance t).coreFault 0x100 0x08)

/-- WATCHDOG_EXPIRY (R266, R30). -/
def execWatchdogExpiry (t : Nat) (s : State) : Host.Outcome State Fault Refusal := ok ((s.advance t).coreFault 0x100 0x04)

/-- CLOCK_FAULT (R25): a safety-core fault; BOOT_FAULT CLOCK persists while it stands. -/
def execClockFault (t : Nat) (s : State) : Host.Outcome State Fault Refusal :=
  let s := s.advance t
  ok (({ s with boot := { s.boot with clockFault := true } }.coreFault 0x2000 0x40).setFault 0x100)

/-- CLOCK_FAULT_CLEAR (R31, R280). -/
def execClockFaultClear (t : Nat) (s : State) : Host.Outcome State Fault Refusal :=
  let s := s.advance t
  ok ({ s with boot := { s.boot with clockFault := false } }.endCause 0x2000)

/-- UNCORRECTABLE_ERROR (R27): a safety-core fault; every car's trust UNKNOWN; or a memory fault and a poisoned word. The
manual gives the memory-fault event source no number (log 46). -/
def execUncorrectableError (t : Nat) (region : SramRegion) (word : Nat) (s : State) : Host.Outcome State Fault Refusal :=
  let s := s.advance t
  match region with
  | .safety => ok (s.coreFault 0x4000 0x80)
  | .motion => ok (if s.boot.role = .lane then s.carNums.foldl (fun s c => s.setTrust c 0) s else s)
  | _ => ok { s with ecc := { faults := s.ecc.faults + 1
                              poisoned := if s.ecc.poisoned.contains (region, word) then s.ecc.poisoned else s.ecc.poisoned ++ [(region, word)] } }

/-- DIE_LINK_LOSS (R266, R31): the field die sets its networks: fault 0x04. -/
def execDieLinkLoss (t die : Nat) (s : State) : Host.Outcome State Fault Refusal :=
  let s := s.advance t
  let s1 := { s with field := { s.field with die := s.field.die.modify die fun d => { d with linkDown := true } } }
  ok (((s1.setFault (64 * 2 ^ (die % 2))).tripCause (0x200 * 2 ^ (die % 2))).fault 0x04 0xFF 0xFF)

/-- DIE_LINK_RESTORE (R277, R31). -/
def execDieLinkRestore (t die : Nat) (s : State) : Host.Outcome State Fault Refusal :=
  let s := s.advance t
  ok ({ s with field := { s.field with die := s.field.die.modify die fun d => { d with linkDown := false } } }.endCause (0x200 * 2 ^ (die % 2)))

/-- TRIP_IN (R353): a set input of both networks; event source 0xB4. -/
def execTripIn (t : Nat) (s : State) : Host.Outcome State Fault Refusal :=
  let s := s.advance t
  let s1 := { s with safe := { s.safe with tripIn := true } }.tripCause 0x1000
  ok (s1.fire 0xB4 0 0 s1.pairItems)

/-- TRIP_IN_RELEASE (R353). -/
def execTripInRelease (t : Nat) (s : State) : Host.Outcome State Fault Refusal :=
  let s := s.advance t
  ok ({ s with safe := { s.safe with tripIn := false } }.endCause 0x1000)

/-- SO_READBACK_FAULT (R450): fault 0x16; event source 0x76. -/
def execSoReadbackFault (t so : Nat) (s : State) : Host.Outcome State Fault Refusal :=
  let s := s.advance t
  let s1 := { s with safe := { s.safe with soBad := s.safe.soBad.set so true } }
  ok ((s1.fire 0x76 0 0 (s1.safeItems 0x16 so 0xFF)).fault 0x16 0xFF 0xFF)

/-! ## Arming (R263, R269-R271) -/

/-- R270: a car keeps the LANDLOCK pair of its lane disarmed: the permit at a landing, or a door not LOCKED while it
stands there. -/
def State.keepsOff (s : State) (c : Nat) : Bool :=
  let x := s.car c
  (s.atLanding c).isSome && (x.door.permit.permit != 0 || (!x.doorsLocked && s.standingCond c))

/-- Landing-lock records of a lane. -/
def State.laneLocks (s : State) (lane : Nat) : List (List Byte) := (s.recs Cfg.LandLock.sec).filter fun r => Cfg.LandLock.LANE r == lane

/-- R270: what must have held for 2 ticks before the pair is armed again. -/
def State.laneShut (s : State) (lane : Nat) : Bool :=
  (s.carsIn lane).all (fun c => (s.car c).doorsLocked) && (s.laneLocks lane).all s.lockReads

/-- What the interlock logic wants of a pair's ARM bit now: set, clear, or as it is (R263, R269-R271). -/
def State.wantArm (s : State) (r : List Byte) : Option Bool :=
  let p := Cfg.SafePair.PAIR r
  let lane := Cfg.SafePair.LANE r
  if !s.safe.tested then none
  else match Cfg.SafePair.FUNC r with
    | 1 => some true
    | 2 => some true
    | 6 => some true
    | 3 =>
      if s.boot.role ≠ .lane then some false
      else if (s.carsIn lane).any s.keepsOff then some false
      else if (s.safe.pairs.getD p {}).armed ∨ 3 ≤ s.safe.lockRun.getD lane 0 then some true else none
    | 4 => some (s.boot.role == .car && !(s.doorNums.any s.permitted))
    | _ => some false

/-- R269 at a fast-tick boundary: ARM is set at once; a disarm is written for the next tick boundary. -/
def State.armFast (s : State) : State :=
  (s.recs Cfg.SafePair.sec).foldl (fun s r => match s.wantArm r with
    | some true => (s.modPair (Cfg.SafePair.PAIR r) fun x => { x with wantOff := false }).setArm (Cfg.SafePair.PAIR r) true
    | some false => s.modPair (Cfg.SafePair.PAIR r) fun x => { x with wantOff := x.armed }
    | none => s) s

/-- R269, R280 at a tick boundary: pairs whose disarm was written in the tick before are disarmed, the 2-tick runs of
R270 and the CLOSED runs of R280 count. -/
def State.armTick (s : State) : State :=
  let s1 := (List.range 8).foldl (fun s p => if (s.safe.pairs.getD p {}).wantOff then s.setArm p false else s) s
  { s1 with safe := { s1.safe with
    pairs := s1.safe.pairs.map fun x => { x with wantOff := false, closedT := if x.st = .closed then min 255 (x.closedT + 1) else 0 }
    lockRun := (List.range 4).map fun l => if s1.laneShut l then min 255 (s1.safe.lockRun.getD l 0 + 1) else 0 } }

/-! ## Lock points (R270) -/

/-- A car stands permitted at a landing. -/
def State.standsPermitted (s : State) (lane landing : Nat) : Bool :=
  (s.carsIn lane).any fun c => (s.car c).door.permit.permit != 0 && s.atLanding c == some landing

/-- LOCK_FAULT (R270): while the pair is disarmed a lock point reads unlocked where no car stands permitted. The fault
ends when the lock points read locked again. -/
def State.lockCheck (s : State) : State :=
  if s.boot.role ≠ .lane then s
  else (s.pairsOf 3).foldl (fun s r =>
    let lane := Cfg.SafePair.LANE r
    let p := Cfg.SafePair.PAIR r
    let bad := (s.laneLocks lane).any fun k => !s.lockReads k && !s.standsPermitted lane (Cfg.LandLock.LANDING k)
    let on := s.safe.faults.any fun f => f.code == 0x05 && f.elem == lane
    if bad && !on && !(s.safe.pairs.getD p {}).armed then
      let s1 := s.fault 0x05 0xFF lane
      s1.fire 0x74 (tgtOf 2 lane) 0 (s1.safeItems 0x05 p 0xFF)
    else if !bad && on then s.unfault fun f => f.code == 0x05 && f.elem == lane
    else s) s

/-! ## Faults found at a tick boundary (R275, R277) -/

/-- R275: the car's p + UNC lies within LEVZ of a landing. -/
def State.inLevz (s : State) (c : Nat) : Bool := (s.landingNear c (Cfg.Zone.LEVZ s.zone)).isSome

/-- R277 0x11 (R275) and 0x0F, and the faults that end when the car stands or its stop ends. -/
def State.watchCar (c : Nat) (s : State) : State :=
  let x := s.car c
  let v := x.pos.vQ.natAbs
  let open0 := !x.doorsLocked
  let fast := decide (Cfg.Zone.LEVV s.zone * 4294967296 < v) && !bit x.door.permit.pflg 0
  let cap := (leastCap (s.carCaps c x.plan.target)).1
  let above := if !x.stands && decide (11 * cap * 4294967296 < 10 * v) then x.overV + 1 else 0
  let s1 := s.modCar c fun y => { y with levIn := s.inLevz c, overV := min 2 above }
  let s2 := if open0 && ((x.levIn && !s.inLevz c) || fast) then s1.fault 0x11 c x.pos.elem else s1
  let s3 := if 2 ≤ above then s2.fault 0x0F c x.pos.elem else s2
  s3.unfault fun f => f.car == c && ((f.code == 0x0F && x.stands)
    || ((f.code == 0x09 || f.code == 0x0A) && f.begun && x.plan.stop.isNone && x.plan.stops.isEmpty && x.plan.standing))

/-- Every car's watch of a tick boundary. -/
def State.watchCars (s : State) : State :=
  if s.boot.role ≠ .lane then s else s.carNums.foldl (fun s c => s.watchCar c) s

/-! ## LAND (R279) -/

/-- The nearest landing at or beyond a position in the lane's direction, its room for the car kept within `lim`. -/
def State.landingFrom (s : State) (c e : Nat) (d : Int) (from0 : Int) (within : Int → Bool) : Option Int :=
  let l := (sortKey (fun p => d * p) (s.sills e)).filter fun p => decide (0 ≤ d * (p * oneQ - from0)) && !(decide ((s.limits e).2 < p + s.extUp c e) || decide (p - s.extDn c e < (s.limits e).1))
  match l.find? within with
  | some p => some p
  | none => l.head?

/-- R279 steps 1 and 2, R339: the landing a car is sent to: its element and position, and the speed asked. -/
def State.landTarget (s : State) (c : Nat) : Option (Nat × Int × Nat) :=
  let x := s.car c
  let e := x.pos.elem
  if isLane e then
    let moving := !x.plan.standing
    let d := if moving then dirOf x.plan.mot x.plan.target else s.elemDir e
    let from0 := if moving then stopPoint (s.svcLim c) x.plan.mot else x.plan.pQ
    let room (p : Int) : Bool := x.pos.loaElem != e || x.pos.loaDir != d || decide (d * (p + d * s.reach c e d) ≤ d * x.pos.loa)
    (s.landingFrom c e d from0 room).map fun p => (e, p, if moving then 0 else 300000)
  else
    (s.nexts e).findSome? fun n => (s.landingFrom c n (s.elemDir n) (Cfg.Xing.TOJOIN (s.xingOf e) * oneQ) fun _ => true).map fun p => (n, p, 0)

/-- A device move to a landing replaces the move in force, which ends ABORTED. -/
def State.sendToLanding (c : Nat) (s : State) : State :=
  let x := s.car c
  match s.landTarget c with
  | none => s
  | some (e, p, v) =>
    let at0 := x.plan.standing && x.pos.elem == e && x.plan.pQ == p * oneQ
    if at0 then s
    else ((s.endMove c 4 0x3022 s.time.now).dropNext c 4 0x3022).modPlan c fun q =>
      { q with next := some { elem := e, target := p, kind := 2, vmax := v, due := s.time.now } }

/-- R279 at a tick boundary. -/
def State.landStep (s : State) : State :=
  if s.boot.role ≠ .lane ∨ s.safe.land = false then s
  else s.carNums.foldl (fun s c =>
    let p := s.planOf c
    let kind2 (m : Option Move) : Bool := (m.map fun m => m.kind == 2).getD false
    if p.stop.isSome || !p.stops.isEmpty || s.inspected c || kind2 p.move || kind2 p.next || s.chk.learn.isSome then s else s.sendToLanding c) s

/-! ## Release (R280, R354, R408) -/

/-- R280 conditions 1 to 3 as SAFETY_RESET names the first that fails; R408 waives condition 3. -/
def State.releaseBlock (s : State) (waive : Bool) : Option Nat :=
  if s.safe.pairs.any fun p => p.armed && (p.st != .closed || decide (p.closedT < 9)) then some 0x7010
  else if s.safe.causes ≠ 0 then some 0x7013
  else if s.boot.role = .lane ∧ waive = false ∧ s.allStand = false then some 0x7011
  else none

/-- R280 condition 4. -/
def State.releaseAsked (s : State) : Bool :=
  !s.safe.resets.isEmpty || (List.range 8).any fun p => s.safe.firstC == 2 ^ p && ((s.pairCfg p).map fun r => bit (Cfg.SafePair.MODE r) 1).getD false

/-- The latch is released: STO outputs on again, the trunk level released, 8 frames with STOCLR (R168), BRAKE outputs back
under R171, faults that the release clears end, waiting SAFETY_RESETs end DONE. -/
def State.releaseLatch (s : State) : State :=
  let rs := s.safe.resets
  let s1 : State := { s with
    safe := { s.safe with latch := false, netA := false, netB := false, trunkLvl := false, tripOut := false, resets := [], latchSeen := true }
    trunks := s.trunks.map fun t => { t with stoClr := 8 } }
  let s2 := (s1.refreshSo).driveSo 3 true
  let s3 := (if s.safe.trunkLvl then s2.stoInjection 0 else s2).fire 0x70 0 0 (s2.safeItems 0 0xFF 0xFF)
  let s4 := s3.unfault fun f => [0x01, 0x02, 0x03, 0x04, 0x12, 0x13].contains f.code || (f.code == 0x16 && !s.safe.soBad.any id)
  (rs.filterMap (·.tag)).foldl (fun s tr => s.done tr (le 8 s.time.now)) s4

/-- R408: the latch holds its power-up state. -/
def State.powerUpLatch (s : State) : Bool :=
  let c := s.safe.firstC
  c == 0 || (clearBits c 0x600 == 0 && s.boot.cause == 0x10) || (clearBits c 0xE00 == 0 && s.boot.shutMark)

/-- POWER_UP_RELEASE (R408). -/
def State.powerUpRelease (s : State) : State :=
  if s.safe.latch && s.boot.stage == 3 && s.safe.selfOk && s.safe.testing.isNone && s.powerUpLatch && (s.releaseBlock true).isNone then
    let s1 := s.releaseLatch
    { s1 with boot := { s1.boot with purel := true } }
  else s

/-- R354: a standby whose latch was set through TRIP_IN follows the holder's release. -/
def State.followsRelease (s : State) : Bool :=
  s.standby && s.safe.firstC == 0x1000 && !((s.pair.image.map fun m => bit m.iflg 1).getD true)

/-- LATCH_RELEASE (R280) at a tick boundary. -/
def State.latchTick (s : State) : State :=
  if s.safe.latch && s.safe.tested && s.safe.testing.isNone && decide (3 ≤ s.boot.stage) then
    if (s.followsRelease && (s.releaseBlock true).isNone) || (s.releaseAsked && (s.releaseBlock false).isNone) then s.releaseLatch
    else s.powerUpRelease
  else s

/-! ## The fast tick (R268, R276-R278) -/

/-- TRIP_LATCH_SET (R268): the cause is recorded and told, every car's plan stops S3. -/
def State.latchFast (s : State) : State :=
  if s.safe.latch && !s.safe.latchSeen then
    let c := s.safe.firstC
    let s1 := { s with safe := { s.safe with latchSeen := true } }
    let s2 := s1.fire 0x70 0 0 (s1.safeItems 0 0xFF 0xFF)
    let s3 := if c % 256 ≠ 0 then s2.fault 0x01 0xFF 0xFF else s2
    let s4 := if c &&& 0x600 ≠ 0 then s3.fault 0x04 0xFF 0xFF else s3
    if s.boot.role = .lane then s4.carNums.foldl (fun s c => s.askStop .s3 none c) s4 else s4
  else s

/-- R268: MONITOR outputs report the latch as the interlock logic reads it. -/
def State.monitorOut (s : State) : State := s.driveSo 4 (!s.safe.latch && decide (3 ≤ s.boot.stage))

/-- The interlock logic at a fast-tick boundary. -/
def State.safetyFast (s : State) : State :=
  if s.boot.stage < 3 then s
  else (s.latchFast.monitorOut.armFast.lockCheck).faultReactions

/-! ## Self-tests (R283, R284) -/

/-- R284: one step of the periodic test, deferred while the latch is set; what the step finds is a free value. -/
def State.periodicStep (s : State) : State :=
  if !s.safe.perRun || s.safe.latch then s
  else
    let fails := Config.testStepFails s.free
    let last := decide (32 + (s.recs Cfg.SafeOut.sec).length ≤ s.safe.perStep + 1)
    let s1 := { s with free := s.free + 1, safe := { s.safe with
      perFail := fails, perStep := if last then 0 else s.safe.perStep + 1, perRun := !last
      lastTest := if last then s.time.now else s.safe.lastTest, perBase := if last then s.time.now else s.safe.perBase } }
    let s2 := if fails || last then s1.fire 0x75 0 0 (s1.safeItems (if fails then 0x15 else 0) 0xFF 0xFF) else s1
    if fails then s2.fault 0x15 0xFF 0xFF else s2

/-- PERIODIC_TEST (R284): every TESTPER hours the periodic test starts. -/
def execPeriodicTest (t : Nat) (s : State) : Host.Outcome State Fault Refusal :=
  let s := s.advance t
  if s.safe.tested && !s.safe.perRun && decide (s.safe.perBase + Cfg.Zone.TESTPER s.zone * 3600000000000 ≤ s.time.now) then
    ok { s with safe := { s.safe with perRun := true, perStep := 0 } }
  else ok s

/-- Causes and demands that set the latch again at once where they stand. -/
def State.retrip (s : State) : State :=
  let s1 := if s.safe.causes ≠ 0 then s.trip s.safe.causes 3 else s
  (s.recs Cfg.SafePair.sec).foldl (fun s r =>
    let x := s.safe.pairs.getD (Cfg.SafePair.PAIR r) {}
    let nets := b2n (!s.permit? r false) + 2 * b2n (!s.permit? r true)
    if x.armed && nets != 0 then s.trip (2 ^ Cfg.SafePair.PAIR r) nets else s) s1

/-- SELF_TEST_END (R283, R408): the full test of stage 3 or of SAFETY_TEST ends, with the channels that failed in each
network. From the end of the stage 3 test pairs of FUNC 1, 2 and 6 are armed (R263). -/
def execSelfTestEnd (t failA failB : Nat) (s : State) : Host.Outcome State Fault Refusal :=
  let s := s.advance t
  match s.safe.testing with
  | none => ok s
  | some (tag, clear) =>
    let pass := failA % 65536 == 0 && failB % 65536 == 0
    let s1 := { s with safe := { s.safe with
      testing := none, selfOk := s.safe.selfOk || pass, tested := true, perBase := if tag.isNone then s.time.now else s.safe.perBase
      testFail := failA % 65536 + 65536 * (failB % 65536)
      soBad := if pass then s.safe.soBad.map fun _ => false else s.safe.soBad } }
    let s2 := s1.fire 0x75 0 0 (s1.safeItems 0 0xFF 0xFF)
    let s3 := if pass then s2.unfault fun f => f.code == 0x15 else s2
    match tag with
    | none => ok ((s3.driveSo 3 true).armFast.powerUpRelease)
    | some tr =>
      let res := le 4 s1.safe.testFail
      if pass then ok ((if clear then s3.releaseLatch.retrip else s3).done tr res)
      else ok (s3.finish tr 4 0x7015 s.time.now res)

/-- Begin the full test; where the latch is clear the test sets it. Which channel is forced first is a free value. -/
def State.beginTest (tag : Option TagRec) (s : State) : State :=
  let clear := !s.safe.latch
  let s1 := { s with safe := { s.safe with testing := some (tag, clear) } }
  if clear then { s1 with free := s1.free + 1 }.trip (2 ^ ((Config.freeValue s1.free).toNat % 8)) 1 else s1

/-! ## Cards -/

/-- PAIRST: two bits a pair. -/
def State.pairst (s : State) : Nat :=
  (List.range 8).foldr (fun p n =>
    (match s.pairCfg p with
      | some r => if Cfg.SafePair.FUNC r = 0 then 3 else (s.safe.pairs.getD p {}).st.code
      | none => 3) + 4 * n) 0

def FaultRec.bytes (f : FaultRec) : List Byte := le 1 f.code ++ le 1 f.react ++ le 1 f.car ++ le 1 f.elem ++ le 4 (f.since / 4096)

def safetyStatusReply (s : State) (_tr : TagRec) (_d : List Byte) : List Byte :=
  let x := s.safe
  let fs := x.faults.take 64
  le 2 s.pairst ++ le 1 (bitsOf (x.pairs.map (·.armed))) ++ le 1 (bitsOf x.so)
    ++ le 1 (bitsOf ((x.so.zip x.soBad).map fun p => p.1 != p.2)) ++ le 1 s.latchByte ++ le 2 x.firstC ++ le 8 x.tripAt
    ++ le 1 (b2n x.selfOk + 2 * b2n x.perRun + 4 * b2n x.perFail) ++ le 1 fs.length ++ zeros 2 ++ le 8 x.lastTest ++ le 4 x.trips
    ++ fs.flatMap FaultRec.bytes

def safetyStatusCard : CardDef where
  k := { opc := 0x7001, role := 3, query := true, kinds := [0] }
  lenOk := lenIs 0
  eff := answer safetyStatusReply

/-- SAFETY_STATUS (R277). -/
def execSafetyStatus (h : Hdr) (data : List Byte) (s : State) : Host.Outcome State Fault Refusal := ok (runCard safetyStatusCard h data s)

def safetyResetOwn (s : State) (_tr : TagRec) (_d : List Byte) : Own :=
  firstOf [refuseIf (!s.safe.latch) 0x7012, refuseIf s.safe.testing.isSome 0x7016]

def safetyResetEff (tr : TagRec) (_d : List Byte) (s : State) : State :=
  { s with safe := { s.safe with resets := s.safe.resets ++ [⟨some tr, s.time.now⟩] } }

def safetyResetCard : CardDef where
  k := { opc := 0x7002, role := 3, query := false, kinds := [0] }
  lenOk := lenIs 4
  own := safetyResetOwn
  eff := safetyResetEff

/-- SAFETY_RESET (R280). -/
def execSafetyReset (h : Hdr) (data : List Byte) (s : State) : Host.Outcome State Fault Refusal := ok (runCard safetyResetCard h data s)

/-- SAFETY_RESET_TIMEOUT (R285): 1 s after acceptance, refused with the first condition that fails. -/
def execSafetyResetTimeout (t : Nat) (s : State) : Host.Outcome State Fault Refusal :=
  let s := s.advance t
  let due (r : ResetReq) : Bool := r.tag.isSome && decide (r.at0 + 1000000000 ≤ s.time.now)
  let why := (s.releaseBlock false).getD 0x7013
  let gone := (s.safe.resets.filter due).filterMap (·.tag)
  ok (gone.foldl (fun s tr => s.refuse tr why) { s with safe := { s.safe with resets := s.safe.resets.filter fun r => !due r } })

/-- R283: cars stand (LANE), the car is braked (CAR). -/
def State.braked (s : State) : Bool :=
  if s.boot.role = .lane then s.allStand else s.crole.applied && s.crole.swApplied

def safetyTestOwn (s : State) (_tr : TagRec) (_d : List Byte) : Own :=
  firstOf [refuseIf s.safe.testing.isSome 0x7016, refuseIf (!s.braked) 0x7011]

def safetyTestEff (tr : TagRec) (_d : List Byte) (s : State) : State := s.beginTest (some tr)

def safetyTestCard : CardDef where
  k := { opc := 0x7003, role := 3, query := false, kinds := [0] }
  lenOk := lenIs 4
  own := safetyTestOwn
  eff := safetyTestEff

/-- SAFETY_TEST (R283). -/
def execSafetyTest (h : Hdr) (data : List Byte) (s : State) : Host.Outcome State Fault Refusal := ok (runCard safetyTestCard h data s)

end Sys2Proof.Machine
end

