-- ==== Sys2Proof/Machine/Check.lean ====
section
/-! DEFINITION. The enable check (R59, R60, R465, with the rules of each chapter under its codes): what it finds. An
entry's DETAIL is the value under R465, and free where no table gives it (log 55). -/

namespace Sys2Proof.Machine

/-- One failure, with its DETAIL free. -/
def found (code node : Nat) : ChkEntry := ⟨code, node, (Config.checkDetail code node).toNat⟩

/-- One failure where a test fails. -/
def foundIf (b : Bool) (code node : Nat) : List ChkEntry := if b then [found code node] else []

/-- One failure with the value R465 gives as DETAIL. -/
def valueIf (b : Bool) (code node v : Nat) : List ChkEntry := if b then [⟨code, node, v⟩] else []

/-- The values that occur more than once, each once. -/
def dups : List Nat → List Nat
  | [] => []
  | x :: xs => if xs.contains x && !(dups xs).contains x then x :: dups xs else dups xs

/-- Entries of a list whose predecessor fails a test against them. -/
def pairBad (bad : List Byte → List Byte → Bool) : List (List Byte) → List (List Byte)
  | a :: b :: rest => (if bad a b then [b] else []) ++ pairBad bad (b :: rest)
  | _ => []

/-- The node that stands for the whole configuration: the circuit, or the CAR device's car. -/
def State.rootNode (s : State) : Nat := if s.boot.role = .car then tgtOf 8 s.ownCar else tgtOf 1 0

def circuitNode : Nat := tgtOf 1 0

/-! ## Geometry (R97, R98, R219) -/

/-- A Crossing end that joins a lane's end: its lane and whether it is the upper one. -/
def xingFrom (x : List Byte) : Nat × Bool := (Cfg.Xing.FROMLANE x, bit (Cfg.Xing.ENDS x) 0)
def xingTo (x : List Byte) : Nat × Bool := (Cfg.Xing.TOLANE x, bit (Cfg.Xing.ENDS x) 1)

/-- The Crossing a lane names at an end. -/
def laneXing (l : List Byte) (up : Bool) : Nat := if up then Cfg.Lane.XHI l else Cfg.Lane.XLO l

/-- 0x2124: a lane end whose Crossing does not join it. -/
def State.endOpen (s : State) (l : List Byte) (up : Bool) : Bool :=
  match s.xing? (laneXing l up) with
  | some x => xingFrom x != (Cfg.Lane.LANE l, up) && xingTo x != (Cfg.Lane.LANE l, up)
  | none => true

/-- 0x2123: a Crossing end whose lane does not name it there. -/
def State.endLoose (s : State) (x : List Byte) (e : Nat × Bool) : Bool :=
  match s.lane? e.1 with
  | some l => laneXing l e.2 != Cfg.Xing.XING x
  | none => true

/-- 0x2125: a Crossing that does not lead from the end its from-lane runs to, to the end its to-lane runs from. -/
def State.againstLoop (s : State) (x : List Byte) : Bool :=
  match s.lane? (Cfg.Xing.FROMLANE x), s.lane? (Cfg.Xing.TOLANE x) with
  | some f, some t => (xingFrom x).2 != (Cfg.Lane.DIR f == 0) || (xingTo x).2 != (Cfg.Lane.DIR t == 1)
  | _, _ => false

def checkLanes (s : State) : List ChkEntry :=
  foundIf (decide (4 < s.lanes.length)) 0x2100 circuitNode ++ foundIf (decide (8 < s.xings.length)) 0x2101 circuitNode
    ++ foundIf (decide (24 < s.carNums.length)) 0x2102 circuitNode ++ foundIf (decide (8192 < s.blockCfgs.length)) 0x2104 circuitNode
    ++ foundIf (decide (6144 < s.segCfgs.length)) 0x2105 circuitNode
    ++ s.lanes.flatMap (fun l =>
      let n := tgtOf 2 (Cfg.Lane.LANE l)
      let sills := s.sills (Cfg.Lane.LANE l)
      foundIf (decide (320 < max (Cfg.Lane.NLAND l) sills.length)) 0x2103 n
        ++ foundIf (Cfg.Lane.LEN l == 0 || decide (2147483647 < Cfg.Lane.LEN l)) 0x2120 n
        ++ foundIf ((sills.zip (sills.drop 1)).any fun p => decide (p.2 ≤ p.1)) 0x2121 n
        ++ (sills.filter fun x => decide (x < 0) || decide ((Cfg.Lane.LEN l : Int) < x)).map (fun _ => found 0x2122 n)
        ++ [false, true].flatMap fun up => foundIf (s.endOpen l up) 0x2124 n)
    ++ s.xings.flatMap fun x =>
      let n := tgtOf 3 (Cfg.Xing.XING x)
      [xingFrom x, xingTo x].flatMap (fun e => foundIf (s.endLoose x e) 0x2123 n)
        ++ foundIf (s.againstLoop x) 0x2125 n
        ++ foundIf (Cfg.Xing.TRAVEL x == 0 || decide (20000000 < Cfg.Xing.TRAVEL x)) 0x2126 n

/-! ## Segments, trunks (R14, R97, R158, R176) -/

/-- Records of an element in order of START. -/
def inElem (elem : List Byte → Nat) (start : List Byte → Int) (e : Nat) (rs : List (List Byte)) : List (List Byte) :=
  sortKey start (rs.filter fun r => elem r == e)

/-- The shortest segment, in µm. -/
def State.segMin (s : State) : Nat :=
  (s.segCfgs.map fun g => (Cfg.Segment.END g - Cfg.Segment.START g).toNat).foldl min (2 ^ 32)

def checkSegments (s : State) : List ChkEntry :=
  s.segCfgs.flatMap (fun g =>
    let n := tgtOf 5 (Cfg.Segment.SEG g)
    foundIf (s.segBlock g).isNone 0x2130 n ++ foundIf (!s.trunkOn (Cfg.Segment.TRUNK g)) 0x2132 n)
  ++ s.elems.flatMap (fun e =>
    (pairBad (fun a b => decide (1000 < (Cfg.Segment.START b - Cfg.Segment.END a).natAbs)) (inElem Cfg.Segment.ELEM Cfg.Segment.START e s.segCfgs)).map
      fun g => found 0x2131 (tgtOf 5 (Cfg.Segment.SEG g)))
  ++ trunkNums.flatMap (fun t =>
    let gs := s.trunkSegs t
    let addrs := gs.map Cfg.Segment.ADDR
    let map := (s.trunk t).map
    foundIf (decide (512 < gs.length)) 0x2106 circuitNode
      ++ (dups addrs).map (fun _ => found 0x2133 circuitNode)
      ++ (if s.trunkOn t then
        foundIf (addrs.any (fun a => !map.any fun m => m.addr == a) || map.any (fun m => !addrs.contains m.addr)) 0x2134 circuitNode
          ++ foundIf (map.any fun m => !Config.moduleSupported m.type m.pver) 0x2135 circuitNode
          ++ foundIf ((s.trunk t).ringst != 0) 0x2136 circuitNode
      else []))
  ++ (s.recs Cfg.CarProp.sec).flatMap fun r =>
    valueIf (decide (s.segMin < Cfg.CarProp.BLENDW r)) 0x2137 (tgtOf 8 (Cfg.CarProp.CAR r)) (Cfg.CarProp.BLENDW r)

/-! ## Blocks and authority (R218, R219, R230, R470) -/

/-- Whether several blocks or lanes lead to a block: it has more than one predecessor along the route (R214). -/
def State.mergeBlock (s : State) (b : List Byte) : Bool :=
  let e := Cfg.Block.ELEM b
  let row := inElem Cfg.Block.ELEM Cfg.Block.START e s.blockCfgs
  let near : Int := if 0 < s.elemDir e then Cfg.Block.START b else Cfg.Block.END b
  let before := row.filter fun k => (if 0 < s.elemDir e then Cfg.Block.END k else Cfg.Block.START k) == near
  let joins := s.xings.filter fun x => isLane e && Cfg.Xing.TOLANE x == e && s.blockAt e (Cfg.Xing.TOJOIN x) == some (Cfg.Block.BLOCK b)
  decide (2 ≤ before.length + joins.length) || Cfg.BlockAuth.THRU ((s.blkAuth (Cfg.Block.BLOCK b)).getD (List.replicate 8 0xFF)) != 0xFFFF

/-- The shortest block, in µm. -/
def State.blockMin (s : State) : Nat :=
  (s.blockCfgs.map fun b => (Cfg.Block.END b - Cfg.Block.START b).toNat).foldl min (2 ^ 32)

def checkBlocks (s : State) : List ChkEntry :=
  let recs := s.recs Cfg.BlockAuth.sec
  s.blockCfgs.flatMap (fun b =>
    let n := tgtOf 4 (Cfg.Block.BLOCK b)
    let len := Cfg.Block.END b - Cfg.Block.START b
    let a := s.blkAuth (Cfg.Block.BLOCK b)
    foundIf (!s.elems.contains (Cfg.Block.ELEM b)) 0x2110 n
      ++ foundIf (decide (len < 250000) || decide (16000000 < len)) 0x2141 n
      ++ foundIf a.isNone 0x2142 n
      ++ valueIf (s.mergeBlock b && (a.map Cfg.BlockAuth.AGING) == some 0) 0x2144 n 0)
  ++ (dups (s.blockCfgs.map Cfg.Block.BLOCK)).map (fun b => found 0x2111 (tgtOf 4 b))
  ++ s.elems.flatMap (fun e =>
    (pairBad (fun a b => Cfg.Block.START b != Cfg.Block.END a) (inElem Cfg.Block.ELEM Cfg.Block.START e s.blockCfgs)).map
      fun b => found 0x2140 (tgtOf 4 (Cfg.Block.BLOCK b)))
  ++ (recs.filter fun r => (s.block? (Cfg.BlockAuth.BLOCK r)).isNone).map (fun r => found 0x2142 (tgtOf 4 (Cfg.BlockAuth.BLOCK r)))
  ++ (dups (recs.map Cfg.BlockAuth.BLOCK)).map (fun b => found 0x2142 (tgtOf 4 b))
  ++ (dups (recs.map Cfg.BlockAuth.RANK)).map (fun v => ⟨0x2142, circuitNode, v⟩)
  ++ valueIf (decide (s.tailMargin < 100000) || decide (5000000 < s.tailMargin)) 0x2143 circuitNode s.tailMargin

/-- The loops of the circuit, each by its lowest lane. -/
def State.loopHeads (s : State) : List Nat :=
  (s.lanes.map Cfg.Lane.LANE).filter fun e => (s.ringOf e).all fun t => decide (e ≤ t) || !(s.ringOf t).contains e

/-- R215, R470: the blocks that several cars need, and those left UNSETTLED otherwise. -/
def State.clashes (s : State) (b : Nat) : Bool := decide (2 ≤ (s.carNums.filter fun c => (s.needs c).contains b).length)

/-- 0x2183: no car can reach a landing: none has a route to its lane with its extent inside the fixed limits. -/
def State.unreached (s : State) (e : Nat) (sill : Int) : Bool :=
  s.carNums.all fun c => (s.route (s.car c).pos.elem e).isNone || s.pastLimits c e sill

def checkAuthority (s : State) : List ChkEntry :=
  (if s.auth.rebuilt then (s.auth.blocks.filter fun b => b.owner == .unsettled).map fun b =>
      found (if s.clashes b.id then 0x2145 else 0x2147) (tgtOf 4 b.id) else [])
  ++ s.loopHeads.flatMap (fun e => foundIf (!s.occupancyOk (s.ringOf e) (s.loopCars (s.ringOf e))) 0x2146 (elemNode e))
  ++ (s.lanes.map Cfg.Lane.LANE).flatMap fun e => ((s.sills e).filter fun p => s.unreached e p).map fun _ => found 0x2183 (elemNode e)

/-! ## Position, motion, propulsion by car (R97, R141, R202, R230) -/

def elemLen (s : State) (e : Nat) : Nat :=
  if isLane e then ((s.lane? e).map Cfg.Lane.LEN).getD 0 else Cfg.Xing.TRAVEL (s.xingOf e)

def checkWaymarks (s : State) : List ChkEntry :=
  let ws := s.recs Cfg.Waymark.sec
  (ws.filter fun w => !s.elems.contains (Cfg.Waymark.ELEM w) || decide (Cfg.Waymark.NOM w < 0)
      || decide ((elemLen s (Cfg.Waymark.ELEM w) : Int) < Cfg.Waymark.NOM w)).map (fun w => found 0x2150 (elemNode (Cfg.Waymark.ELEM w)))
  ++ s.elems.flatMap (fun e => (dups ((ws.filter fun w => Cfg.Waymark.ELEM w == e).map fun w => (Cfg.Waymark.NOM w).toNat)).map fun _ => found 0x2150 (elemNode e))
  ++ (s.lanes.map Cfg.Lane.LANE).flatMap (fun e => foundIf (decide ((ws.filter fun w => Cfg.Waymark.ELEM w == e).length < 2)) 0x2151 (elemNode e))
  ++ s.elems.flatMap fun e => foundIf (!(s.recs Cfg.Tape.sec).any fun t => Cfg.Tape.ELEM t == e && Cfg.Tape.SCALE t != 0) 0x2153 (elemNode e)

/-- R230: the longest authority chain. -/
def State.chainMax (s : State) : Nat := Cfg.Authority.MAXCHAIN s.authCfg * s.blockMin

def checkCar (s : State) (c : Nat) : List ChkEntry :=
  let n := tgtOf 8 c
  let p := s.carPos c
  let m := s.carMotion c
  let win (w : Nat) : Bool := w == 0 || decide (s.blockMin < w)
  let l := s.svcLim c
  foundIf (decide ((s.car c).pos.trust < 2)) 0x2152 n
    ++ foundIf (win (Cfg.CarPos.DWTAPE p) || win (Cfg.CarPos.DWBEMF p) || win (Cfg.CarPos.DWWAY p)) 0x2154 n
    ++ valueIf (decide (10000000 < Cfg.CarMotion.VLANE m)) 0x2160 n (Cfg.CarMotion.VLANE m)
    ++ valueIf (decide (1000000 < Cfg.CarMotion.VXING m)) 0x2160 n (Cfg.CarMotion.VXING m)
    ++ valueIf (decide (2000000 < Cfg.CarMotion.AMAX m)) 0x2161 n (Cfg.CarMotion.AMAX m)
    ++ valueIf (decide (4000000 < Cfg.CarMotion.JMAX m)) 0x2162 n (Cfg.CarMotion.JMAX m)
    ++ foundIf (decide (1 < Cfg.CarMotion.PROF m)) 0x2164 n
    ++ foundIf (decide ((s.chainMax : Int) * oneQ < stopDist l (Cfg.CarMotion.VLANE m * oneQ) 0)) 0x2163 n
    ++ foundIf (!s.hasKey Cfg.CarMass.sec Cfg.CarMass.CAR c) 0x2175 n

/-! ## Dispatch, mains (R230, R334, R338, R341) -/

def checkDispatch (s : State) : List ChkEntry :=
  let d := s.one Cfg.DispParam.sec Cfg.DispParam.dflt
  ((s.recs Cfg.Source.sec).filter fun r => Cfg.Source.RATE r == 0).map (fun _ => ⟨0x2180, circuitNode, 0⟩)
    ++ valueIf (Cfg.DispParam.WW d == 0 && Cfg.DispParam.WR d == 0 && Cfg.DispParam.WE d == 0 && Cfg.DispParam.WC d == 0) 0x2181 circuitNode 0
    ++ valueIf (decide (7 < Cfg.DispParam.REASSMAX d)) 0x2182 circuitNode (Cfg.DispParam.REASSMAX d)

/-- R334: a pulse output whose constants do not fit. -/
def pulseBad (r : List Byte) : Bool :=
  decide (Cfg.PulseCh.PCH r < 2) && (Cfg.PulseCh.CONST r == 0 || decide (10000 < Cfg.PulseCh.CONST r)
    || decide (1800000 < Cfg.PulseCh.PMAXKW r * Cfg.PulseCh.CONST r * Cfg.PulseCh.PW r))

def checkMains (s : State) : List ChkEntry :=
  let noload := Cfg.Meter.NOLOAD (s.one Cfg.Meter.sec Cfg.Meter.dflt)
  ((List.range 7).filter fun ch => Cfg.AdcCh.SCALE (s.keyed Cfg.AdcCh.sec Cfg.AdcCh.CH ch Cfg.AdcCh.dflt) % 2 ^ 31 == 0).map (fun _ => ⟨0x21C0, circuitNode, 0⟩)
    ++ foundIf s.meter.seqErr 0x21C1 circuitNode ++ foundIf s.meter.neutLoss 0x21C2 circuitNode
    ++ ((s.recs Cfg.PulseCh.sec).filter pulseBad).map (fun r =>
      ⟨0x21C3, circuitNode, if Cfg.PulseCh.CONST r == 0 || decide (10000 < Cfg.PulseCh.CONST r) then Cfg.PulseCh.CONST r else Cfg.PulseCh.PMAXKW r⟩)
    ++ valueIf (noload == 0 || decide (10000 < noload)) 0x21C4 circuitNode noload

/-! ## Doors (R17, R260) -/

/-- Members of a group as configured, before axes are looked at. -/
def State.memberMask (s : State) (g : Nat) : Nat :=
  match (s.recs Cfg.DoorCfg.sec).find? fun r => Cfg.DoorCfg.DOOR r == g with
  | some r => Cfg.DoorCfg.MEMBERS r
  | none => if g = 0 then 3 else if g = 1 then 12 else 0

def checkDoors (s : State) : List ChkEntry :=
  (List.range 4).flatMap (fun a =>
    foundIf (decide (2 ≤ ((List.range 4).filter fun g => bit (s.memberMask g) a).length)) 0x2190 (tgtOf 9 a))
  ++ (s.recs Cfg.DoorAxis.sec).flatMap (fun r =>
    let n := tgtOf 9 (Cfg.DoorAxis.AXIS r)
    valueIf (Cfg.DoorAxis.PANELKG r == 0) 0x2191 n 0
      ++ valueIf (decide (Cfg.DoorAxis.VSUP r ≤ Cfg.DoorAxis.VSDN r)) 0x2194 n (Cfg.DoorAxis.VSDN r)
      ++ foundIf (decide (63 < Cfg.DoorAxis.CLSW r)) 0x2195 n)
  ++ (s.recs Cfg.DoorCfg.sec).flatMap (fun r =>
    let n := doorNode (Cfg.DoorCfg.DOOR r)
    valueIf (decide (150 < Cfg.DoorCfg.FLIM r)) 0x2192 n (Cfg.DoorCfg.FLIM r)
      ++ valueIf (decide (10000 < Cfg.DoorCfg.KELIM r)) 0x2193 n (Cfg.DoorCfg.KELIM r))
  ++ (s.recs Cfg.AxisMotion.sec).flatMap (fun r => foundIf (decide (1 < Cfg.AxisMotion.PROF r)) 0x2164 (tgtOf 9 (Cfg.AxisMotion.AXIS r)))
  ++ foundIf (!(s.recs Cfg.Tape.sec).any fun t => Cfg.Tape.SCALE t != 0) 0x2153 s.rootNode

/-! ## Points, control channels (R19, R99, R179, R202, R299, R312) -/

/-- 0x2114: a point type valid for its source. -/
def pointTypeOk (role : Role) (ty src : Nat) : Bool :=
  if ty = 0x80 then decide (src < 64)
  else if ty = 0x81 then decide (src < 32)
  else ((0x90 ≤ ty && ty ≤ 0x9F) || (role == .car && (ty == 0x20 || ty == 0x21))) && decide (src / 8192 ≤ 5) && decide (src % 8192 < 6144)

def checkPoints (s : State) : List ChkEntry :=
  s.ptRecs.flatMap fun r =>
    let n := tgtOf 6 (ptIdx r)
    let root := ptKind r == 0 || ptKind r == 6
    foundIf root 0x2113 n ++ foundIf (!root && !s.defines (tgtOf (ptKind r) (ptPIndex r))) 0x2112 n
      ++ foundIf (!pointTypeOk s.boot.role (ptType r) (ptSource r)) 0x2114 n

/-- Entries of one stored bank. -/
def checkBank (node : Nat) (r : List Byte) : List ChkEntry :=
  let fin (o n : Nat) : Bool := (List.range n).all fun k => !f32Bad r (o + 4 * k)
  let notch (i o : Nat) : Bool := bit (Cfg.Bank.NEN r) i && !(fin o 5 && polesOk (f32At r (o + 12)) (f32At r (o + 16)) F64.zero)
  foundIf (!(fin 4 7 && polesOk (f32At r 20) (f32At r 24) (if Cfg.Bank.FORM r = 3 then f32At r 28 else F64.zero))) 0x2172 node
    ++ foundIf (notch 0 32) 0x2173 node ++ foundIf (notch 1 52) 0x2173 node
    ++ valueIf (decide (f32Key (Cfg.Bank.IHI r) < f32Key (Cfg.Bank.ILO r))) 0x2174 node (Cfg.Bank.ILO r)

def checkLoops (s : State) : List ChkEntry :=
  let chs := s.recs Cfg.Channel.sec
  let slots := (chs.map fun r => if Cfg.Channel.RATE r = 0 then 1 else 4).sum
  foundIf (decide ((if s.boot.role = .lane then 96 else 32) < slots)) 0x2170 s.rootNode
    ++ chs.flatMap fun r =>
      let ch := Cfg.Channel.CH r
      foundIf (s.bankRec ch 0).isNone 0x2171 (Cfg.Channel.NODE r)
        ++ [0, 1].flatMap fun b => ((s.bankRec ch b).map (checkBank (Cfg.Channel.NODE r))).getD []

/-! ## Safety path, field I/O, CAN (R263, R268, R273, R283, R291, R299, R305, R314) -/

def checkSafety (s : State) : List ChkEntry :=
  let ps := s.recs Cfg.SafePair.sec
  let sis := ps.flatMap fun r => [Cfg.SafePair.CHA r, Cfg.SafePair.CHB r].filter fun n => n != 0xFF
  (ps.filter fun r => Cfg.SafePair.FUNC r != 0 && (Cfg.SafePair.CHA r == 0xFF || Cfg.SafePair.CHB r == 0xFF)).map (fun _ => found 0x21A0 0)
    ++ (dups sis).map (fun _ => found 0x21A0 0)
    ++ foundIf ((s.soOf 1).isEmpty && !(s.boot.role == .car && !(s.soOf 2).isEmpty)) 0x21A1 0
    ++ valueIf (decide (350000 < Cfg.Zone.ZONE s.zone)) 0x21A2 0 (Cfg.Zone.ZONE s.zone)
    ++ valueIf (decide (800000 < Cfg.Zone.PREV s.zone)) 0x21A3 0 (Cfg.Zone.PREV s.zone)
    ++ foundIf (!s.safe.selfOk) 0x21A4 0

/-- Field inputs that the configuration uses. -/
def State.usedFi (s : State) : List Nat :=
  (List.range 64).filter fun n =>
    s.hasKey Cfg.FieldIn.sec Cfg.FieldIn.FI n
      || (s.recs Cfg.Waymark.sec).any (fun r => Cfg.Waymark.SRCK r == 0 && Cfg.Waymark.SRC r == n)
      || (s.recs Cfg.DoorAxis.sec).any (fun r => Cfg.DoorAxis.CLSW r == n)
      || (s.recs Cfg.DoorCfg.sec).any (fun r => Cfg.DoorCfg.LCIN r == n)
      || (s.recs Cfg.StepIn.sec).any (fun r => Cfg.StepIn.SRCK r == 1 && (Cfg.StepIn.STEP r == n || Cfg.StepIn.DIR r == n))
      || (s.recs Cfg.LandLock.sec).any (fun r => Cfg.LandLock.LSRCK r == 0 && Cfg.LandLock.LSRC r == n)
      || !(s.pointsOf 0x80 n).isEmpty || Cfg.Zone.RSTFI s.zone == n

/-- Field outputs that the configuration uses. -/
def State.usedFq (s : State) : List Nat :=
  (List.range 32).filter fun n =>
    s.hasKey Cfg.FieldOut.sec Cfg.FieldOut.FQ n || (s.recs Cfg.DoorCfg.sec).any (fun r => Cfg.DoorCfg.NUDGEQ r == n) || !(s.pointsOf 0x81 n).isEmpty

def checkField (s : State) : List ChkEntry :=
  ((s.recs Cfg.FieldIn.sec).filter fun r => Cfg.FieldIn.DEB r == 0 || decide (64000 < Cfg.FieldIn.DEB r)).map (fun r => ⟨0x21B0, 0, Cfg.FieldIn.DEB r⟩)
    ++ (dups (((s.recs Cfg.DoorCfg.sec).map Cfg.DoorCfg.NUDGEQ).filter fun n => decide (n < 32))).map (fun _ => found 0x21B1 0)
    ++ (s.usedFi.filter fun n => !s.grpOk (fiGroup n)).map (fun _ => found 0x21B2 0)
    ++ (s.usedFq.filter fun n => !s.grpOk (fqGroup n)).map (fun _ => found 0x21B2 0)

/-- R305: a channel's bit timing. -/
def canTimingBad (r : List Byte) : Bool :=
  let fd := bit (Cfg.CanCh.CFLG r) 1
  let dr := canRate (Cfg.CanCh.DBRP r) (Cfg.CanCh.DTSEG1 r) (Cfg.CanCh.DTSEG2 r)
  decide (Cfg.CanCh.NTSEG2 r < Cfg.CanCh.NSJW r) || decide (Cfg.CanCh.DTSEG2 r < Cfg.CanCh.DSJW r)
    || decide (Cfg.CanCh.NTSEG1 r < Cfg.CanCh.NTSEG2 r) || decide (Cfg.CanCh.DTSEG1 r < Cfg.CanCh.DTSEG2 r)
    || (fd && decide (2000000 < dr) && !bit (Cfg.CanCh.CFLG r) 3)

/-- R305: nominal and data rate against their bounds, by the exact fractions of R304. -/
def canRateBad (r : List Byte) : Bool :=
  let n := Cfg.CanCh.NBRP r * (1 + Cfg.CanCh.NTSEG1 r + Cfg.CanCh.NTSEG2 r)
  let d := Cfg.CanCh.DBRP r * (1 + Cfg.CanCh.DTSEG1 r + Cfg.CanCh.DTSEG2 r)
  decide (80000000 < 125000 * n) || decide (1000000 * n < 80000000)
    || (bit (Cfg.CanCh.CFLG r) 1 && (decide (8000000 * d < 80000000) || decide (n < d)))

/-- R314: identifiers of a channel's transmit objects, with bit 30 for the extended format. -/
def State.txIds (s : State) (ch : Nat) : List Nat :=
  ((s.recs Cfg.CanTxObj.sec).filter fun r => Cfg.CanTxObj.CH r == ch).map (fun r => Cfg.CanTxObj.ID r % 2 ^ 29 + 2 ^ 30 * (Cfg.CanTxObj.TFLG r % 2))
    ++ ((s.recs Cfg.Source.sec).filter fun r => Cfg.Source.KIND r == 0 && Cfg.Source.CHAN r == ch).map (fun r => Cfg.Source.ANSID r % 2 ^ 31)
    ++ (match s.time.cfg.canRef[ch]? with
      | some k => if k.en then [k.id, k.id + 1].map fun i => i + (if k.ext then 2 ^ 30 else 0) else []
      | none => [])

def checkCan (s : State) : List ChkEntry :=
  (s.recs Cfg.CanCh.sec).flatMap (fun r =>
    if bit (Cfg.CanCh.CFLG r) 0 then foundIf (canTimingBad r) 0x21B3 0 ++ foundIf (canRateBad r) 0x21B4 0 else [])
  ++ (List.range 6).flatMap fun ch => (dups (s.txIds ch)).map fun _ => found 0x21B5 0

/-- R386: the signatures of section 0x0C00 verify over M_CFG under the Custodian keys; without the section they do not. -/
def State.cfgSigned (s : State) : Bool :=
  let r := s.secBytes 0x0C00
  match s.sec.cust with
  | some keys => !r.isEmpty && bothOk keys s.mCfg (rd r 4 96) (rd r 100 3309)
  | none => false

/-! ## Pair, vault, protection, configuration store (R360, R366, R54, R386, R112) -/

def checkStore (s : State) (crc : Option Nat) : List ChkEntry :=
  let en := Cfg.PairCfg.EN (s.one Cfg.PairCfg.sec Cfg.PairCfg.dflt) == 1
  foundIf (en && s.pair.partner != 4) 0x21D0 0 ++ foundIf (en && !s.pair.cfgMatch) 0x21D1 0 ++ foundIf (en && !s.pair.fwMatch) 0x21D2 0
    ++ foundIf s.pair.pfault 0x21D3 0
    ++ foundIf (s.vault.st == .unprovisioned || s.vault.st == .erased) 0x21E0 0
    ++ (s.prot.entries.filter fun e => !s.defines e.node).map (fun e => found 0x21E1 e.node)
    ++ foundIf (!s.cfgSigned) 0x21E2 0 ++ foundIf (s.cfg.a != s.cfg.b) 0x21E3 0
    ++ (match crc with
      | some c => foundIf (c != s.cfgCrc) 0x21F0 s.rootNode
      | none => [])

/-! ## The check and its report (R59, R62) -/

/-- Order of the report: by CODE, then by NODE. -/
def ChkEntry.key (e : ChkEntry) : Int := ((e.code * 2 ^ 32 + e.node : Nat) : Int)

/-- Every failure, in the order of the report. `crc` is the CFGCRC of the command. -/
def State.checkAll (s : State) (crc : Option Nat) : List ChkEntry :=
  sortKey ChkEntry.key (
    (if s.boot.role = .lane then
      checkLanes s ++ checkSegments s ++ checkBlocks s ++ checkAuthority s ++ checkWaymarks s ++ s.carNums.flatMap (checkCar s)
        ++ checkDispatch s ++ checkMains s
    else checkDoors s)
    ++ checkPoints s ++ checkLoops s ++ checkSafety s ++ checkField s ++ checkCan s ++ checkStore s crc)

end Sys2Proof.Machine
end

