-- ==== Sys2Proof/Machine/Enable.lean ====
section
/-! DEFINITION. CIRCUIT_ENABLE, CIRCUIT_DISABLE, CHECK_REPORT, the enable check's end (R58-R62, R415), the learn run
(R110) and re-anchoring (R111). -/

namespace Sys2Proof.Machine

/-! ## Entering full service (R59, R277) -/

/-- CIRCUIT_ENABLE ends DONE: stage 6, and the faults that clear there end. -/
def State.enterService (s : State) : State :=
  (s.setStage 6).unfault fun f => f.code == 0x0B || f.code == 0x17 || (f.code == 0x14 && s.vault.st == .provisioned)

/-- CIRCUIT_ENABLE's reply. -/
def enableReply (first others crc learn : Nat) : List Byte := le 2 first ++ le 2 others ++ le 4 crc ++ le 1 learn ++ zeros 3

/-- R415: the automatic check ended: event source 0x07 with FIRST and OTHERS appended (log 56). -/
def State.autoEnds (first others : Nat) (s : State) : State :=
  let s1 := { s with boot := { s.boot with autoFail := first != 0 } }
  s1.fire 0x07 0 0 (s1.startItems ++ le 2 first ++ le 2 others)

/-! ## The learn run (R110) -/

/-- The median of a list of values; the middle two are averaged, rounded (log 57). -/
def median (l : List Int) : Int :=
  let v := sortKey id l
  let n := v.length
  if n % 2 = 1 then v.getD (n / 2) 0 else divRound (v.getD (n / 2 - 1) 0 + v.getD (n / 2) 0) 2

/-- Nominal position of an edge, in µm: NOM ± VANE/2 in the direction of travel. -/
def State.edgeNom (s : State) (r : List Byte) (trail : Bool) : Int :=
  let d := s.elemDir (Cfg.Waymark.ELEM r)
  Cfg.Waymark.NOM r + (if trail then d else -d) * ((Cfg.Waymark.VANE r / 2 : Nat) : Int)

/-- The values every car recorded of an edge. -/
def State.edgeVals (s : State) (wm : Nat) (trail : Bool) : List Int :=
  s.carNums.flatMap fun c => (((s.car c).learn.getD {}).edges.filter fun e => e.1 == wm && e.2.1 == trail).map fun e => e.2.2

def spreadOf (l : List Int) : Nat := match l with
  | [] => 0
  | x :: xs => (xs.foldl max x - xs.foldl min x).toNat

/-- DWWAY of the run: the least of the cars'. -/
def State.learnWin (s : State) : Nat := (s.carNums.map fun c => Cfg.CarPos.DWWAY (s.carPos c)).foldl min (2 ^ 32)

/-- R110 step 4: a Waymark fails: an edge not crossed, spread too far, or too far from its nominal position. -/
def State.learnBad (s : State) (r : List Byte) : Bool :=
  [false, true].any fun tr =>
    let v := s.edgeVals (Cfg.Waymark.WM r) tr
    v.isEmpty || decide (s.learnWin < 2 * spreadOf v) || decide (50000 < (median v - s.edgeNom r tr).natAbs)

/-- Segments that some car recorded. -/
def State.learnedSegs (s : State) : List Nat :=
  (s.segCfgs.map Cfg.Segment.SEG).filter fun g => s.carNums.any fun c => ((s.car c).learn.getD {}).segs.any fun p => p.1 == g

/-- BEMFOFF of a segment: the median of the cars' means. -/
def State.learnedOff (s : State) (g : Nat) : Int :=
  median (s.carNums.filterMap fun c => (((s.car c).learn.getD {}).segs.find? fun p => p.1 == g).map fun p => divRound p.2.1 p.2.2)

/-- The calibration a passed run writes, tied to the CRC of the sections R98 names. -/
def State.learnCalib (s : State) : Calib where
  present := true
  edges := (s.recs Cfg.Waymark.sec).map fun r => (Cfg.Waymark.WM r, median (s.edgeVals (Cfg.Waymark.WM r) false), median (s.edgeVals (Cfg.Waymark.WM r) true))
  bemf := s.learnedSegs.map fun g => (g, s.learnedOff g)
  crc := crc32 (sectionRun (s.cfg.a.filter fun p => calibSections.contains p.1))

/-- LEARN_START's reply. -/
def State.learnReply (s : State) (failWm : Option Nat) : List Byte :=
  let ws := s.recs Cfg.Waymark.sec
  let vals := ws.flatMap fun r => [s.edgeVals (Cfg.Waymark.WM r) false, s.edgeVals (Cfg.Waymark.WM r) true]
  le 1 s.carNums.length ++ zeros 1 ++ le 2 (satN 16 (vals.filter fun v => !v.isEmpty).length) ++ le 4 ((vals.map spreadOf).foldl max 0)
    ++ le 2 (failWm.getD 0xFFFF) ++ zeros 2

/-- The run ends, passed or failed: its command's reply, event source 0x25 with car and element 0xFF and whether it passed
(log 56). A failed run leaves the calibration state as it was. -/
def State.endLearn (pass : Bool) (s : State) : State :=
  match s.chk.learn with
  | none => s
  | some r =>
    let fail := ((s.recs Cfg.Waymark.sec).filter s.learnBad).map Cfg.Waymark.WM
    let reply := s.learnReply (if fail.isEmpty then none else some (fail.foldl min 0xFFFF))
    let s1 : State := { s with
      chk := { s.chk with learn := none }
      cfg := if pass then { s.cfg with calib := s.learnCalib } else s.cfg
      cars := s.cars.map fun x => { x with learn := none } }
    let s2 := s1.fire 0x25 (tgtOf 1 0) 0 (le 1 0xFF ++ le 1 0xFF ++ zeros 4 ++ le 1 (b2n pass))
    match r.tag with
    | none => if pass then s2.enterService.autoEnds 0 0 else s2.autoEnds 0x2023 0
    | some tr =>
      if tr.opc = 0x2001 then
        (if pass then s2.enterService.done tr (enableReply 0 0 r.crc 1)
         else s2.finish tr 4 0x2023 s.time.now (enableReply 0 0 r.crc 1))
      else if pass then s2.done tr reply
      else s2.finish tr 4 0x2023 s.time.now reply

/-- A car with its home block: the run's start. -/
def State.learnCar (s : State) (i : Nat) (x : Car) : Car :=
  if s.carNums.contains i then
    { x with learn := some { home := (s.blockAt x.pos.elem (roundQ x.pos.pQ)).getD 0xFFFF, homeE := x.pos.elem, homeP := roundQ x.pos.pQ } }
  else x

/-- R110 step 1: the run begins with every car COARSE or better, or ends at once. -/
def State.beginLearn (r : ChkRun) (s : State) : State :=
  let s1 := { s with chk := { s.chk with learn := some r }, cars := s.cars.mapIdx fun i x => s.learnCar i x }
  if s.carNums.all fun c => decide (1 ≤ (s.car c).pos.trust) then s1 else s1.endLearn false

/-- The elements of the loop after a car's home element, up to the last before it again. -/
def State.roundTrip (s : State) (e : Nat) : List Nat :=
  (((s.nexts e).filterMap fun n => (s.route n e).map fun p => n :: p).head?.getD []).dropLast

/-- R110 step 2: where a car of the run travels next: round to the element before its home, then to its start. -/
def State.learnGoal (s : State) (l : LearnRec) : Nat × Int :=
  if l.away then (l.homeE, l.homeP)
  else match (s.roundTrip l.homeE).getLast? with
    | some e => (e, s.joinOut e l.homeE)
    | none => (l.homeE, l.homeP)

/-- One car of a learn run at a boundary. -/
def State.learnMove (speed c : Nat) (s : State) : State :=
  match (s.car c).learn with
  | none => s
  | some l0 =>
    let l := { l0 with away := l0.away || (s.car c).pos.elem != l0.homeE }
    let s1 := s.modCar c fun x => { x with learn := x.learn.map fun k => { k with away := l.away } }
    let g := s1.learnGoal l
    let p := s1.planOf c
    let has (m : Option Move) : Bool := match m with
      | some mv => mv.kind == 3 && mv.elem == g.1 && mv.target == g.2
      | none => false
    if has p.move || has p.next || (p.standing && (s1.car c).pos.elem == g.1 && p.pQ == g.2 * oneQ) then s1
    else s1.modPlan c fun q => { q with next := some { elem := g.1, target := g.2, vmax := speed, kind := 3, due := s.time.now } }

/-- What ends a run before its cars are home: a car UNKNOWN, a stop of kind S2 or S3, a trip (log 57). -/
def State.learnBroken (s : State) : Bool :=
  s.safe.latch || s.carNums.any fun c => (s.car c).pos.trust == 0 || (s.planOf c).stop == some .s2 || (s.planOf c).stop == some .s3

/-- The learn run at a tick boundary; a broken run stops its cars. -/
def State.learnStep (s : State) : State :=
  match s.chk.learn with
  | none => s
  | some r =>
    if s.learnBroken then s.carNums.foldl (fun s c => s.askStop .s1 none c) (s.endLearn false)
    else s.carNums.foldl (fun s c => s.learnMove r.speed c) s

/-- R110 step 5: every car has gone round and regained its starting block. -/
def State.learnHome (s : State) : Bool :=
  s.carNums.all fun c => match (s.car c).learn with
    | some l => l.away && (s.blockAt (s.car c).pos.elem (roundQ (s.car c).pos.pQ)) == some l.home
    | none => false

/-- LEARN_RUN_END (R110): every car is back in its starting block; the results pass or fail. -/
def execLearnRunEnd (t : Nat) (s : State) : Host.Outcome State Fault Refusal :=
  let s := s.advance t
  if s.chk.learn.isSome && s.learnHome then ok (s.endLearn (((s.recs Cfg.Waymark.sec).filter s.learnBad).isEmpty))
  else ok s

/-! ## LEARN_START -/

def learnStartOwn (s : State) (_tr : TagRec) (d : List Byte) : Own :=
  firstOf [refuseIf s.chk.running.isSome 0x2003, refuseIf (s.boot.stage != 5) 0x2004, refuseIf s.chk.learn.isSome 0x2016,
    refuseIf (rd d 0 4 != 0 && (decide (rd d 0 4 < 50000) || decide (1000000 < rd d 0 4))) 0xFF07]

def learnSpeed (v : Nat) : Nat := if v = 0 then 500000 else v

def learnStartEff (tr : TagRec) (d : List Byte) (s : State) : State :=
  s.beginLearn { tag := some tr, crc := s.cfgCrc, at0 := s.time.now, speed := learnSpeed (rd d 0 4) }

def learnStartCard : CardDef where
  k := { opc := 0x2021, role := 1, query := false, kinds := [1] }
  lenOk := lenIs 4
  own := learnStartOwn
  eff := learnStartEff

/-- LEARN_START (R110). -/
def execLearnStart (h : Hdr) (data : List Byte) (s : State) : Host.Outcome State Fault Refusal := ok (runCard learnStartCard h data s)

/-! ## CIRCUIT_ENABLE -/

def circuitEnableOwn (s : State) (_tr : TagRec) (_d : List Byte) : Own :=
  firstOf [refuseIf (s.boot.stage == 6) 0x2001, refuseIf (s.boot.stage != 5) 0x2004, refuseIf s.chk.running.isSome 0x2003,
    refuseIf s.chk.learn.isSome 0x2016]

/-- R59, R62, R470: the check is evaluated as everything stands now; a pending rebuild is made first where every car stands. -/
def State.beginCheck (tag : Option TagRec) (crc : Nat) (s : State) : State :=
  let s1 := if s.boot.role == .lane && s.auth.rebuildDue && s.allStand then s.rebuild else s
  { s1 with chk := { s1.chk with
      running := some { tag := tag, crc := s1.cfgCrc, at0 := s.time.now, found := s1.checkAll (some crc), speed := 500000 }
      report := none, total := 0 } }

def circuitEnableEff (tr : TagRec) (d : List Byte) (s : State) : State := s.beginCheck (some tr) (rd d 0 4)

def circuitEnableCard : CardDef where
  k := { opc := 0x2001, role := 3, query := false, kinds := [1], kindsC := some [8] }
  lenOk := lenIs 8
  own := circuitEnableOwn
  eff := circuitEnableEff

/-- CIRCUIT_ENABLE (R58, R59). -/
def execCircuitEnable (h : Hdr) (data : List Byte) (s : State) : Host.Outcome State Fault Refusal := ok (runCard circuitEnableCard h data s)

/-- ENABLE_CHECK_COMPLETE (R59): REFUSED with FIRST, stage 6, or a learn run where calibration is missing. -/
def execEnableCheckComplete (t : Nat) (s : State) : Host.Outcome State Fault Refusal :=
  let s := s.advance t
  match s.chk.running with
  | none => ok s
  | some r =>
    let s1 := { s with chk := { s.chk with running := none, report := some (r.found.take 1024), total := r.found.length, crc := r.crc } }
    match r.found with
    | e :: rest =>
      match r.tag with
      | some tr => ok (s1.finish tr 3 e.code s.time.now (enableReply e.code (satN 16 (min 1023 rest.length)) r.crc 0))
      | none => ok (s1.autoEnds e.code (min 1023 rest.length))
    | [] =>
      if s.boot.role == .lane && !s.cfg.calib.present then ok (s1.beginLearn { r with found := [] })
      else match r.tag with
        | some tr => ok (s1.enterService.done tr (enableReply 0 0 r.crc 0))
        | none => ok (s1.enterService.autoEnds 0 0)

/-! ## CIRCUIT_DISABLE (R61) -/

/-- R61: every car stands braked, or the CAR device's car is braked with no door moving. -/
def State.mayDisable (s : State) : Bool := s.braked && (s.boot.role == .lane || s.doorNums.all s.doorStands)

def circuitDisableOwn (s : State) (_tr : TagRec) (_d : List Byte) : Own :=
  firstOf [refuseIf (s.boot.stage != 6) 0x2005, refuseIf (!s.mayDisable) 0x2006]

def circuitDisableEff (tr : TagRec) (_d : List Byte) (s : State) : State := { s with chk := { s.chk with disable := s.chk.disable ++ [tr] } }

def circuitDisableCard : CardDef where
  k := { opc := 0x2003, role := 3, query := false, kinds := [1], kindsC := some [8] }
  lenOk := lenIs 4
  own := circuitDisableOwn
  eff := circuitDisableEff

/-- CIRCUIT_DISABLE (R61). -/
def execCircuitDisable (h : Hdr) (data : List Byte) (s : State) : Host.Outcome State Fault Refusal := ok (runCard circuitDisableCard h data s)

/-- R61 steps 1-5 at a tick boundary. -/
def State.disableStep (s : State) : State :=
  if s.chk.disable.isEmpty then s
  else
    let waiting := (s.disp.calls.filter fun k => k.state == 0).map (·.id)
    let s1 := waiting.foldl (fun s id => s.endCall id 3 4) s
    let s2 := s1.carNums.foldl (fun s c => s.setSvc c 0) s1
    let s3 := s2.setStage 5
    let s4 := { s3 with chk := { s3.chk with report := none, total := 0, disable := [] } }
    let s5 := if s.boot.role = .lane then s4.rebuild else s4
    s.chk.disable.foldl (fun (s : State) (tr : TagRec) => s.done tr (le 1 5 ++ zeros 1 ++ le 2 waiting.length ++ le 8 s.time.now)) s5

/-! ## CHECK_REPORT (R62) -/

def ChkEntry.bytes (e : ChkEntry) : List Byte := le 2 e.code ++ zeros 2 ++ le 4 e.node ++ le 4 e.detail

def checkReportReply (s : State) (_tr : TagRec) (d : List Byte) : List Byte :=
  let es := s.chk.report.getD []
  le 2 es.length ++ le 1 (b2n (decide (1024 < s.chk.total))) ++ zeros 1 ++ le 4 (if s.chk.report.isSome then s.chk.crc else 0)
    ++ ((es.drop (rd d 0 2)).take 336).flatMap ChkEntry.bytes

def checkReportCard : CardDef where
  k := { opc := 0x2002, role := 3, query := true, kinds := [1], kindsC := some [8] }
  lenOk := lenIs 4
  eff := answer checkReportReply

/-- CHECK_REPORT (R62). -/
def execCheckReport (h : Hdr) (data : List Byte) (s : State) : Host.Outcome State Fault Refusal := ok (runCard checkReportCard h data s)

/-! ## REANCHOR (R111) -/

/-- The direction of a search in its element. -/
def State.searchDir (s : State) (c dir : Nat) : Int := let d := s.elemDir (s.car c).pos.elem; if dir = 0 then d else -d

/-- The nearest edge ahead of a car's actuator in a direction: its Waymark and distance in µm. -/
def State.edgeAhead (s : State) (c : Nat) (d : Int) : Option (Nat × Int) :=
  let x := s.car c
  let a := roundQ x.pos.pQ + Cfg.CarPos.WMOFF (s.carPos c)
  let es := ((s.recs Cfg.Waymark.sec).filter fun r => Cfg.Waymark.ELEM r == x.pos.elem).flatMap fun r =>
    [false, true].map fun tr => (Cfg.Waymark.WM r, d * (s.edgePos r tr - a))
  (sortKey (fun p => p.2) (es.filter fun p => decide (0 < p.2))).head?

/-- R111: the furthest the search goes: 1.5 times the distance, and no further than the fixed limits. -/
def State.searchEnd (s : State) (c : Nat) (d dist : Int) : Int :=
  let x := (s.car c).pos
  let lim := s.limits x.elem
  let q := roundQ x.pQ + d * (dist * 3 / 2)
  max (lim.1 + s.extDn c x.elem) (min (lim.2 - s.extUp c x.elem) q)

/-- R111: the search's path is held: against the lane, and for an UNKNOWN car, only blocks held now serve (log 58). -/
def State.searchHeld (s : State) (c : Nat) (d dist : Int) : Bool :=
  let x := s.car c
  (d == s.elemDir x.pos.elem && decide (1 ≤ x.pos.trust))
    || (s.reversalBlocks c (roundQ x.pos.pQ) (s.searchEnd c d dist)).all fun b => x.auth.chain.contains b || x.auth.unkHold.contains b

def reanchorOwn (s : State) (tr : TagRec) (d : List Byte) : Own :=
  let c := tgtIdx tr.tgt
  let x := s.car c
  let dir := s.searchDir c (rd d 0 1)
  firstOf [refuseIf s.chk.running.isSome 0x2003, refuseIf s.chk.learn.isSome 0x2016, refuseIf (s.inspected c) 0x3025,
    refuseIf (!(x.stands && x.plan.standing && x.plan.move.isNone && x.plan.next.isNone)) 0x2020,
    refuseIf (((s.edgeAhead c dir).map fun p => !s.searchHeld c dir p.2).getD false) 0x2021,
    refuseIf (decide (1 < rd d 0 1) || decide (300000 < rd d 4 4)) 0xFF07]

/-- REANCHOR's reply. -/
def State.searchReply (s : State) (c : Nat) (k : Search) : List Byte :=
  le 1 (s.car c).pos.trust ++ zeros 3 ++ le 2 k.wm ++ zeros 2 ++ leS 4 (roundQ (s.car c).pos.pQ - k.start)

/-- The search of a car ends: its command's reply, event source 0x26. -/
def State.endSearch (c status reason : Nat) (s : State) : State :=
  match (s.car c).search with
  | none => s
  | some k =>
    let body := s.searchReply c k
    let s1 := s.modCar c fun x => { x with search := none }
    (s1.finish k.tag status reason s.time.now body).posFire 0x26 c (s.car c).pos.trust

/-- R111: the search begins: a move toward the edge; with no edge ahead it ends at once. -/
def reanchorEff (tr : TagRec) (d : List Byte) (s : State) : State :=
  let c := tgtIdx tr.tgt
  let dir := s.searchDir c (rd d 0 1)
  let sp := if rd d 4 4 = 0 then 300000 else rd d 4 4
  let s1 := s.endSearch c 4 0x3020
  let p := roundQ (s.car c).pos.pQ
  match s.edgeAhead c dir with
  | none => (s1.modCar c fun x => { x with search := some { tag := tr, wm := 0xFFFF, start := p } }).endSearch c 4 0x2024
  | some q =>
    let lim := s.searchEnd c dir q.2
    s1.modCar c fun x => { x with
      search := some { tag := tr, dir := dir, speed := sp, wm := q.1, limit := lim, start := p }
      plan := { x.plan with next := some { elem := x.pos.elem, target := lim, vmax := sp, revok := true, kind := 4, due := s.time.now + 31250 } } }

def reanchorCard : CardDef where
  k := { opc := 0x2022, role := 1, query := false, kinds := [8] }
  lenOk := lenIs 8
  own := reanchorOwn
  eff := reanchorEff

/-- REANCHOR (R111). -/
def execReanchor (h : Hdr) (data : List Byte) (s : State) : Host.Outcome State Fault Refusal := ok (runCard reanchorCard h data s)

/-- The actuator position that places it inside a vane by the Waymark window, if `a` does not: the vane's centre. -/
def State.centreFor (s : State) (c wm : Nat) (a : Int) : Option Int :=
  match s.waymark? wm with
  | none => none
  | some r =>
    let p := s.edgePos r false
    let q := s.edgePos r true
    let w := s.wayWindow c
    if decide (min p q + w ≤ a) && decide (a ≤ max p q - w) then none else some ((p + q) / 2 - Cfg.CarPos.WMOFF (s.carPos c))

/-- R107, R111: the edge is found: an UNKNOWN car is reloaded from it and rises to COARSE; the car is sent to its stop point. -/
def State.searchFound (c : Nat) (k : Search) (e : WayEdge) (s : State) : State :=
  let x := s.car c
  let s1 := match s.waymark? e.wm with
    | some r =>
      if x.pos.trust = 0 then
        (s.modCar c fun y => { y with pos := { y.pos with
          pQ := (s.edgePos r e.trail - Cfg.CarPos.WMOFF (s.carPos c)) * oneQ + overNs x.plan.vQ ((s.time.now : Int) - e.te)
          vQ := x.plan.vQ, noSrc := 0 } }).setTrust c 1
      else s
    | none => s
  let sp := roundQ (stopPoint (s1.svcLim c) (s1.planOf c).mot)
  s1.modCar c fun y => { y with
    search := some { k with phase := 1, wm := e.wm, edge := none }
    plan := { y.plan with next := some { elem := y.pos.elem, target := sp, vmax := k.speed, revok := true, kind := 4, due := s.time.now } } }

/-- R111 of one car at a tick boundary. -/
def State.searchCar (c : Nat) (s : State) : State :=
  let x := s.car c
  match x.search with
  | none => s
  | some k =>
    let ours (m : Option Move) : Bool := (m.map fun mv => mv.kind == 4).getD false
    if k.phase = 3 then
      let usable := match s.tapeUse c with
        | .usable _ => true
        | _ => false
      let k1 := { k with stood := k.stood || x.stands, since := if k.stood then k.since else s.time.now, taped := k.taped || (x.stands && usable) }
      let s1 := s.modCar c fun y => { y with search := some k1 }
      if x.stands && decide (2 ≤ x.pos.trust) then s1.endSearch c 2 0
      else if k1.stood && !k1.taped && decide (k1.since + 100000000 ≤ s.time.now) then s1.endSearch c 2 0
      else s1
    else if x.pos.tapeLost then
      let s1 := if 1 < x.pos.trust then s.setTrust c 1 else s
      (s1.endSearch c 4 0x2025).askStop .s1 none c
    else if !(ours x.plan.move || ours x.plan.next) then s.endSearch c 4 0x3022
    else match k.edge with
      | some e => if k.phase = 0 then s.searchFound c k e else s
      | none => s

/-- R111: the offer of stage 5. -/
def State.offerCar (c : Nat) (s : State) : State :=
  let x := s.car c
  if 5 ≤ s.boot.stage ∧ x.link ∧ x.stands ∧ s.auth.rebuilt ∧ x.offered = false then s.modCar c fun y => { y with offered := true } else s

/-- Searches and offers of every car at a tick boundary. -/
def State.searchStep (s : State) : State := s.carNums.foldl (fun s c => (s.searchCar c).offerCar c) s

/-- R121, R111: an arrival. A search's car that has found its edge is centred over the vane before its brakes apply, then
waits for its anchor; one that has found none ends its search. -/
def State.arrive (c edge : Nat) (s : State) : State :=
  let x := s.car c
  match x.search, x.plan.move with
  | some k, some mv =>
    if mv.kind ≠ 4 then s.arriveCar c edge
    else if k.phase = 0 then (s.arriveCar c edge).endSearch c 4 0x2024
    else
      let a := roundQ x.pos.pQ + Cfg.CarPos.WMOFF (s.carPos c)
      match (if k.phase = 1 then s.centreFor c k.wm a else none) with
      | some q =>
        s.modCar c fun y => { y with
          search := some { k with phase := 2 }
          plan := { y.plan with next := some { elem := y.pos.elem, target := q, vmax := k.speed, revok := true, kind := 4, due := s.time.now } } }
      | none => (s.arriveCar c edge).modCar c fun y => { y with search := some { k with phase := 3 } }
  | _, _ => s.arriveCar c edge

end Sys2Proof.Machine
end

