-- ==== Sys2Proof/Machine/Energy.lean ====
section
/-! DEFINITION. Energy metering and supply quality (file 13: R325-R343): cycles, registers, slots, pulses, supply events,
the sag retarget, ENERGY_READ, SUPPLY_READ. Samples are in µV and µA. -/

namespace Sys2Proof.Machine

def State.meterCfg (s : State) : List Byte := s.one Cfg.Meter.sec Cfg.Meter.dflt
def State.adcRec (s : State) (ch : Nat) : List Byte := s.keyed Cfg.AdcCh.sec Cfg.AdcCh.CH ch Cfg.AdcCh.dflt
def State.pulseRec (s : State) (pch : Nat) : Option (List Byte) := (s.recs Cfg.PulseCh.sec).find? fun r => Cfg.PulseCh.PCH r == pch
def State.modMeter (f : Meter → Meter) (s : State) : State := { s with meter := f s.meter }

/-- Whether the device meters: the LANE role, from stage 3 (R332). -/
def State.meters (s : State) : Bool := s.boot.role == .lane && decide (3 ≤ s.boot.stage) && s.meter.restored

/-- R343: payload of event sources 0xA3-0xA6: SUPST and the register concerned, 0xFF for none (log 59). -/
def State.supItems (s : State) (src : Nat) : List Byte := le 2 s.meter.supst ++ le 1 src

/-! ## Samples and interpolation (R325) -/

/-- One channel's value in µV or µA: its 24-bit ADC value, clipped at full scale, times SCALE (log 59). -/
def State.sample (s : State) (ch : Nat) (adc : Int) : Int :=
  let sc := (F64.ofF32 (Cfg.AdcCh.SCALE (s.adcRec ch))).dyadic
  let x := max (-8388608) (min 8388608 adc)
  let num := x * 1000000 * sc.1
  if 0 ≤ sc.2 then divRound (num * 2 ^ sc.2.toNat) 8388608 else divRound num (8388608 * 2 ^ sc.2.natAbs)

/-- Value of a channel at a time in ns after the first sample of a list, by linear interpolation, the ends held. -/
def interp (l : List (List Int)) (ch : Nat) (x : Int) : Int :=
  let at0 (i : Int) : Int := (l.getD (min (l.length - 1) i.toNat) []).getD ch 0
  let i := x / 125000
  at0 i + divRound ((at0 (i + 1) - at0 i) * (x - 125000 * i)) 125000

/-- Samples of every channel at the boundaries of a stretch, PHCOR removed. `base` samples precede it. -/
def State.corrected (s : State) (all : List (List Int)) (base n : Nat) : List (List Int) :=
  (List.range n).map fun k => (List.range 8).map fun ch =>
    let x : Int := 125000 * (base + k : Nat)
    interp all ch (x + Cfg.AdcCh.PHCOR (s.adcRec ch))

/-- Root of the mean of squares. -/
def rmsOf (l : List Int) : Nat := isqrt ((l.map fun x => x.natAbs * x.natAbs).sum / max 1 l.length)

def meanOf (l : List Int) : Int := divRound (l.foldl (· + ·) 0) (max 1 l.length)

def colOf (l : List (List Int)) (ch : Nat) : List Int := l.map fun r => r.getD ch 0

/-- Single-bin DFT of samples 125 µs apart at a period, real and imaginary part in Q30. -/
def dft (l : List Int) (per : Nat) : Int × Int :=
  l.zipIdx.foldl (fun (a : Int × Int) (p : Int × Nat) =>
    (a.1 + p.1 * cosFrac (125000 * p.2) (max 1 per), a.2 - p.1 * sinFrac (125000 * p.2) (max 1 per))) (0, 0)

/-- Phase of one phasor against another, in 0.01 degree. -/
def phaseBetween (ref x : Int × Int) : Int :=
  let re := x.1 * ref.1 + x.2 * ref.2
  let im := x.2 * ref.1 - x.1 * ref.2
  if re = 0 ∧ im = 0 then Config.zeroPhase else angleOf re im

/-- R326: quantities over one cycle. `all` holds `base` earlier samples, then `n` of the cycle, then the next. -/
def State.cycleOf (s : State) (all : List (List Int)) (base n per at0 freq : Nat) : Cycle :=
  let x := s.corrected all base n
  let v (k : Nat) : List Int := colOf x k
  let i (k : Nat) : List Int := colOf x (3 + k)
  let late (k : Nat) : List Int := (List.range n).map fun j =>
    interp all k ((125000 * (base + j) : Nat) - ((per / 4 : Nat) : Int) + Cfg.AdcCh.PHCOR (s.adcRec k))
  let mul (a b : List Int) : Int := meanOf ((a.zip b).map fun p => p.1 * p.2)
  let ph := [0, 1, 2]
  let ps := ph.map fun k => mul (v k) (i k)
  let qs := ph.map fun k => mul (late k) (i k)
  let ss := ph.map fun k => rmsOf (v k) * rmsOf (i k)
  let pf (p : Int) (a : Nat) : Int := if a = 0 then Config.zeroPf else divRound (p * 10000) a
  let d (k : Nat) : Int × Int := dft (colOf x k) per
  { urms := ph.map fun k => rmsOf (v k), irms := [3, 4, 5, 6].map fun k => rmsOf (colOf x k), vdc := meanOf (v 7), freq := freq
    p := ps.foldl (· + ·) 0, q := qs.foldl (· + ·) 0, s := ss.sum
    pf := (ps.zip ss).map (fun z => pf z.1 z.2) ++ [pf (ps.foldl (· + ·) 0) ss.sum]
    ang := [phaseBetween (d 0) (d 1), phaseBetween (d 0) (d 2), phaseBetween (d 0) (d 3), phaseBetween (d 1) (d 4), phaseBetween (d 2) (d 5)]
    at0 := at0 }

/-! ## Supply state at a cycle's end (R337) -/

/-- R337: V1 + V2 + V3 as fundamental phasors exceeds 3 × NEUTH % of UNOM, every line-to-line voltage within ±10 %. -/
def State.neutralOff (s : State) (x : List (List Int)) (per : Nat) : Bool :=
  let m := s.meterCfg
  let un : Nat := Cfg.Meter.UNOM m * 1000000
  let n := max 1 x.length
  let d := [0, 1, 2].map fun k => dft (colOf x k) per
  let re := (d.map (·.1)).foldl (· + ·) 0
  let im := (d.map (·.2)).foldl (· + ·) 0
  -- RMS of the sum squared is 2 |X|² / n² (Q60)
  let sum2 := 2 * (re * re + im * im)
  let lim := 3 * Cfg.Meter.NEUTH m * un * n * 2 ^ 30
  let line (a b : Nat) : Nat := rmsOf (x.map fun r => r.getD a 0 - r.getD b 0)
  let okL (u : Nat) : Bool := decide (3 * 81 * un * un ≤ 100 * u * u) && decide (100 * u * u ≤ 3 * 121 * un * un)
  decide ((lim * lim : Nat) < (sum2 * 10000).toNat) && okL (line 0 1) && okL (line 1 2) && okL (line 2 0)

/-- R337 at a cycle's end: SEQERR, NEUTLOSS and FREQERR, each change told (0xA3). -/
def State.supplyState (s : State) (c : Cycle) (neut : Bool) : State :=
  let m := s.meter
  let a := c.ang.getD 0 0
  let wrong := decide (9000 ≤ a) && decide (a ≤ 15000)
  let right := decide (-15000 ≤ a) && decide (a ≤ -9000)
  let fn := Cfg.Meter.FNOM s.meterCfg * 1000
  let fe := decide (c.freq * 100 < fn * 95) || decide (fn * 105 < c.freq * 100)
  if m.intr.isSome then s
  else
    let bad := if wrong then min 10 (m.seqBad + 1) else 0
    let good := if right then min 10 (m.seqGood + 1) else 0
    let nb := if neut then min 10 (m.neuBad + 1) else 0
    let ng := if neut then 0 else min 10 (m.neuGood + 1)
    let m1 := { m with
      seqBad := bad, seqGood := good, neuBad := nb, neuGood := ng, freqErr := fe
      seqErr := if m.seqErr then decide (good < 10) else decide (10 ≤ bad)
      neutLoss := if m.neutLoss then decide (ng < 10) else decide (10 ≤ nb) }
    let s1 := { s with meter := m1 }
    let n := b2n (m1.seqErr != m.seqErr) + b2n (m1.neutLoss != m.neutLoss) + b2n (m1.freqErr != m.freqErr)
    (List.range n).foldl (fun (s : State) _ => s.fire 0xA3 (tgtOf 1 0) 0 (s.supItems 0xFF)) s1

/-- CYCLE_END (R326): V1 has crossed zero upwards between the last two samples. -/
def execCycleEnd (t : Nat) (s : State) : Host.Outcome State Fault Refusal :=
  let s := s.advance t
  let m := s.meter
  let n := m.samples.length
  let v0 := (m.samples.getD (n - 2) []).getD 0 0
  let v1 := (m.samples.getD (n - 1) []).getD 0 0
  if !s.meters || decide (n < 2) || !(decide (v0 < 0) && decide (0 ≤ v1)) then ok s
  else
    let tc := m.sampAt - 125000 + (divRound (125000 * (-v0)) (v1 - v0).toNat).toNat
    let next := (m.samples.drop (n - 1))
    match m.cycStart with
    | none => ok { s with meter := { m with cycStart := some tc, prevSamp := m.samples.dropLast, samples := next } }
    | some t0 =>
      let per := tc - t0
      let periods := (per :: m.periods).take 10
      let freq := (divRound (Int.ofNat (periods.map fun p => 10 ^ 24 / max 1 p).sum) (10 ^ 12 * periods.length)).toNat
      let all := m.prevSamp ++ m.samples
      let base := m.prevSamp.length
      let c := s.cycleOf all base (n - 1) per tc freq
      let neut := s.neutralOff (s.corrected all base (n - 1)) per
      let s1 := { s with meter := { m with cycStart := some tc, prevSamp := m.samples.dropLast, samples := next, periods := periods, cyc := some c } }
      ok (s1.supplyState c neut)

/-! ## Energy registers and commits (R327-R330) -/

/-- Energy of a power in pW over a time, in 2^-16 µWh, rounded (log 59). -/
def energyOf (p : Int) (ns : Nat) : Nat := (divRound (p * ns * 65536) (3600 * 10 ^ 15)).natAbs

/-- R328: which of a pair of registers a power feeds: none below the threshold. -/
def feedsReg (p : Int) (noload : Nat) : Option Bool :=
  if (noload : Int) * 10 ^ 12 ≤ p then some true else if p ≤ -((noload : Int) * 10 ^ 12) then some false else none

def addReg (i : Nat) (e : Nat) (l : List Nat) : List Nat := l.modify i fun x => (x + e) % 2 ^ 80

/-- R328: a stretch of time's energy. -/
def Meter.accrue (noload ns : Nat) (m : Meter) : Meter :=
  match m.cyc with
  | none => m
  | some c =>
    let fp := feedsReg c.p noload
    let fq := feedsReg c.q noload
    let r1 := match fp with
      | some up => addReg (if up then 0 else 1) (energyOf c.p ns) m.regs
      | none => m.regs
    let r2 := match fq with
      | some up => addReg (if up then 2 else 3) (energyOf c.q ns) r1
      | none => r1
    { m with regs := r2, noLoad := fp.isNone || fq.isNone }

/-- R329, R330: one commit, at an instant: the slot numbered SLOTSEQ mod 2. -/
def Meter.commitAt (now : Nat) (m : Meter) : Meter :=
  let seq := (m.seq + 1) % 2 ^ 64
  let x : Slot80 := { valid := true, seq := seq, regs := m.regs, ep := m.ep, mp := m.mp, commit := now }
  let m1 := { m with seq := seq, commit := now }
  if seq % 2 = 0 then { m1 with slot0 := x } else { m1 with slot1 := x }

/-- The slot of the last commit. -/
def Meter.last (m : Meter) : Slot80 := if m.seq % 2 = 0 then m.slot0 else m.slot1

/-- BROWN_OUT_WARNING (R330): the part tick's energy and one extra commit. -/
def execBrownOutWarning (t : Nat) (s : State) : Host.Outcome State Fault Refusal :=
  let s := s.advance t
  if !s.meters then ok s
  else
    let gone := 125000 - min 125000 (s.time.nextTick - s.time.now)
    let ns := gone - s.meter.part
    ok (s.modMeter fun m => { (m.accrue (Cfg.Meter.NOLOAD s.meterCfg) ns).commitAt s.time.now with part := m.part + ns })

/-- R332: restoring the registers in stage 3; each case is recorded (TYPE 0x0C). -/
def State.meterRestore (s : State) : State :=
  if s.boot.role ≠ .lane then s
  else
    let m := s.meter
    let newer := if m.slot0.seq < m.slot1.seq then m.slot1 else m.slot0
    let from0 (x : Slot80) (flg : Nat) : Meter := { m with regs := x.regs, ep := x.ep, mp := x.mp, seq := x.seq, commit := x.commit, mflg := flg, restored := true }
    let m1 := match m.slot0.valid, m.slot1.valid with
      | true, true => from0 newer 0
      | true, false => from0 m.slot0 1
      | false, true => from0 m.slot1 1
      | false, false => { m with regs := List.replicate 4 0, ep := [0, 0], mp := [0, 0], seq := 0, commit := 0, mflg := 4, restored := true }
    let m2 := { m1 with mpBase := [0, 1].map fun k =>
      (s.time.now, m1.regs.getD (((s.pulseRec (2 + k)).map Cfg.PulseCh.SRC).getD 0) 0, m1.mp.getD k 0) }
    let s1 := { s with meter := m2 }
    let s2 := if m2.mflg = 4 then s1.fire 0xA6 (tgtOf 1 0) 0 (s1.supItems 0xFF) else s1
    s2.ledger 0x0C m2.mflg 0 0 (le 8 m2.seq)

/-! ## Pulses (R334, R335) -/

/-- R334: pulses an output owes. -/
def State.owed (s : State) (ep : Nat) : Nat :=
  match s.pulseRec ep with
  | none => 0
  | some r =>
    let k := Cfg.PulseCh.CONST r
    if k = 0 then 0
    else (s.meter.regs.getD (Cfg.PulseCh.SRC r) 0 * k / (65536 * 10 ^ 9) % 2 ^ 32 + 2 ^ 32 - s.meter.ep.getD ep 0) % 2 ^ 32

/-- R334: a backlog above 16 pulses is told (0xA5). -/
def State.backlog (ep : Nat) (s : State) : State :=
  let above := decide (16 < s.owed ep)
  let was := s.meter.epOvf.getD ep false
  let s1 := s.modMeter fun m => { m with epOvf := m.epOvf.set ep above }
  if above && !was then s1.fire 0xA5 (tgtOf 1 0) 0 (s1.supItems (((s.pulseRec ep).map Cfg.PulseCh.SRC).getD 0)) else s1

/-- PULSE_OUTPUT (R334): the next owed pulse, a pulse and a pause of PW after the last began. -/
def execPulseOutput (t ep : Nat) (s : State) : Host.Outcome State Fault Refusal :=
  let s := s.advance t
  let pw := ((s.pulseRec ep).map Cfg.PulseCh.PW).getD 32
  if s.meters && decide (ep < 2) && decide (0 < s.owed ep) && decide (s.meter.lastPulse.getD ep 0 + 2000000 * pw ≤ s.time.now) then
    ok ((s.modMeter fun m => { m with
      ep := m.ep.modify ep fun x => wrapAdd 32 x 1
      lastPulse := (if m.lastPulse.isEmpty then [0, 0] else m.lastPulse).set ep s.time.now }).backlog ep)
  else ok s

/-- METER_PULSE (R335): a debounced pulse on MP0 or MP1. -/
def execMeterPulse (t mp : Nat) (s : State) : Host.Outcome State Fault Refusal :=
  let s := s.advance t
  if s.meters && decide (mp < 2) then ok (s.modMeter fun m => { m with mp := m.mp.modify mp fun x => wrapAdd 32 x 1 }) else ok s

/-- R335: whether a window is a deviation; everything times CONST × 100 × 65,536. -/
def windowOff (r : List Byte) (dev cnt : Nat) : Bool :=
  let k := Cfg.PulseCh.CONST r
  let d : Int := dev * k * 100
  let mp : Int := cnt * 10 ^ 9 * 65536 * 100
  decide (max (cnt * 10 ^ 9 * 65536 * Cfg.PulseCh.CMPTOL r) (2 * 10 ^ 9 * 65536 * 100) < (d - mp).natAbs)

/-- CMPWIN_EXPIRY (R335): the device's energy against the meter's pulses. -/
def execCmpwinExpiry (t mp : Nat) (s : State) : Host.Outcome State Fault Refusal :=
  let s := s.advance t
  match s.pulseRec (2 + mp), s.meter.mpBase[mp]? with
  | some r, some (t0, reg0, cnt0) =>
    if !s.meters || decide (2 ≤ mp) || decide (s.time.now < t0 + 1000000000 * Cfg.PulseCh.CMPWIN r) then ok s
    else
      let reg := s.meter.regs.getD (Cfg.PulseCh.SRC r) 0
      let cnt := s.meter.mp.getD mp 0
      let off := windowOff r ((reg + 2 ^ 80 - reg0) % 2 ^ 80) ((cnt + 2 ^ 32 - cnt0) % 2 ^ 32)
      let s1 := s.modMeter fun m => { m with mpBase := m.mpBase.set mp (s.time.now, reg, cnt), mpDev := off }
      ok (if off then s1.fire 0xA4 (tgtOf 1 0) 0 (s1.supItems (Cfg.PulseCh.SRC r)) else s1)
  | _, _ => ok s

/-! ## Supply events (R336, R339, R340) -/

/-- R336: the record of a supply event. KIND 0 sag, 1 swell, 2 interruption (log 59). -/
def supRecord (kind dur : Nat) (e : SupEv) : List Byte := le 1 kind ++ le 1 e.mask ++ le 8 e.start ++ le 4 (satN 32 dur) ++ le 2 (satN 16 e.ext)

/-- R336, R391: an event begins or ends: its source fires, its ledger record is made. -/
def State.supFire (kind dur : Nat) (e : SupEv) (s : State) : State :=
  (s.fire (0xA0 + kind) (tgtOf 1 0) 0 (supRecord kind dur e)).ledger 6 kind e.mask 0 (le 8 e.start ++ le 4 (satN 32 dur) ++ le 2 (satN 16 e.ext))

/-- An event after a half cycle: begun, going on with its extreme, or ended; answers what to tell. -/
def supStep (now : Nat) (begins ends : Bool) (mask ext : Nat) (worse : Nat → Nat → Nat) : Option SupEv → Option SupEv × Option (Nat × SupEv)
  | none =>
    if begins then
      let e : SupEv := { start := now, mask := mask, ext := ext }
      (some e, some (0, e))
    else (none, none)
  | some e =>
    let e1 := { e with mask := e.mask ||| mask, ext := worse e.ext ext }
    if ends then (none, some ((now - e.start) / 1000000, e1)) else (some e1, none)

def tellSup (kind : Nat) (p : Option (Nat × SupEv)) (s : State) : State := match p with
  | some q => s.supFire kind q.1 q.2
  | none => s

/-- R340: the sag's hold begins as it ends; a new sag's cars are retargeted at its first boundary (R339). -/
def State.sagEdges (was : Bool) (s : State) : State :=
  let is := s.meter.sag.isSome
  if is && !was then
    { s with meter := { s.meter with sagHold := none, sagDue := some (s.time.now + 31250) }, cars := s.cars.map fun x => { x with sagDone := false } }
  else if was && !is then s.modMeter fun m => { m with sagHold := some s.time.now }
  else s

/-- HALF_CYCLE (R336): U½ of each phase over the last cycle's samples. -/
def execHalfCycle (t : Nat) (s : State) : Host.Outcome State Fault Refusal :=
  let s := s.advance t
  let m := s.meter
  let k := s.meterCfg
  let per := m.periods.head?.getD (1000000000 / max 1 (Cfg.Meter.FNOM k))
  let n := (per + 62500) / 125000
  let all := m.prevSamp ++ m.samples
  if !s.meters || decide (all.length < n) then ok s
  else
    let x := s.corrected all (all.length - n) n
    let u := [0, 1, 2].map fun c => rmsOf (colOf x c)
    -- in 0.01 % of UNOM, and exact comparison against a threshold in %
    let pc (v : Nat) : Nat := (divRound (10000 * v) (max 1 (Cfg.Meter.UNOM k * 1000000))).toNat
    let under (v th : Nat) : Bool := decide (100 * v < th * Cfg.Meter.UNOM k * 1000000)
    let above (v th : Nat) : Bool := decide (th * Cfg.Meter.UNOM k * 1000000 < 100 * v)
    let lo := pc (u.foldl min (u.headD 0))
    let hi := pc (u.foldl max 0)
    let sag := supStep s.time.now (u.any fun v => under v (Cfg.Meter.SAGTH k)) (u.all fun v => !under v (Cfg.Meter.SAGTH k + Cfg.Meter.HYST k))
      (bitsOf (u.map fun v => under v (Cfg.Meter.SAGTH k))) lo min m.sag
    let swell := supStep s.time.now (u.any fun v => above v (Cfg.Meter.SWELLTH k)) (u.all fun v => !above v (Cfg.Meter.SWELLTH k - Cfg.Meter.HYST k))
      (bitsOf (u.map fun v => above v (Cfg.Meter.SWELLTH k))) hi max m.swell
    let intr := supStep s.time.now (u.all fun v => under v (Cfg.Meter.INTTH k)) (u.any fun v => !under v (Cfg.Meter.INTTH k + Cfg.Meter.HYST k))
      (bitsOf (u.map fun v => under v (Cfg.Meter.INTTH k))) lo min m.intr
    let s1 := { s with meter := { m with sag := sag.1, swell := swell.1, intr := intr.1 } }
    ok (((tellSup 0 sag.2 s1 |> tellSup 1 swell.2) |> tellSup 2 intr.2).sagEdges m.sag.isSome)

/-- SAGHOLD_EXPIRY (R340): SAGHOLD after the sag ended, the cap and the start inhibit are lifted. -/
def execSagholdExpiry (t : Nat) (s : State) : Host.Outcome State Fault Refusal :=
  let s := s.advance t
  match s.meter.sagHold with
  | some t0 =>
    if t0 + 1000000 * Cfg.Meter.SAGHOLD s.meterCfg ≤ s.time.now then ok (s.modMeter fun m => { m with sagHold := none, derate := false, sagDue := none })
    else ok s
  | none => ok s

/-- R339 step 2: the landing of a car's lane that replaces its target, if any does. -/
def State.sagLanding (s : State) (c : Nat) (mv : Move) : Option Int :=
  let x := s.car c
  let e := x.pos.elem
  let d := dirOf x.plan.mot x.plan.target
  let stop := stopPoint (s.svcLim c) x.plan.mot
  let room (p : Int) : Bool := x.pos.loaElem != e || x.pos.loaDir != d || decide (d * (p + d * s.reach c e d) ≤ d * x.pos.loa)
  let ls := (sortKey (fun p => d * p) (s.sills e)).filter fun p => decide (0 ≤ d * (p * oneQ - stop)) && room p && !(decide ((s.limits e).2 < p + s.extUp c e) || decide (p - s.extDn c e < (s.limits e).1))
  match ls.head? with
  | none => none
  | some p => if mv.elem = e ∧ d * mv.target ≤ d * p then none else some p

/-- R339 of one car: once in a sag, at the boundary at which it drives in a lane. On the second leg of a reversal a landing
beyond the target is passed over by the comparison with the target. -/
def State.sagCar (c : Nat) (s : State) : State :=
  let x := s.car c
  if x.sagDone || !isLane x.pos.elem || x.prop.seq != .driving then s
  else
    let s1 := s.modCar c fun y => { y with sagDone := true }
    match x.plan.move with
    | none => s1
    | some mv =>
      match s.sagLanding c mv with
      | none => s1
      | some p =>
        ((s1.endMove c 4 0xA012 s.time.now).dropNext c 4 0xA012).modPlan c fun q =>
          { q with next := some { elem := x.pos.elem, target := p, kind := 7, due := s.time.now } }

/-- SAG_RETARGET (R339) at a tick boundary: DERV in force, and each car's retarget. -/
def State.sagStep (s : State) : State :=
  if s.boot.role ≠ .lane then s
  else match s.meter.sagDue with
    | some due =>
      if due ≤ s.time.now then
        let s1 := s.modMeter fun m => { m with derate := true }
        if s.safe.land then s1 else s1.carNums.foldl (fun s c => s.sagCar c) s1
      else s
    | none => s

/-! ## The tick's part (R325, R328, R330, R334) -/

/-- Samples kept for a cycle: enough for the longest cycle of a frequency above 20 Hz. -/
def sampleMax : Nat := 400

/-- METERING_COMMIT and the tick's samples (R325, R328, R330). -/
def State.meterTick (adc : List Int) (s : State) : State :=
  if !s.meters then s
  else
    let row := (List.range 8).map fun ch => s.sample ch (adc.getD ch 0)
    let s1 := s.modMeter fun m =>
      let m1 := { m with samples := (m.samples ++ [row]).drop ((m.samples.length + 1) - sampleMax), sampAt := s.time.now }
      { (m1.accrue (Cfg.Meter.NOLOAD s.meterCfg) (125000 - min 125000 m.part)).commitAt s.time.now with part := 0 }
    (s1.backlog 0).backlog 1

/-! ## ENERGY_READ, SUPPLY_READ -/

def energyReadReply (s : State) (_tr : TagRec) (_d : List Byte) : List Byte :=
  let x := s.meter.last
  let r (i : Nat) : Nat := x.regs.getD i 0 / 65536 % 2 ^ 64
  ([0, 1, 2, 3].flatMap fun i => le 4 (r i / 1000 % 2 ^ 32)) ++ ([0, 1, 2, 3].flatMap fun i => le 8 (r i))
    ++ le 8 x.commit ++ le 8 x.seq ++ le 4 (x.ep.getD 0 0) ++ le 4 (x.ep.getD 1 0) ++ le 4 (x.mp.getD 0 0) ++ le 4 (x.mp.getD 1 0)
    ++ le 2 (s.meter.mflg + 2 * b2n s.meter.storeFlt) ++ zeros 2

def energyReadCard : CardDef where
  k := { opc := 0xA001, role := 1, query := true, kinds := [1] }
  lenOk := lenIs 0
  own := fun s _ _ => refuseIf (!s.meter.restored) 0xA011
  eff := answer energyReadReply

/-- ENERGY_READ (R333). -/
def execEnergyRead (h : Hdr) (data : List Byte) (s : State) : Host.Outcome State Fault Refusal := ok (runCard energyReadCard h data s)

def supplyReadReply (s : State) (_tr : TagRec) (_d : List Byte) : List Byte :=
  let c := s.meter.cyc.getD {}
  let milli (x : Int) : Int := divRound x 1000
  let unit (x : Int) : Int := divRound x 1000000000000
  let g (l : List Nat) (i : Nat) : List Byte := le 4 (milli (l.getD i 0)).toNat
  (g c.urms 0 ++ g c.urms 1 ++ g c.urms 2) ++ (g c.irms 0 ++ g c.irms 1 ++ g c.irms 2 ++ g c.irms 3) ++ leS 4 (milli c.vdc) ++ le 4 c.freq
    ++ leS 4 (unit c.p) ++ leS 4 (unit c.q) ++ le 4 (unit c.s).toNat ++ ([0, 1, 2, 3].flatMap fun i => leS 2 (c.pf.getD i 0))
    ++ ([0, 1, 2, 3, 4].flatMap fun i => leS 2 (c.ang.getD i 0)) ++ le 2 s.meter.supst ++ le 8 c.at0

def supplyReadCard : CardDef where
  k := { opc := 0xA002, role := 1, query := true, kinds := [1] }
  lenOk := lenIs 0
  eff := answer supplyReadReply

/-- SUPPLY_READ (R326, R336). -/
def execSupplyRead (h : Hdr) (data : List Byte) (s : State) : Host.Outcome State Fault Refusal := ok (runCard supplyReadCard h data s)

end Sys2Proof.Machine
end

