-- ==== Sys2Proof/Machine/Wire.lean ====
section
/-! DEFINITION. The wire form of packets and records: header layout (file 02), AES-256-GCM sealing (R46, log 5). -/

namespace Sys2Proof.Machine

/-- The 32-byte header of a command packet. -/
def Packet.header (p : Packet) : List Byte :=
  le 2 p.opc ++ le 1 p.flg ++ le 1 p.dom ++ le 2 p.tag ++ le 2 p.len ++ le 4 p.seq ++ le 4 p.tgt ++ le 8 p.launch ++ zeros 8

/-- The 32-byte header of a reply or event record. -/
def Rec.header (x : Rec) : List Byte :=
  le 2 x.opc ++ le 1 x.flg ++ le 1 x.dom ++ le 2 x.tag ++ le 2 x.data.length ++ le 4 x.seq ++ le 4 x.tgt ++ le 8 x.stamp
    ++ le 1 x.status ++ le 1 x.coal ++ le 2 x.reason ++ zeros 4

/-- Bytes combined with the key stream. -/
def gcmXor (key nonce : Nat) : Nat → List Byte → List Byte
  | _, [] => []
  | i, b :: bs => (b ^^^ Config.gcmStream key nonce i) :: gcmXor key nonce (i + 1) bs

/-- R46: the payload of a packet whose tag verifies under the session. -/
def openPacket (se : Session) (p : Packet) : Option (List Byte) :=
  let n := nonceOf se false p.seq
  if p.mac = Config.gcmTag se.keyIn n (Packet.header p) p.ct then some (gcmXor se.keyIn n 0 p.ct) else none

/-- R46: a record as it leaves the device, under the key and nonce it was placed with. -/
def sealRec (x : Rec) : List Byte :=
  let ct := gcmXor x.key x.nonce 0 x.data
  Rec.header x ++ ct ++ le 16 (Config.gcmTag x.key x.nonce (Rec.header x) ct).toNat

end Sys2Proof.Machine
end

