-- ==== Sys2Proof/Machine/Rings.lean ====
section
/-! DEFINITION. The registers of BAR0 and of the bootstrap window, the consumption of records, SPI reads, moderation
(files 01 and 02). -/

namespace Sys2Proof.Machine

/-! ## RING_ERR and indices (R34-R36, R64) -/

/-- R35: a RING_ERR bit is set, and EN is cleared. -/
def State.ringError (p bitNo : Nat) (s : State) : State :=
  s.modRing p fun r => { r with err := r.err ||| 2 ^ bitNo, en := false }

/-- Slots of a list of records. -/
def recSlots (xs : List Rec) : Nat := (xs.map fun x => slotsOf x.data.length).sum

/-- Split the placed records at the consumer index: a record is passed when the slots still in use lie behind it. -/
def passed (used : Nat) : List Rec → List Rec × List Rec
  | [] => ([], [])
  | x :: xs => if used ≤ recSlots xs then let q := passed used xs; (x :: q.1, q.2) else ([], x :: xs)

/-- R64: records were consumed: the flags of their sources clear. -/
def State.consume (xs : List Rec) (s : State) : State :=
  xs.foldl (fun s x => match x.src with | some n => s.unflag n | none => s) s

/-- A host write of EQ_CI (R34, R64). Beyond EQ_PI it sets CIJUMP and moves nothing (log 19). -/
def execEqCi (t pair value : Nat) (s : State) : Host.Outcome State Fault Refusal :=
  let s := s.advance t
  let r := s.ring pair
  let d := (value % 2 ^ 32 + 2 ^ 32 - r.eqCi) % 2 ^ 32
  if r.eqUsed < d then ok (s.ringError pair 3)
  else
    let used := r.eqUsed - d
    let q := passed used r.placed
    ok ((s.modRing pair fun r => { r with eqCi := value % 2 ^ 32, placed := q.2 }).consume q.1)

/-- A host write of RING_CFG: sizes while EN = 0, EN while no RING_ERR bit is set (R35, R36). -/
def execRingCfg (t pair : Nat) (value : Word32) (s : State) : Host.Outcome State Fault Refusal :=
  let s := s.advance t
  let v := value.toNat
  ok (s.modRing pair fun r =>
    { r with sqSize := if r.en then r.sqSize else v % 16
             eqSize := if r.en then r.eqSize else v / 16 % 16
             en := bit v 8 && r.err == 0 })

/-- A host write of RING_ERR: 1 clears (R35). -/
def execRingErr (t pair : Nat) (value : Word32) (s : State) : Host.Outcome State Fault Refusal :=
  ok ((s.advance t).modRing pair fun r => { r with err := clearBits r.err value.toNat })

/-- RING_CFG as read. -/
def Ring.cfgWord (r : Ring) : Nat :=
  r.sqSize + 16 * r.eqSize + 256 * b2n r.en + 512 * b2n r.sess.isSome + 1024 * b2n r.owner.isSome + 2048 * r.owner.getD 0

/-! ## The bootstrap window (R29-R32) -/

/-- BOOT_ID. -/
def bootId : Nat := 0x2400 * 65536 + 256 * Config.dieRev.toNat + Config.pkgRev.toNat

/-- R29: a read of the window. -/
def State.window (s : State) (offset : Nat) : Nat :=
  match offset with
  | 0x00 => bootId
  | 0x04 => s.bootStat
  | 0x08 => s.boot.cause
  | 0x0C => s.boot.fault
  | 0x10 => s.uptime
  | 0x14 => s.boot.ticks
  | 0x18 => s.boot.scratch
  | _ => 0

/-- R34: a read of BAR0. -/
def State.bar0 (s : State) (offset : Nat) : Nat :=
  if offset < 0x100 then s.window offset
  else if 0x1000 ≤ offset ∧ offset < 0x1400 then
    let r := s.ring ((offset - 0x1000) / 64)
    match offset % 64 with
    | 0x00 => r.sqBase % 2 ^ 32
    | 0x04 => r.sqBase / 2 ^ 32
    | 0x08 => r.eqBase % 2 ^ 32
    | 0x0C => r.eqBase / 2 ^ 32
    | 0x10 => r.cfgWord
    | 0x14 => r.sqPi
    | 0x18 => r.sqCi
    | 0x1C => r.eqPi
    | 0x20 => r.eqCi
    | 0x24 => r.err
    | _ => 0
  else if 0x2000 ≤ offset ∧ offset < 0x2200 then
    let v := (offset - 0x2000) / 16
    match offset % 16 with
    | 0 => s.msix.addr.getD v 0 % 2 ^ 32
    | 4 => s.msix.addr.getD v 0 / 2 ^ 32
    | 8 => s.msix.data.getD v 0
    | 12 => b2n (s.msix.masked.getD v false)
    | _ => 0
  else if offset = 0x2800 then bitsOf s.msix.pba
  else 0

/-- Low or high half of a 64-bit register replaced. -/
def setHalf (old : Nat) (hi : Bool) (v : Nat) : Nat := if hi then old % 2 ^ 32 + 2 ^ 32 * v else old / 2 ^ 32 * 2 ^ 32 + v

/-- A ring register with no row of its own: base addresses while EN = 0 (R34, R36). -/
def Ring.write (r : Ring) (o v : Nat) : Ring :=
  if r.en then r
  else match o with
    | 0x00 => { r with sqBase := setHalf r.sqBase false (v / 4096 * 4096) }
    | 0x04 => { r with sqBase := setHalf r.sqBase true v }
    | 0x08 => { r with eqBase := setHalf r.eqBase false (v / 4096 * 4096) }
    | 0x0C => { r with eqBase := setHalf r.eqBase true v }
    | _ => r

/-- A write into the MSI-X table. Unmasking a vector with its pending bit set signals it (PCIe). -/
def Msix.write (m : Msix) (now v o x : Nat) : Msix :=
  match o with
  | 0 => { m with addr := m.addr.modify v fun a => setHalf a false x }
  | 4 => { m with addr := m.addr.modify v fun a => setHalf a true x }
  | 8 => { m with data := m.data.set v x }
  | 12 =>
    let m1 := { m with masked := m.masked.set v (bit x 0) }
    if !bit x 0 && m.pba.getD v false then { m1 with pba := m1.pba.set v false }.signal now v else m1
  | _ => m

/-- R29, R34: a write to a register that has no row of its own: BOOT_SCRATCH, ring bases, the MSI-X table; ignored
elsewhere. -/
def State.registerWrite (s : State) (offset v : Nat) : State :=
  if offset = 0x18 then { s with boot := { s.boot with scratch := v } }
  else if 0x1000 ≤ offset ∧ offset < 0x1400 then s.modRing ((offset - 0x1000) / 64) fun r => r.write (offset % 64) v
  else if 0x2000 ≤ offset ∧ offset < 0x2200 then
    { s with msix := s.msix.write s.time.now ((offset - 0x2000) / 16) (offset % 16) v }
  else s

/-- A register write (R29, R34). -/
def execRegisterWrite (t offset : Nat) (value : Word32) (s : State) : Host.Outcome State Fault Refusal :=
  ok ((s.advance t).registerWrite offset value.toNat)

/-- R31: a write of 1 clears a BOOT_FAULT bit; one whose condition persists sets again. -/
def execBootFault (t : Nat) (value : Word32) (s : State) : Host.Outcome State Fault Refusal :=
  let s := s.advance t
  ok { s with boot := { s.boot with fault := clearBits s.boot.fault value.toNat ||| s.faultsPersisting } }

/-! ## SPI (R39, R40) -/

/-- SPI_STAT bit 0: some EQ holds a record. -/
def State.spiHolds (s : State) : Bool := s.rings.any fun r => r.sess.map (·.tr) == some Transport.spi && !r.placed.isEmpty

/-- SPI_STAT as returned on MISO. -/
def State.spiStatus (s : State) : Nat := clearBits s.power.spiStat 1 ||| b2n s.spiHolds

/-- R39: bits 1 and 2 tell of the last SQ write. -/
def State.setSpi (discarded full : Bool) (s : State) : State :=
  { s with power := { s.power with spiStat := 2 * b2n discarded + 4 * b2n full } }

/-- The bytes the device shifts out on MISO in a transfer, SPI_STAT first. -/
def State.shiftOut (xs : List Byte) (s : State) : State := { s with power := { s.power with miso := le 1 s.spiStatus ++ xs } }

/-- R40: the window read over SPI: SPI_STAT, then the register, little-endian. -/
def execWindowRead (t offset : Nat) (s : State) : Host.Outcome State Fault Refusal :=
  let s := s.advance t
  ok (s.shiftOut (le 4 (s.window offset)))

/-- R39, R40: an EQ read over SPI: LEN16 and one record, which is removed only when all its bytes were clocked out.
`nbytes` counts the bytes clocked after the first. -/
def execEqRead (t pair nbytes : Nat) (s : State) : Host.Outcome State Fault Refusal :=
  let s := s.advance t
  let r := s.ring pair
  match r.sess with
  | none => ok (s.shiftOut (le 2 0))
  | some se =>
    match r.placed with
    | [] => ok (s.shiftOut (le 2 0))
    | x :: xs =>
      if se.tr ≠ .spi then ok (s.shiftOut (le 2 0))
      else
        let w := sealRec x
        let s1 := s.shiftOut ((le 2 w.length ++ w).take nbytes)
        if 2 + w.length ≤ nbytes then ok ((s1.modRing pair fun r => { r with placed := xs }).consume [x]) else ok s1

/-! ## Held rings and moderation (R63, R65) -/

/-- R63: an event ring held full for more than 10 ms. -/
def execEqHeldFull (t pair : Nat) (s : State) : Host.Outcome State Fault Refusal :=
  let s := s.advance t
  match (s.ring pair).fullSince with
  | none => ok s
  | some t0 => if t0 + 10000000 < s.time.now then ok (s.fire 0x02 0 0 []) else ok s

/-- R65: the moderation interval of a vector ends; a pending signal is sent. -/
def execMsixModerationExpiry (t vec : Nat) (s : State) : Host.Outcome State Fault Refusal :=
  let s := s.advance t
  let due := match s.msix.last.getD vec none with
    | none => true
    | some t0 => decide (t0 + 1000 * s.msix.mod.getD vec 0 ≤ s.time.now)
  if s.msix.modPend.getD vec false && due then
    ok { s with msix := { s.msix with modPend := s.msix.modPend.set vec false }.signal s.time.now vec }
  else ok s

/-- R446: PERST_N resets the PCIe endpoint only: its MSI-X table and pending bits (log 20). -/
def execPerstN (t : Nat) (s : State) : Host.Outcome State Fault Refusal :=
  let s := s.advance t
  ok { s with msix := State.reset.msix }

end Sys2Proof.Machine
end

