-- ==== Sys2Proof/Machine/Security.lean ====
section
/-! DEFINITION. Keys, attestation and tamper (file 15: R364-R388, R461): the vault's erasure, handshakes, key update
messages, key operations and the class 0xC cards. -/

namespace Sys2Proof.Machine

def State.modSec (f : Sec → Sec) (s : State) : State := { s with sec := f s.sec }
def State.modVault (f : Vault → Vault) (s : State) : State := { s with vault := f s.vault }
def State.slot (s : State) (n : Nat) : KSlot := s.sec.slots.getD n {}
def State.keyctr (s : State) : Nat := s.vault.ctr.getD 0 0

/-- A class 0xC event (R388). -/
def State.secFire (src who reason : Nat) (s : State) : State := s.fire src 0 reason (s.secItems who reason)

/-- R391: a TYPE 0x07 record. -/
def State.secLedger (code reason : Nat) (s : State) : State := s.ledger 7 code reason 0 (le 4 s.keyctr ++ le 4 (s.vault.ctr.getD 3 0))

/-- Set the vault state; event source 0xC1 on a change. -/
def State.setVault (x : VState) (s : State) : State :=
  if s.vault.st = x then s else (s.modVault fun v => { v with st := x }).secFire 0xC1 0xFF 0

/-- Replace a slot; event source 0xC5 when its state changes. -/
def State.setSlot (n : Nat) (k : KSlot) (s : State) : State :=
  let s1 := s.modSec fun x => { x with slots := x.slots.set n k }
  if (s.slot n).st = k.st then s1 else s1.secFire 0xC5 n 0

/-! ## Pieces of statements (R377, R378) -/

/-- QFLG. -/
def State.qflg (s : State) : Nat :=
  b2n s.boot.reduced + 2 * s.boot.image + 4 * b2n s.pair.pntOut + 8 * b2n (s.pair.st == .active || s.pair.st == .ready)

/-- R377: the body of a quote. -/
def State.quoteBody (s : State) (nonce : List Byte) : List Byte :=
  nonce ++ devid ++ le 8 s.time.now ++ le 1 s.time.tb.code ++ le 1 s.vaultCode ++ le 1 s.boot.stage ++ le 1 s.qflg
    ++ le 4 (s.vault.ctr.getD 2 0) ++ le 4 s.keyctr ++ le 4 (s.vault.ctr.getD 3 0) ++ s.boot.mRom ++ s.boot.mFw ++ s.mCfg

def State.quote (s : State) (nonce : List Byte) : List Byte := s.aliasSigns (s.quoteBody nonce)

def attestQuoteCard : CardDef where
  k := { opc := 0xC001, role := 3, query := true, kinds := [0], rights := .everyone }
  lenOk := fun d => d.length == 40 && maxLenOk 3621 (rd d 34 2)
  own := fun s tr d => s.serveOwn 0 3621 tr d
  eff := fun tr d s => s.serve 0 s.quote tr d

/-- ATTEST_QUOTE (R377). -/
def execAttestQuote (h : Hdr) (data : List Byte) (s : State) : Host.Outcome State Fault Refusal := ok (runCard attestQuoteCard h data s)

/-- R378: keys or certificates; an endorsement record that failed its HMAC is absent (R369). -/
def State.identity (s : State) (which : Nat) : List Byte :=
  let svn := s.vault.ctr.getD 2 0
  if which = 0 then idKeys
  else if which = 1 ∧ s.sec.recsOk = false then []
  else Config.certHead which svn s.boot.mFw :: Config.certRest which svn s.boot.mFw

def identityReadOwn (s : State) (_tr : TagRec) (d : List Byte) : Own :=
  firstOf [refuseIf (decide (2 < rd d 0 1)) 0xFF07, refuseIf (decide ((s.identity (rd d 0 1)).length ≤ rd d 2 2)) 0xC061]

def identityReadReply (s : State) (_tr : TagRec) (d : List Byte) : List Byte :=
  let all := s.identity (rd d 0 1)
  let p := piece all (rd d 2 2) (if rd d 4 2 = 0 then 3621 else min 3621 (rd d 4 2))
  le 2 all.length ++ le 2 (rd d 2 2) ++ le 2 p.length ++ zeros 2 ++ p

def identityReadCard : CardDef where
  k := { opc := 0xC002, role := 3, query := true, kinds := [0], rights := .everyone }
  lenOk := lenIs 6
  own := identityReadOwn
  eff := answer identityReadReply

/-- IDENTITY_READ (R378). -/
def execIdentityRead (h : Hdr) (data : List Byte) (s : State) : Host.Outcome State Fault Refusal := ok (runCard identityReadCard h data s)

/-- R383: the policy record. -/
def Vault.policy (v : Vault) : List Byte := le 1 v.swAct ++ le 1 v.swPol ++ le 1 v.tAct ++ zeros 5

def TLog.bytes (l : TLog) : List Byte := le 1 l.sensor ++ le 1 l.cause ++ zeros 2 ++ le 4 l.coarse

def vaultStatusReply (s : State) (_tr : TagRec) (_d : List Byte) : List Byte :=
  let v := s.vault
  le 1 s.vaultCode ++ le 1 v.log.length ++ le 2 v.sense ++ ((List.range 4).flatMap fun i => le 4 (v.ctr.getD i 0)) ++ v.policy
    ++ le 2 v.vbat ++ le 1 (s.sec.slots.filter fun k => k.st == .valid).length ++ zeros 1 ++ v.log.flatMap TLog.bytes

def vaultStatusCard : CardDef where
  k := { opc := 0xC003, role := 3, query := true, kinds := [0] }
  lenOk := lenIs 0
  eff := answer vaultStatusReply

/-- VAULT_STATUS (R366). -/
def execVaultStatus (h : Hdr) (data : List Byte) (s : State) : Host.Outcome State Fault Refusal := ok (runCard vaultStatusCard h data s)

/-! ## Provisioning (R374, R375) -/

/-- R368, R374: a new battery share from the vault TRNG; the KWK of this firmware is formed. -/
def State.newShare (s : State) : State :=
  let s1 := { s with free := s.free + 1 }
  (s1.modVault fun v => { v with share := some (Config.freeValue s.free).toNat }).modSec fun x => { x with kwk := true }

/-- R375, R49: the Custodian keys and the share are stored, dom0 owns pair 0 with quota 16, the rest is unowned. -/
def provisionEff (tr : TagRec) (d : List Byte) (s : State) : State :=
  let s1 := (s.modSec fun x => { x with cust := some (rd d 0 97, rd d 100 1952) }).newShare
  let s2 := { s1 with rings := s1.rings.zipIdx.map fun (p : Ring × Nat) =>
    { p.1 with owner := if p.2 = 0 then some 0 else none, quota := if p.2 = 0 then 16 else p.1.quota } }
  (s2.setVault .provisioned).done tr devid

def provisionCard : CardDef where
  k := { opc := 0xC010, role := 3, query := false, kinds := [0], rights := .provisional }
  lenOk := lenIs 2052
  own := fun s _ _ => refuseIf (s.vault.st != .unprovisioned) 0xC010
  eff := provisionEff

/-- PROVISION (R375). -/
def execProvision (h : Hdr) (data : List Byte) (s : State) : Host.Outcome State Fault Refusal := ok (runCard provisionCard h data s)

/-! ## Key update messages (R372-R374) -/

/-- Bytes of the body, and of a whole message. -/
def kuBodyLen (m : List Byte) : Nat := rd m 24 2
def kuTotal (m : List Byte) : Nat := 1217 + kuBodyLen m + 3405

/-- R372: the plaintext of BODY where its tag passes. -/
def kuBody (m : List Byte) : Option (List Byte) :=
  let peer := rd m 32 97 + 2 ^ 776 * rd m 129 1088
  let key := Config.hkdf 0 (Config.kemSecret Config.rootSecret peer) (m.take 32)
  let b := (m.drop 1217).take (kuBodyLen m)
  let ct := b.take (b.length - 16)
  if kuBodyLen m < 16 then none
  else if leNat (b.drop (b.length - 16)) = (Config.gcmTag key 0 [] ct).toNat then some (gcmXor key 0 0 ct) else none

/-- R373 step 5, with the length each KIND's body has (log 62). -/
def State.kuValid (s : State) (m body : List Byte) : Bool :=
  let tgt := rd m 1 1
  let use := rd m 2 1
  match rd m 0 1 with
  | 1 => decide (tgt < 128) && decide (1 ≤ use) && decide (use ≤ 4) && body.length == 32
  | 2 => decide (tgt < 128) && use == 0 && body.isEmpty
  | 3 => decide (tgt < 8) && use == 0 && body.length == 2049
  | 4 => tgt == 0 && use == 0 && body.length == 8 && (rd body 2 1 == 1 || rd body 2 1 == 2)
      && ((List.range 4).all fun i => rd body 0 1 / 4 ^ i % 4 != 3)
  | 5 => tgt == 0 && use == 0 && body.isEmpty && (s.vaultCode == 0 || s.vaultCode == 2)
  | _ => false

/-- R373: the checks of a complete message, in order; endurance of KEYCTR last. -/
def State.kuChecks (s : State) (m : List Byte) : Own :=
  let signed0 := m.take (1217 + kuBodyLen m)
  let sig := match s.sec.cust with
    | some k => bothOk k signed0 (rd m (1217 + kuBodyLen m) 96) (rd m (1313 + kuBodyLen m) 3309)
    | none => false
  firstOf [
    refuseIf ((m.drop 4).take 16 != devid) 0xC031,
    refuseIf (!sig) 0xC032,
    refuseIf (decide (rd m 20 4 ≤ s.keyctr)) 0xC033,
    (match kuBody m with
      | none => some (0xC034, [])
      | some b => refuseIf (!s.kuValid m b) 0xC035),
    refuseIf (!s.ctrLeft 0) 0xC037]

/-- The message as it stands with this fragment, where the fragment follows on. -/
def State.kuNext (s : State) (d : List Byte) : Option (List Byte) :=
  let x := d.drop 8
  if rd d 0 4 = 0 then some x
  else match s.sec.keyMsg with
    | some f => if f.next = rd d 0 4 ∧ f.total = rd d 4 4 then some (f.bytes ++ x) else none
    | none => none

def keyUpdateOwn (s : State) (tr : TagRec) (d : List Byte) : Own :=
  let tot := rd d 4 4
  match s.kuNext d with
  | none => some (0xC030, [])
  | some m =>
    let whole := m.length == tot
    firstOf [
      refuseIf (decide (8192 < tot) || decide (tot < 4622) || decide (tot < m.length) || (whole && kuTotal m != tot)) 0xC030,
      refuseIf (((s.ring tr.pair).sess.getD {}).prov && decide (2 ≤ m.length) && m.take 2 != [3, 0]) 0xC011,
      if whole then s.kuChecks m else none]

/-- R372, R374: what a message changes. A slot installed while no KWK is formed is INVALID, or stays ERASED (R371). -/
def State.kuApply (m body : List Byte) (s : State) : State :=
  let t := rd m 1 1
  match rd m 0 1 with
  | 1 => s.setSlot t { st := if s.sec.kwk then .valid else if s.vaultCode = 2 then .erased else .invalid
                       use := rd m 2 1, dom := rd m 3 1, flg := rd m 26 1 % 2, key := leNat body, fw := s.boot.mFw }
  | 2 => s.setSlot t {}
  | 3 => s.modSec fun x => { x with creds := x.creds.set t (some (rd body 0 97, rd body 97 1952)) }
  | 4 => s.modVault fun v => { v with swAct := rd body 0 1, swPol := rd body 1 1 % 16, tAct := rd body 2 1 }
  | 5 =>
    let s1 := (List.range 128).foldl (fun (s : State) n => s.setSlot n {}) s.newShare
    (s1.modSec fun x => { x with tamper := false }).setVault .provisioned
  | _ => s

/-- R382: the sessions of a domain whose credential is replaced close. -/
def State.closeDomain (dom : Nat) (s : State) : State :=
  pairNums.foldl (fun s p => if ((s.ring p).sess.map (·.dom)) = some dom then s.closeSession p false else s) s

/-- R373: KEYCTR first, then the change; the reply goes before a session that the change closes. -/
def keyUpdateEff (tr : TagRec) (d : List Byte) (s : State) : State :=
  match s.kuNext d with
  | none => s
  | some m =>
    if m.length = rd d 4 4 then
      let body := (kuBody m).getD []
      let kind := rd m 0 1
      let had := kind == 3 && (s.sec.creds.getD (rd m 1 1) none).isSome
      let s1 := ((s.modSec fun x => { x with keyMsg := none }).raiseCtr 0 (rd m 20 4)).kuApply m body
      let s2 := (s1.secFire 0xC4 (if kind ≤ 2 then rd m 1 1 else 0xFF) 0).secLedger (if kind = 5 then 3 else 2) kind
      let s3 := s2.done tr (le 4 s2.keyctr)
      if had then s3.closeDomain (rd m 1 1) else s3
    else (s.modSec fun x => { x with keyMsg := some { next := m.length, total := rd d 4 4, bytes := m } }).done tr (le 4 s.keyctr)

def keyUpdateCard : CardDef where
  k := { opc := 0xC011, role := 3, query := false, kinds := [0] }
  lenOk := fun d => decide (9 ≤ d.length)
  own := keyUpdateOwn
  eff := keyUpdateEff

/-- KEY_UPDATE (R373). -/
def execKeyUpdate (h : Hdr) (data : List Byte) (s : State) : Host.Outcome State Fault Refusal := ok (runCard keyUpdateCard h data s)

/-! ## Key operations (R370) -/

def koSlot (d : List Byte) : Nat := rd d 1 1
def koTgt (d : List Byte) : Nat := rd d 2 1
def koAad (d : List Byte) : List Byte := (d.drop 40).take (rd d 6 2)
def koData (d : List Byte) : List Byte := d.drop (40 + rd d 6 2)

/-- The USE an operation needs. -/
def koUse (op : Nat) : Nat :=
  match op with
  | 1 => 1
  | 2 => 2
  | 5 => 4
  | _ => 3

def keyOpOwn (s : State) (tr : TagRec) (d : List Byte) : Own :=
  let op := rd d 0 1
  let k := s.slot (koSlot d)
  let t := s.slot (koTgt d)
  firstOf [
    refuseIf (op == 0 || decide (5 < op)) 0xFF07,
    refuseIf (k.st != .valid || s.vaultCode == 2 || s.sec.tamper || (op == 3 && t.st != .valid)) 0xC020,
    refuseIf (k.use != koUse op) 0xC021,
    refuseIf (!bit k.dom tr.dom) 0xC022,
    refuseIf ((op == 4 || op == 5)
      && (decide (127 < koTgt d) || t.st != .empty || rd d 3 1 == 0 || decide (4 < rd d 3 1) || clearBits (rd d 4 1) k.dom != 0)) 0xC023,
    refuseIf (decide (256 < rd d 6 2) || decide (2048 < rd d 8 2)) 0xC024,
    refuseIf (op == 3 && !bit t.flg 0) 0xC026]

/-- An operation starts with the key the slot holds now (R373), and with a random IV. -/
def keyOpEff (tr : TagRec) (d : List Byte) (s : State) : State :=
  { s with free := s.free + 1, sec := { s.sec with keyOps := s.sec.keyOps ++ [{ tag := tr, data := d, key := (s.slot (koSlot d)).key, free := s.free }] } }

def keyOpCard : CardDef where
  k := { opc := 0xC020, role := 3, query := false, kinds := [0] }
  lenOk := fun d => decide (40 ≤ d.length) && d.length == 40 + rd d 6 2 + rd d 8 2
  own := keyOpOwn
  eff := keyOpEff

/-- KEY_OP (R370). -/
def execKeyOp (h : Hdr) (data : List Byte) (s : State) : Host.Outcome State Fault Refusal := ok (runCard keyOpCard h data s)

/-- IV, TAG, OUTLEN, reserved, OUT. -/
def koReply (iv tag : Nat) (out : List Byte) : List Byte := le 12 iv ++ le 16 tag ++ le 2 out.length ++ zeros 2 ++ out

/-- A key made by unwrap or derive, in its destination slot. -/
def State.koPut (d : List Byte) (key : Nat) (s : State) : State :=
  s.setSlot (koTgt d) { st := .valid, use := rd d 3 1, dom := rd d 4 1, flg := rd d 5 1 % 2, key := key, fw := s.boot.mFw }

/-- R370: what an operation gives: the state, the reason code of its DONE, its reply. -/
def State.koResult (k : KeyOp) (s : State) : State × Nat × List Byte :=
  let d := k.data
  match rd d 0 1 with
  | 1 =>
    let iv := (Config.freeValue k.free).toNat % 2 ^ 96
    let ct := gcmXor k.key iv 0 (koData d)
    (s, 0, koReply iv (Config.gcmTag k.key iv (koAad d) ct).toNat ct)
  | 2 =>
    let iv := rd d 12 12
    if rd d 24 16 = (Config.gcmTag k.key iv (koAad d) (koData d)).toNat then (s, 0, koReply 0 0 (gcmXor k.key iv 0 (koData d)))
    else (s, 0xC025, koReply 0 0 [])
  | 3 => (s, 0, koReply 0 0 (le 40 (Config.rfc3394 k.key (s.slot (koTgt d)).key).toNat))
  | 4 =>
    let plain := (Config.rfc3394Open k.key (leNat (koData d))).toNat
    if koData d = le 40 (Config.rfc3394 k.key plain).toNat then (s.koPut d plain, 0, koReply 0 0 []) else (s, 0xC025, koReply 0 0 [])
  | _ => (s.koPut d (Config.hkdf 0 k.key (koData d) % 2 ^ 256), 0, koReply 0 0 [])

/-- KEY_OP_COMPLETE (R370, R385): the operation that has run longest completes and releases its output. -/
def execKeyOpComplete (t : Nat) (s : State) : Host.Outcome State Fault Refusal :=
  let s := s.advance t
  match s.sec.keyOps with
  | [] => ok s
  | k :: ks =>
    let r := (s.modSec fun x => { x with keyOps := ks }).koResult k
    ok (r.1.finish k.tag 2 r.2.1 s.time.now r.2.2)

/-! ## Rekey and close (R382) -/

/-- The DONE reply is the last record of its epoch: placing it moves the ring on (`Ring.place`). -/
def sessionRekeyEff (tr : TagRec) (_d : List Byte) (s : State) : State :=
  let e := ((s.ring tr.pair).sess.getD {}).epoch
  (s.done tr (le 4 (e + 1))).secFire 0xC2 tr.pair 0

def sessionRekeyCard : CardDef where
  k := { opc := 0xC030, role := 3, query := false, kinds := [0], rights := .ownPair }
  lenOk := lenIs 0
  own := fun s tr _ => refuseIf (decide (0xFFFFFF ≤ ((s.ring tr.pair).sess.getD {}).epoch)) 0xC040
  eff := sessionRekeyEff

/-- SESSION_REKEY (R382). -/
def execSessionRekey (h : Hdr) (data : List Byte) (s : State) : Host.Outcome State Fault Refusal := ok (runCard sessionRekeyCard h data s)

def sessionCloseOwn (s : State) (tr : TagRec) (d : List Byte) : Own :=
  refuseIf ((s.ring (rd d 0 1)).sess.isNone || (rd d 0 1 != tr.pair && tr.dom != 0)) 0xC041

/-- DONE goes before the session ends. -/
def sessionCloseEff (tr : TagRec) (d : List Byte) (s : State) : State := (s.done tr []).closeSession (rd d 0 1) false

def sessionCloseCard : CardDef where
  k := { opc := 0xC031, role := 3, query := false, kinds := [0], rights := .ownPair }
  lenOk := lenIs 4
  own := sessionCloseOwn
  eff := sessionCloseEff

/-- SESSION_CLOSE (R382). -/
def execSessionClose (h : Hdr) (data : List Byte) (s : State) : Host.Outcome State Fault Refusal := ok (runCard sessionCloseCard h data s)

/-! ## Handshakes (R379-R381) -/

/-- The message the device gives next on a pair; a message not read yet is replaced. -/
def State.say (pair hsid msg : Nat) (bytes : List Byte) (s : State) : State :=
  s.modSec fun x => { x with hsOut := (x.hsOut.filter fun o => o.pair != pair) ++ [{ pair := pair, hsid := hsid, msg := msg, bytes := bytes }] }

/-- R381: ERROR with its reason; event source 0xC3. -/
def State.hsError (pair hsid reason : Nat) (s : State) : State :=
  (s.say pair hsid 5 (le 2 reason ++ zeros 2)).secFire 0xC3 pair reason

def helloBytes (m : Hello) : List Byte := le 1 m.dom ++ zeros 3 ++ le 32 m.nonce ++ le 97 m.ephKey ++ le 1184 m.kemKey

/-- R366, R375: the device admits a provisional session. -/
def State.admitsProv (s : State) (m : Hello) : Bool :=
  m.dom == 0 && m.pair == 0 && (s.sec.creds.getD 0 none).isNone && (s.vault.st == .unprovisioned || s.vault.st == .provisioned)

/-- Sessions between units: car link 0xFE, pair link 0xFF (R382). -/
def unitLink (pair : Nat) : Bool := pair == 0xFE || pair == 0xFF

/-- R381: the refusal of a HELLO: the first six rows, in order. A new car-link session is not opened after tamper (R282). -/
def State.helloBars (s : State) (tr : Transport) (m : Hello) : Option Nat :=
  let noCred := (s.sec.creds.getD m.dom none).isNone
  let prov := s.admitsProv m && tr != .ethernet
  if s.boot.stage < (if m.pair = 0xFF then 3 else 4) ∨ s.boot.reduced ∨ (m.pair = 0xFE ∧ s.sec.tamper) then some 0xC076
  else if unitLink m.pair then (if 4 ≤ s.sec.hs.length then some 0xC075 else none)
  else if noCred && tr == .ethernet then some 0xC077
  else if (match (s.ring m.pair).sess with
    | some se => se.tr != tr
    | none => false) then some 0xC078
  else if 4 ≤ s.sec.hs.length then some 0xC075
  else if !prov && (decide (15 < m.pair) || (s.ring m.pair).owner != some m.dom) then some 0xC070
  else if !prov && noCred then some 0xC071
  else none

/-- R422: a handshake on a port that stays awake wakes a sleeping device; elsewhere it is not heard. -/
def State.hsArrival (tr : Transport) (s : State) : Option State :=
  let w := Cfg.Start.WAKEETH (s.one Cfg.Start.sec Cfg.Start.dflt)
  let up := match tr with
    | .ethernet => w % 16 != 0
    | .pcie => bit w 4
    | .spi => bit w 5
  let src := match tr with
    | .ethernet => 3
    | .pcie => 4
    | .spi => 5
  if up then some (s.wakeUp src) else if s.power.mode = .sleep then none else some s

/-- R379, R380: the REPLY to an admitted HELLO: nonce, device keys, quote. The handshake is in progress from now. -/
def State.startHs (tr : Transport) (m : Hello) (s : State) : State :=
  let nd := (Config.freeValue s.free).toNat
  let peer := m.ephKey + 2 ^ 776 * m.kemKey
  let priv := (Config.freeValue (s.free + 1)).toNat
  let keys := le 97 (Config.ephPublic priv).toNat ++ le 1088 (Config.kemCipher priv m.kemKey).toNat
  let digest := le 48 (Config.sha384 (helloBytes m ++ le 32 nd ++ keys)).toNat
  let reply := le 32 nd ++ keys ++ s.quote (digest.take 32)
  let hs : Hs := { pair := m.pair, hsid := m.hsid, tr := tr, hello := m, prov := s.admitsProv m && !unitLink m.pair, nd := nd,
                   secret := Config.kemSecret priv peer, reply := reply, at0 := s.time.now }
  let s1 := { s with free := s.free + 2, sec := { s.sec with hs := (s.sec.hs.filter fun (x : Hs) => !(x.pair == m.pair && x.hsid == m.hsid)) ++ [hs] } }
  s1.say m.pair m.hsid 2 reply

/-- HELLO (R381): a handshake starts, or ERROR. -/
def execHello (t : Nat) (tr : Transport) (msg : Hello) (s : State) : Host.Outcome State Fault Refusal :=
  match (s.advance t).hsArrival tr with
  | none => ok (s.advance t)
  | some s => match s.helloBars tr msg with
    | some r => ok (s.hsError msg.pair msg.hsid r)
    | none => ok (s.startHs tr msg)

/-- R380: PRK of a handshake. -/
def Hs.prk (x : Hs) : Nat := Config.hkdfExtract (x.hello.nonce + 2 ^ 256 * x.nd) x.secret

/-- R380: FINMAC over the transcript, by direction. -/
def Hs.finmac (x : Hs) (dir : Byte) : BitVec 384 :=
  Config.hmac384 (Config.hkdfExpand x.prk [0x4C, 0x47, 0x2D, 0x46, 0x49, 0x4E, dir]) (helloBytes x.hello ++ x.reply)

/-- R379: what FINISH signs. -/
def Hs.digest (x : Hs) : List Byte := le 48 (Config.sha384 (helloBytes x.hello ++ x.reply)).toNat

/-- Section 0x0C01: the peers of a kind (R386). -/
def State.peers (s : State) (kind : Nat) : List (List Byte) := (s.recs Cfg.Peer.sec).filter fun r => Cfg.Peer.KIND r == kind

/-- R380, R382: whether the signature of a FINISH verifies: the domain's credential, none for a provisional session, a
listed peer's for a link between units. -/
def State.finishSigned (s : State) (x : Hs) (sigE sigQ : Nat) : Bool :=
  if unitLink x.pair then (s.peers (if x.pair = 0xFE then 1 else 2)).any fun r => bothOk (Config.peerPublic (rd r 4 16)) x.digest sigE sigQ
  else if x.prov then true
  else match s.sec.creds.getD x.hello.dom none with
    | some k => bothOk k x.digest sigE sigQ
    | none => false

/-- R382, R415: a session between units binds. In the CAR role the link is its own car's. -/
def State.bindLink (pair car : Nat) (s : State) : State :=
  if pair = 0xFF then (s.modPr fun x => { x with linkSess := true }).secFire 0xC2 0xFF 0
  else (s.modCar (if s.boot.role = .car then s.ownCar else car) fun y => { y with link := true, repGap := 0 }).secFire 0xC2 0xFE 0

/-- FINISH (R380, R381): the last three rows, then DONE: the session binds with epoch 0 and SEQ from 1. -/
def execFinish (t pair hsid : Nat) (tr : Transport) (sigE sigQ mac : Nat) (s : State) : Host.Outcome State Fault Refusal :=
  let s := s.advance t
  match s.sec.hs.find? fun x => x.pair == pair && x.hsid == hsid && x.tr == tr with
  | none => ok s
  | some x =>
    let s1 := s.modSec fun y => { y with hs := y.hs.filter fun z => z != x }
    if x.at0 + 2 * 10 ^ 9 ≤ s.time.now then ok (s1.hsError pair hsid 0xC074)
    else if !s.finishSigned x sigE sigQ then ok (s1.hsError pair hsid 0xC072)
    else if mac ≠ (x.finmac 0).toNat then ok (s1.hsError pair hsid 0xC073)
    else
      let s2 := s1.say pair hsid 4 (le 48 (x.finmac 1).toNat)
      if unitLink pair then ok (s2.bindLink pair s.ownCar)
      else ok (s2.bindSession pair (Session.atEpoch 0 { pair := pair, dom := x.hello.dom, tr := tr, prov := x.prov, prk := x.prk }))

/-- HANDSHAKE_TIMEOUT (R381): FINISH has not arrived within 2 s of HELLO. -/
def execHandshakeTimeout (t pair : Nat) (s : State) : Host.Outcome State Fault Refusal :=
  let s := s.advance t
  let late (x : Hs) : Bool := x.pair == pair && decide (x.at0 + 2 * 10 ^ 9 ≤ s.time.now)
  let gone := s.sec.hs.filter late
  ok (gone.foldl (fun s x => s.hsError x.pair x.hsid 0xC074) (s.modSec fun y => { y with hs := y.hs.filter fun x => !late x }))

/-- R379: fragment `k` of a message: PAIR, MSG, FRAG, NFRAG, HSID, at most 1,200 data bytes. -/
def HsOut.frame (o : HsOut) (k : Nat) : List Byte :=
  le 1 o.pair ++ le 1 o.msg ++ le 1 k ++ le 1 ((o.bytes.length + 1199) / 1200) ++ le 4 o.hsid ++ (o.bytes.drop (1200 * k)).take 1200

/-- HANDSHAKE_FRAGMENT_READ (R379): LEN16 and one fragment; a message read to its end is gone. -/
def execHandshakeFragmentRead (t pair : Nat) (s : State) : Host.Outcome State Fault Refusal :=
  let s := s.advance t
  match s.sec.hsOut.find? fun o => o.pair == pair with
  | none => ok (s.shiftOut (le 2 0))
  | some o =>
    let f := o.frame o.frag
    let last := decide (o.bytes.length ≤ 1200 * (o.frag + 1))
    ok ((s.shiftOut (le 2 f.length ++ f)).modSec fun x => { x with hsOut :=
      if last then (x.hsOut.filter fun y => y != o) else x.hsOut.map fun y => if y = o then { y with frag := y.frag + 1 } else y })

/-- R382: the peer that answers is listed in section 0x0C01. -/
def State.listed (s : State) (m : PeerMsg) : Bool :=
  (s.peers (if m.pair = 0xFE then 1 else 2)).any fun r => rd r 4 16 == m.devid && (m.pair == 0xFF || s.boot.role == .car || Cfg.Peer.CAR r == m.car)

/-- What the peer signs: the operand does not carry the transcript, so its identity and the link stand for it (log 63). -/
def peerBytes (m : PeerMsg) : List Byte := le 16 m.devid ++ le 1 m.pair ++ le 1 m.car

/-- HANDSHAKE_REPLY (R382): on REPLY the initiating unit sends FINISH; on DONE the session binds. -/
def execHandshakeReply (t : Nat) (msg : PeerMsg) (s : State) : Host.Outcome State Fault Refusal :=
  let s := s.advance t
  let bars := decide (s.boot.stage < (if msg.pair = 0xFF then 3 else 4)) || s.boot.reduced || (msg.pair == 0xFE && s.sec.tamper)
  let open0 := s.sec.hs.find? fun x => x.pair == msg.pair && x.hello.dom == msg.car
  if bars || !unitLink msg.pair || (msg.pair == 0xFE && !s.serves) then ok s
  else if !s.listed msg then ok (s.secFire 0xC3 msg.pair 0xC071)
  else if msg.isDone then
    match open0 with
    | none => ok s
    | some x =>
      if msg.mac = (x.finmac 1).toNat then ok ((s.modSec fun y => { y with hs := y.hs.filter fun z => z != x }).bindLink msg.pair msg.car)
      else ok (s.secFire 0xC3 msg.pair 0xC073)
  else if !(bothOk (Config.peerPublic msg.devid) (peerBytes msg) msg.sigE msg.sigQ) then ok (s.secFire 0xC3 msg.pair 0xC072)
  else
    let own := (Config.freeValue s.free).toNat
    let x : Hs := { pair := msg.pair, hsid := msg.car, tr := .ethernet, hello := ⟨msg.pair, msg.car, msg.car, own, 0, 0⟩
                    nd := msg.devid, secret := Config.kemSecret own msg.devid, at0 := s.time.now }
    let s1 := { s with free := s.free + 1, sec := { s.sec with hs := (s.sec.hs.filter fun (z : Hs) => !(z.pair == msg.pair && z.hello.dom == msg.car)) ++ [x] } }
    ok (s1.say msg.pair msg.car 3 (s.aliasSigns x.digest ++ le 48 (x.finmac 0).toNat))

/-! ## Tamper (R383-R385, R461) -/

/-- The action of a sensor: 0 off, 1 REPORT, 2 ERASE (R383). -/
def Vault.action (v : Vault) (sensor : Nat) : Nat :=
  if 2 ≤ sensor ∧ sensor < 6 then v.swAct / 4 ^ (sensor - 2) % 4 else if sensor = 7 then v.tAct else 2

/-- One entry of the 8-entry tamper log, the oldest going (log 64). -/
def Vault.note (v : Vault) (sensor cause now : Nat) : Vault :=
  { v with log := (v.log ++ [({ sensor := sensor, cause := cause, coarse := now / 10 ^ 9 % 2 ^ 32 } : TLog)]).drop (v.log.length - 7) }

/-- R384: the erasure: slot keys and handshakes go, the share is cleared, TAMPCNT rises; a KEY_OP that runs ends ABORTED with
0xC050, a handshake with ERROR 0xC076 (R385). -/
def State.erase (s : State) : State :=
  let s1 := s.sec.keyOps.foldl (fun s k => s.abort k.tag 0xC050) s
  let s2 := s1.sec.hs.foldl (fun s x => if unitLink x.pair then s else s.hsError x.pair x.hsid 0xC076) s1
  let s3 := s2.modSec fun x => { x with
    keyOps := [], hs := x.hs.filter fun h => unitLink h.pair, kwk := false, tamper := true
    slots := x.slots.map fun k => if k.st = .empty then k else { k with st := .erased, key := 0 } }
  let s4 := (s3.modVault fun v => { v with share := none }).raiseCtr 3 (s3.vault.ctr.getD 3 0 + 1)
  if s4.vault.st = .fault then s4 else s4.setVault .erased

/-- TAMPER_DETECTED (R383-R385): sensors by their bit in SENSE. In sleep or run the sessions close, 0xC0 fires and fault 0x14
follows at the next fast tick (`tamperFast`); before key release the vault refuses. -/
def execTamperDetected (t sensor : Nat) (s : State) : Host.Outcome State Fault Refusal :=
  let s := s.advance t
  let act := s.vault.action sensor
  let s1 := s.modVault fun v => { v with sense := v.sense ||| 2 ^ sensor % 512 }
  if act ≠ 1 ∧ act ≠ 2 then ok s1
  else
    let s2 := s1.modVault fun v => v.note sensor 0 s.time.now
    let run := decide (3 ≤ s.boot.stage)
    let s3 := if run then s2.secLedger 1 sensor else s2
    let s4 := if act = 2 then s3.erase else if run then s3.fire 0xC0 0 0 (le 1 sensor ++ le 1 act ++ s3.secItems 0xFF 0) else s3
    let s5 := s4.wakeUp 7
    if act = 2 ∧ run then ok (s5.modSec fun x => { x with tamperDue := x.tamperDue ++ [sensor] })
    else if act = 2 ∧ s.sec.keys = false ∧ (s.boot.stage = 1 ∨ s.boot.stage = 2) then ok (s5.modVault fun v => { v with refuse := true })
    else ok s5

/-- R385 at the fast tick after an erasure. -/
def State.tamperFast (s : State) : State :=
  let due := s.sec.tamperDue
  if due.isEmpty then s
  else
    let s1 := ((s.modSec fun x => { x with tamperDue := [] }).closeAll).fault 0x14 0xFF 0xFF
    due.foldl (fun s n => s.fire 0xC0 0 0 (le 1 n ++ le 1 2 ++ s.secItems 0xFF 0)) s1

/-- BATTERY_LOSS (R384, R461): while VIO33 is absent the share is lost as BATLOSS; TAMPCNT is unchanged. -/
def execBatteryLoss (t : Nat) (s : State) : Host.Outcome State Fault Refusal :=
  let s := s.advance t
  if s.power.mode = .batteryOnly ∧ s.vault.share.isSome then
    ok (s.modVault fun v => { v.note 0 1 s.time.now with share := none, st := if v.st = .provisioned then .erased else v.st })
  else ok s

/-- TRNG_HEALTH_FAILURE (R366, R388): event source 0xC7; the vault reports a fault. -/
def execTrngHealthFailure (t : Nat) (s : State) : Host.Outcome State Fault Refusal :=
  let s := s.advance t
  let s1 := (s.modVault fun v => { v with trngBad := true }).secFire 0xC7 0xFF 0
  ok (if s.vaultCode = s1.vaultCode then s1 else s1.secFire 0xC1 0xFF 0)

/-- R461: VBAT as a tick finds it; event source 0xC6 when it is found below 2.2 V (log 64). -/
def State.batteryTick (s : State) : State :=
  let mv := (Config.batteryMv s.free).toNat
  let s1 := ({ s with free := s.free + 1 } : State).modVault fun v => { v with vbat := mv }
  if mv < 2200 ∧ (s.vault.vbat = 0 ∨ 2200 ≤ s.vault.vbat) then s1.secFire 0xC6 0xFF 0 else s1

end Sys2Proof.Machine
end

