-- ==== Sys2Proof/Machine/Pair.lean ====
section
/-! DEFINITION. Active and standby pairs (file 14: R344-R363): Pennant line, heartbeats, replication, takes, proving swaps,
the class 0xB cards. -/

namespace Sys2Proof.Machine

/-- Section 0x0B00. -/
def State.pairCfg0 (s : State) : List Byte := s.one Cfg.PairCfg.sec Cfg.PairCfg.dflt

/-- R360: EN. -/
def State.pairEn (s : State) : Bool := Cfg.PairCfg.EN s.pairCfg0 == 1

/-- A class 0xB event (R363). -/
def State.pairFire (src : Nat) (s : State) : State := s.fire src 0 0 s.pairItems

/-- R352: the state of a holder by its partner's: ACTIVE or ALONE. -/
def State.holderState (s : State) : PrSt := if s.pair.partner = 4 ∧ (s.pair.hbLine ∨ s.pair.link) then .active else .alone

/-- R352: a unit that holds the line, its take complete. -/
def State.holds (s : State) : Bool := s.pair.st == .active || s.pair.st == .alone

def State.settleHolder (s : State) : State := if s.holds then s.setPair s.holderState else s

/-- R351: whether the newest image makes the standby current now. -/
def State.current (s : State) : Bool :=
  match s.pair.image with
  | none => false
  | some i => decide (s.time.now ≤ s.pair.imageAt + 3 * 125000) && !bit i.iflg 3 && s.pair.cfgMatch && s.pair.fwMatch

/-! ## Proving swaps (R359) -/

/-- A proving swap ends: its command's final reply, event source 0xB5 once it had begun. -/
def State.endProve (status reason : Nat) (data : List Byte) (s : State) : State :=
  match s.pair.prove with
  | none => s
  | some p =>
    let s1 := (s.modPr fun x => { x with prove := none }).finish p.tag status reason s.time.now data
    if 1 ≤ p.step then s1.pairFire 0xB5 else s1

/-- HOLDER, reserved, TAKEN. -/
def proveReply (unit taken : Nat) : List Byte := le 1 unit ++ zeros 3 ++ le 8 taken

/-- R359 step 1: every car stands (LANE), or the car is braked with no door moving (CAR). -/
def State.proveStands (s : State) : Bool :=
  if s.boot.role = .lane then s.allStand else s.braked && s.doorNums.all s.doorStands

/-- What R359 step 1 and the card's checks ask of the holder. -/
def State.proveBars (s : State) : Own :=
  firstOf [refuseIf (s.pair.st != .active) 0xB010, refuseIf (!s.proveStands) 0xB012, refuseIf s.safe.latch 0xB013]

/-- R359: a trip, LAND or Pennant line fault, found here or told by the partner's image. -/
def State.proveBroken (s : State) : Bool :=
  s.safe.latch || s.safe.land || s.pair.pfault || match s.pair.image with
    | some i => decide (3 ≤ (s.pair.prove.map (·.step)).getD 0) && i.iflg / 2 % 4 != 0
    | none => false

/-- The holder drops PNT_OUT at B2 (R359 step 3). -/
def State.proveDrop (p : Prove) (s : State) : State :=
  (s.modPr fun x => { x with prove := some { p with step := 3, taken := s.time.now }, image := none }).dropHold

/-- PROVE_STEP (R359) at a tick boundary: B0 checks, B1 the confirmation, B2 the drop, B4 the end of the exchange. -/
def State.proveStep (s : State) : State :=
  match s.pair.prove with
  | none => s
  | some p =>
    if 1 ≤ p.step ∧ s.proveBroken then s.endProve 4 0xB021 []
    else match p.step with
      | 0 =>
        if s.time.now < p.b0 then s
        else match s.proveBars with
          | some (r, _) => s.endProve 3 r []
          | none => s.modPr fun x => { x with prove := some { p with step := 1, b0 := s.time.now } }
      | 1 => if s.pair.ackMiss ≤ 1 ∧ s.pair.partner = 4 then s.modPr fun x => { x with prove := some { p with step := 2 } } else s.endProve 4 0xB021 []
      | 2 => s.proveDrop p
      | 3 =>
        if s.time.now < p.taken + 250000 ∨ s.pair.pntIn = false then s
        else if p.back then s.modPr fun x => { x with prove := some { p with step := 4 } }
        else s.endProve 2 0 (proveReply (1 - s.boot.unit) (p.taken + 250000))
      | _ => s

/-- PROVE_TAKE_TIMEOUT (R359 step 4): PNT_IN still low at B2 + 500 µs: the former holder claims the line again. -/
def execProveTakeTimeout (t : Nat) (s : State) : Host.Outcome State Fault Refusal :=
  let s := s.advance t
  match s.pair.prove with
  | some p =>
    if p.step = 3 ∧ s.pair.pntIn = false ∧ p.taken + 500000 ≤ s.time.now then
      let s1 := s.modPr fun x => { x with pntOut := true, raisedAt := s.time.now, refresh := s.time.now, partner := 3, held := false }
      ok ((s1.setPair s1.holderState).endProve 4 0xB020 [])
    else ok s
  | none => ok s

/-- PROVEAGE in hours (R358). -/
def State.proveAge (s : State) : Nat := satN 32 ((s.time.now - s.pair.proveAt) / (3600 * 10 ^ 9))

/-- PROVEWARN_REACHED (R358). -/
def execProvewarnReached (t : Nat) (s : State) : Host.Outcome State Fault Refusal :=
  let s := s.advance t
  let w := Cfg.PairCfg.PROVEWARN s.pairCfg0
  if s.pair.st == .unpaired || s.pair.warned || w == 0 || decide (s.proveAge < w) then ok s
  else ok ((s.modPr fun x => { x with warned := true }).pairFire 0xB6)

/-! ## The Pennant line (R345-R348) -/

/-- R348: the unit claims the line at a fast-tick boundary. -/
def State.claimLine (s : State) : State :=
  s.modPr fun x => { x with pntOut := true, pntIn := false, raisedAt := s.time.now, refresh := s.time.now, held := false }

/-- PENNANT_CLAIM (R348): in stage 3, PNT_IN low for 10 ms and 10 ms more for unit 1. -/
def execPennantClaim (t : Nat) (s : State) : Host.Outcome State Fault Refusal :=
  let s := s.advance t
  if s.boot.stage = 3 ∧ s.pair.st ≠ .unpaired ∧ s.pair.pntOut = false ∧ s.pair.pntIn = false
      ∧ s.pair.pntInAt + 10000000 * (1 + s.boot.unit) ≤ s.time.now then
    let s1 := s.claimLine
    ok (s1.setPair s1.holderState)
  else ok s

/-- The partner's take, seen by the unit whose hold fell (R42, R356, R358): its own ledger record, PROVEAGE;
outside a proving swap its sessions close. -/
def State.partnerTook (s : State) : State :=
  let s1 := s.modPr fun x => { x with held := false, lastSw := s.time.now, swCount := wrapAdd 16 x.swCount 1, proveAt := s.time.now, warned := false }
  let s2 := s1.ledger 5 1 0 0 (le 4 s.pair.iseq ++ zeros 4 ++ le 8 s.pair.refresh)
  if s.swapping then s2 else s2.closeAll

/-- PNT_IN_RISE (R347): within 2 µs of its own rise unit 1 drops PNT_OUT and unit 0 keeps it. -/
def execPntInRise (t : Nat) (s : State) : Host.Outcome State Fault Refusal :=
  let s := s.advance t
  let s1 := s.modPr fun x => { x with pntIn := true, pntInAt := s.time.now }
  if s.pair.pntOut then
    ok (if s.time.now ≤ s.pair.raisedAt + 2000 ∧ s.boot.unit = 1 then s1.dropHold.modPr fun x => { x with held := false } else s1)
  else ok (if s.pair.held then s1.partnerTook else s1)

/-- PENNANT_HOLD_EXPIRY (R345, R346): 100 µs (±5 %) after the last refresh. -/
def execPennantHoldExpiry (t : Nat) (s : State) : Host.Outcome State Fault Refusal :=
  let s := s.advance t
  if s.pair.pntOut ∧ s.pair.refresh + 95000 ≤ s.time.now then ok s.dropHold else ok s

/-- PENNANT_LINE_FAULT (R347): both lines high for longer than 2 µs: latched, event source 0xB7, unit 1 drops. -/
def execPennantLineFault (t : Nat) (s : State) : Host.Outcome State Fault Refusal :=
  let s := s.advance t
  if s.pair.pntOut ∧ s.pair.pntIn then
    let s1 := if s.pair.pfault then s else (s.modPr fun x => { x with pfault := true }).pairFire 0xB7
    let s2 := if s.boot.unit = 1 then s1.dropHold else s1
    ok (if s2.swapping then s2.endProve 4 0xB021 [] else s2)
  else ok s

/-! ## Heartbeats (R352) -/

/-- R352: the pair state after a path was lost. -/
def State.pathLost (s : State) : State :=
  let s1 := s.pairFire 0xB1
  if s1.holds then s1.settleHolder
  else if s1.pair.hbLine || s1.pair.link || !s1.pair.pntIn then s1
  else match s1.pair.st with
    | .syncing => (s1.setPair .orphan).pairFire 0xB3
    | .ready => (s1.setPair .orphan).pairFire 0xB3
    | .stale => (s1.setPair .orphan).pairFire 0xB3
    | _ => s1

/-- HEARTBEAT_LOSS (R352). -/
def execHeartbeatLoss (t : Nat) (s : State) : Host.Outcome State Fault Refusal :=
  let s := s.advance t
  if s.pair.hbLine then ok ((s.modPr fun x => { x with hbLine := false }).pathLost) else ok s

/-- HEARTBEAT_RESTORE (R352): an ORPHAN has its heartbeat line back: STALE. -/
def execHeartbeatRestore (t : Nat) (s : State) : Host.Outcome State Fault Refusal :=
  let s := s.advance t
  if s.pair.hbLine then ok s
  else
    let s1 := (s.modPr fun x => { x with hbLine := true }).pairFire 0xB1
    ok (if s1.pair.st = .orphan then s1.setPair .stale else s1.settleHolder)

/-- PAIR_LINK_LOSS (R352): 2 ticks without a valid image or, at the holder, without an acknowledgement. -/
def execPairLinkLoss (t : Nat) (s : State) : Host.Outcome State Fault Refusal :=
  let s := s.advance t
  let late := if s.holds then decide (2 ≤ s.pair.ackMiss) else decide (s.pair.imageAt + 250000 ≤ s.time.now)
  if s.pair.link && late then ok ((s.modPr fun x => { x with link := false }).pathLost) else ok s

/-- R352: the pair link is heard again. -/
def State.linkHeard (s : State) : State :=
  if s.pair.link then s else (s.modPr fun x => { x with link := true }).pairFire 0xB1

/-- PAIR_IMAGE_ACK (R352) at the holder: the partner's state and matches. -/
def execPairImageAck (t st : Nat) (cfgOk fwOk : Bool) (s : State) : Host.Outcome State Fault Refusal :=
  let s := s.advance t
  if s.holds && s.pair.linkSess then
    ok ((s.modPr fun x => { x with ackMiss := 0, partner := st % 256, cfgMatch := cfgOk, fwMatch := fwOk }).linkHeard.settleHolder)
  else ok s

/-! ## Replication (R349-R351) -/

/-- R356: a plan without the commands in flight on the holder. -/
def Plan.strip (p : Plan) : Plan :=
  { p with move := p.move.map fun m => { m with tag := none }
           next := p.next.map fun m => { m with tag := none }
           stopTag := [], stops := p.stops.map fun x => { x with tag := none } }

/-- A replicated car: what this unit receives itself stays (R344). -/
def Car.fromImage (bound : Nat) (own b : Car) : Car :=
  { b with plan := b.plan.strip
           rep := own.rep, repGap := own.repGap, offered := own.offered
           search := b.search.map fun x => { x with tag := {} }
           edges := own.edges.filter fun e => decide (bound ≤ e.te) }

def DoorCmd.strip (k : DoorCmd) : DoorCmd := { k with tag := none, move := k.move.map fun m => { m with tag := none } }

def Door.strip (d : Door) : Door := { d with cmd := d.cmd.map DoorCmd.strip, next := d.next.map DoorCmd.strip }

def Disp.strip (d : Disp) : Disp := { d with calls := d.calls.map (fun k => { k with tag := none }), evals := [] }

def Auth.strip (a : Auth) : Auth := { a with closing := a.closing.map fun k => { k with tag := {} } }

def Chan.strip (c : Chan) : Chan := { c with swap := none, inj := none }

/-- A replicated list in place of this unit's. -/
def sameLen {α : Type} (old new : List α) : List α := if new.length = old.length then new else old

/-- R350: the commanded values; the points of an output that changes follow. -/
def State.imageOut (m : Nat) (s : State) : State :=
  (List.range 32).foldl (fun (s : State) n =>
    if (s.fq n).cmd = bit m n then s
    else ({ s with field := { s.field with fq := s.field.fq.modify n fun q => { q with cmd := bit m n } } } : State).feed 0x81 n (b2n (bit m n)) s.time.now) s

/-- R350, R330: the energy of the image, committed in this unit's own store. -/
def State.imageEnergy (b : RepBody) (s : State) : State :=
  if s.meters then s.modMeter fun m => { m with regs := sameLen m.regs b.regs, ep := sameLen m.ep b.ep, mp := sameLen m.mp b.mp }.commitAt s.pair.imageAt
  else s

/-- R350: the replicated cars. -/
def imageCars (i : PairImg) (own : List Car) : List Car :=
  if i.body.cars.length = own.length then (own.zip i.body.cars).map fun (p : Car × Car) => Car.fromImage i.bound p.1 p.2 else own

/-- R350: axes, doors and the CAR role's own part. -/
def State.imageDoors (b : RepBody) (s : State) : State :=
  { s with axes := sameLen s.axes (b.axes.map fun (a : Axis) => { a with plan := a.plan.strip })
           doors := sameLen s.doors (b.doors.map Door.strip)
           crole := b.crole, miles := b.miles }

/-- R350: trunks, segments, channels and the books. -/
def State.imageBooks (b : RepBody) (s : State) : State :=
  { s with trunks := sameLen s.trunks b.trunks, segs := b.segs, chans := sameLen s.chans (b.chans.map Chan.strip)
           auth := b.auth.strip, disp := b.disp.strip }

/-- R350: the standby takes the replicated state over. -/
def State.takeImage (i : PairImg) (s : State) : State :=
  let b := i.body
  let s1 : State := { s with cars := imageCars i s.cars, safe := { s.safe with land := bit i.iflg 2 }, boot := { s.boot with ticks := i.ticks } }
  let s2 := (((s1.imageBooks b).imageDoors b).imageOut b.qcmd).imageEnergy b
  if decide (5 ≤ s2.boot.stage) && (b.stage == 5 || b.stage == 6) then
    let s3 := s2.setStage b.stage
    if b.sleep && s3.power.mode != .sleep then s3.setPower .sleep 0 else s3
  else s2

/-- R69, R77: the holder's timebase state. -/
def tbOfCode (n : Nat) : TbState :=
  match n with
  | 1 => .free
  | 2 => .acquiring
  | 3 => .locked
  | 4 => .holdover
  | _ => .unset

/-- R349: an image is valid when its GCM tag passes and its ISEQ is the next expected; a standby that is not READY takes up
the count (log 60). -/
def State.imageValid (i : PairImg) (s : State) : Bool :=
  s.pair.linkSess && i.tagOk && (s.pair.st != .ready || i.iseq % 2 ^ 32 == wrapAdd 32 s.pair.iseq 1)

/-- The pair state after a valid image: READY again after a proving drop, else SYNCING resumes (R352, R359). -/
def State.imageState (s : State) : State :=
  let proving := match s.pair.prove with
    | some p => decide (3 ≤ p.step)
    | none => false
  match s.pair.st with
  | .stale => if proving && s.current then s.setPair .ready else s.setPair .syncing
  | .orphan => s.setPair .syncing
  | .ready => if s.current then s else s.setPair .stale
  | _ => s

/-- R351: the sections that the holder has forwarded since its last image; none deletes one (log 60). -/
def State.forwarded (i : PairImg) (s : State) : State := i.body.sections.foldl (fun (s : State) p => s.commitSection p.1 p.2) s

/-- PAIR_IMAGE (R349-R351): a valid image is applied. -/
def execPairImage (t : Nat) (img : PairImg) (s : State) : Host.Outcome State Fault Refusal :=
  let s := s.advance t
  if s.standby && s.pair.st != .taking && s.imageValid img then
    let s0 := s.forwarded img
    let s1 := s0.linkHeard.modPr fun x => { x with
      image := some img, imageAt := img.bound, iseq := img.iseq % 2 ^ 32, partner := img.pstate % 256
      cfgMatch := img.cfgCrc == s0.cfgCrc, fwMatch := img.fwOk
      defers := if bit img.iflg 3 then wrapAdd 16 x.defers 1 else x.defers, imgMax := max x.imgMax img.ilen }
    ok (((s1.takeImage img).setTb (tbOfCode img.tbst)).imageState)
  else ok s

/-- SYNC_COMPLETE (R352): the full state transfer is complete. -/
def execSyncComplete (t : Nat) (s : State) : Host.Outcome State Fault Refusal :=
  let s := s.advance t
  if s.pair.st = .syncing ∧ s.pair.image.isSome then ok (s.setPair (if s.current then .ready else .stale)) else ok s

/-- At a tick boundary: a holder sends its image (R349), a standby whose image is too old is STALE (R351, R352). -/
def State.pairTick (s : State) : State :=
  if s.holds then
    let n := min 11776 (Config.imageSize s.free)
    let s1 := { s with free := s.free + 1 }
    s1.modPr fun x => { x with
      iseq := wrapAdd 32 x.iseq 1, imgMax := max x.imgMax n, ackMiss := min 255 (x.ackMiss + 1)
      defers := if Config.imageDefers s.free then wrapAdd 16 x.defers 1 else x.defers }
  else if (s.pair.st == .ready || s.pair.st == .syncing) && s.pair.image.isSome && decide (s.pair.imageAt + 3 * 125000 < s.time.now) then
    s.setPair .stale
  else s

/-! ## Takes (R355-R357) -/

/-- What a take records: event source 0xB2, ledger TYPE 0x05, journal JTYPE 8, LASTSW, SWCOUNT, PROVEAGE after a hot one. -/
def State.recordTake (code : Nat) (s : State) : State :=
  let s1 := s.modPr fun x => { x with
    lastSw := s.time.now, swCount := wrapAdd 16 x.swCount 1
    proveAt := if code = 1 then s.time.now else x.proveAt, warned := x.warned && code != 1 }
  let s2 := s1.ledger 5 code 0 0 (le 4 s.pair.iseq ++ zeros 4 ++ le 8 s.time.now)
  ({ s2 with jrn := {} } : State).journal 8 0xFF []

/-- HOT_TAKE (R355 step 1): a READY standby that finds PNT_IN low. -/
def execHotTake (t : Nat) (s : State) : Host.Outcome State Fault Refusal :=
  let s := s.advance t
  if s.pair.st = .ready then
    let s1 := (s.claimLine.modPr fun x => { x with takeAt := some (s.time.now + 80000), cold := false }).setPair .taking
    ok (s1.recordTake 1)
  else ok s

/-- COLD_TAKE (R357): a STALE or ORPHAN standby that finds PNT_IN low; the former holder of a proving swap waits (R359). -/
def execColdTake (t : Nat) (s : State) : Host.Outcome State Fault Refusal :=
  let s := s.advance t
  if (s.pair.st == .stale || s.pair.st == .orphan) && !s.swapping then
    let s1 := (s.claimLine.modPr fun x => { x with takeAt := some s.time.now, cold := true }).setPair .taking
    let s2 : State := { s1 with cars := if s.boot.role = .lane then s1.cars.map Car.depower else s1.cars }
    let s3 := if s.boot.role = .lane then s2.carNums.foldl (fun s c => (s.setTrust c 0).askStop .s3 none c) s2 else s2
    let s4 := (List.range 32).foldl (fun (s : State) n => s.writeFq n false) s3
    let s5 := if 5 ≤ s4.boot.stage then s4.setStage 5 else s4
    let s6 := (s5.openBooks).fault 0x17 0xFF 0xFF
    let s7 : State := { s6 with safe := { s6.safe with faults := s6.safe.faults.map fun f => if f.code = 0x17 then { f with begun := true } else f } }
    ok (s7.recordTake 2)
  else ok s

/-- R355 step 3: one car advanced over a tick by prediction only. -/
def State.predictCar (c : Nat) (s : State) : State :=
  let a := s.aCmd c
  s.modPos c fun q => { q with pQ := q.pQ + overNs q.vQ tickNs + halfAt2 a tickNs, vQ := q.vQ + overNs a tickNs }

/-- A boundary that no image covers: prediction, the allocator pass of R208, the energy of R356. -/
def State.missedTick (s : State) : State :=
  let s1 : State := { s with boot := { s.boot with ticks := wrapAdd 32 s.boot.ticks 1 } }
  let s2 := if s.boot.role = .lane then (s1.carNums.foldl (fun s c => s.predictCar c) s1).allocate else s1
  if s2.meters then s2.modMeter fun m => m.accrue (Cfg.Meter.NOLOAD s2.meterCfg) 125000 else s2

def State.missedTicks : Nat → State → State
  | 0, s => s
  | n + 1, s => State.missedTicks n s.missedTick

/-- R355 steps 3 and 4 at the first tick boundary at or after F + 80 µs: the boundaries after the image's, then ACTIVE or
ALONE; event source 0xB2. What a reversed proving swap asks of the new holder follows (R359). -/
def State.takePass (s : State) : State :=
  match s.pair.takeAt with
  | none => s
  | some at0 =>
    if s.pair.st ≠ .taking ∨ s.time.now < at0 then s
    else
      let n := (s.time.now - s.pair.imageAt) / 125000 - 1
      let s1 := if s.pair.cold then s else ({ s with boot := { s.boot with ticks := ((s.pair.image.map (·.ticks)).getD s.boot.ticks) } } : State).missedTicks n
      let s2 : State := { s1 with boot := { s1.boot with ticks := s.boot.ticks } }
      let s3 := s2.modPr fun x => { x with takeAt := none, ackMiss := 0 }
      let s4 := (s3.setPair s3.holderState).pairFire 0xB2
      let dwell := s.pair.image.bind fun i => if bit i.iflg 0 then i.body.back else none
      match s4.pair.prove, dwell with
      | some p, _ => if p.step = 4 then s4.endProve 2 0 (proveReply s.boot.unit (s.time.now + 125000)) else s4
      | none, some ms => s4.modPr fun x => { x with prove := some { step := 0, dwell := ms, b0 := s.time.now + 125000 + 1000000 * ms } }
      | none, none => s4

/-! ## Cards -/

def pairStatusReply (s : State) : List Byte :=
  le 1 s.pair.st.code ++ le 1 s.boot.unit ++ le 1 s.pair.partner ++ le 1 s.pflags ++ le 4 s.pair.iseq ++ le 8 s.pair.lastSw
    ++ le 4 s.proveAge ++ le 2 s.pair.swCount ++ le 2 s.pair.defers ++ le 4 s.pair.imgMax ++ zeros 4

/-- The reply; IMGMAX starts afresh. -/
def pairStatusEff (tr : TagRec) (_d : List Byte) (s : State) : State :=
  (s.modPr fun x => { x with imgMax := 0 }).done tr (pairStatusReply s)

def pairStatusCard : CardDef where
  k := { opc := 0xB001, role := 3, query := true, kinds := [0] }
  lenOk := lenIs 0
  eff := pairStatusEff

/-- PAIR_STATUS (R352). -/
def execPairStatus (h : Hdr) (data : List Byte) (s : State) : Host.Outcome State Fault Refusal := ok (runCard pairStatusCard h data s)

def pairProveOwn (s : State) (_tr : TagRec) (d : List Byte) : Own :=
  firstOf [
    refuseIf (s.pair.prove.isSome || s.launchQ.any fun l => l.tag.opc == 0xB010) 0xB015,
    s.proveBars,
    refuseIf (decide (1 < rd d 0 1) || decide (rd d 2 2 < 100) || decide (60000 < rd d 2 2)) 0xFF07]

/-- The swap waits for B0: the first boundary at or after its launch edge, or after an immediate command. -/
def pairProveEff (tr : TagRec) (d : List Byte) (s : State) : State :=
  let at0 := if tr.lit then tr.edge else s.time.now
  s.modPr fun x => { x with prove := some { tag := tr, back := rd d 0 1 == 1, dwell := rd d 2 2, b0 := boundaryAfter s.time.phase tickNs (at0 - 1) } }

def pairProveCard : CardDef where
  k := { opc := 0xB010, role := 3, query := false, kinds := [0], lead := some 250000 }
  lenOk := lenIs 4
  own := pairProveOwn
  eff := pairProveEff

/-- PAIR_PROVE (R359). -/
def execPairProve (h : Hdr) (data : List Byte) (s : State) : Host.Outcome State Fault Refusal := ok (runCard pairProveCard h data s)

end Sys2Proof.Machine
end

