-- ==== Sys2Proof/Machine/Startup.lean ====
section
/-! DEFINITION. Start-up, firmware images, power states (files 01, 17: R1-R3, R30, R68, R403-R428). -/

namespace Sys2Proof.Machine

def State.modBoot (f : Boot → Boot) (s : State) : State := { s with boot := f s.boot }
def State.modPower (f : Power → Power) (s : State) : State := { s with power := f s.power }

/-! ## Power-good and reset (R403-R405, R419) -/

/-- POWER_GOOD (R403): the device is held in stage 0; UPTIME counts from here. -/
def execPowerGood (t : Nat) (s : State) : Host.Outcome State Fault Refusal :=
  let s := s.advance t
  if s.boot.powerGood then ok s
  else
    let cold := s.power.mode == .off || s.power.mode == .batteryOnly
    ok ((s.modBoot fun b => { b with powerGood := true, held := true, simNow := 0, nextCause := b.nextCause ||| b2n (cold && b.nextCause &&& 0x20 == 0) }).modPower
      fun p => { p with mode := .off })

/-- RST_N (R403): low for at least 10 µs resets the device to stage 0; it is held while the ball is low. -/
def execRstN (t : Nat) (low : Bool) (s : State) : Host.Outcome State Fault Refusal :=
  let s := s.advance t
  if !low then ok (s.modBoot fun b => { b with rstLow := false })
  else if s.boot.powerGood then ok ((s.controlReset 0x02).modBoot fun b => { b with rstLow := true })
  else ok (s.modBoot fun b => { b with rstLow := true })

/-- SUPPLY_OUT_OF_RANGE (R403): stage 0 with BROWN; the extra commit of R330 comes first, where the warning has not made it. -/
def execSupplyOutOfRange (t : Nat) (s : State) : Host.Outcome State Fault Refusal :=
  let s := s.advance t
  if !s.boot.powerGood then ok s
  else
    let s1 := if s.meters && s.meter.part == 0 then s.modMeter fun m => m.commitAt s.time.now else s
    ok ((s1.controlReset 0x20).modBoot fun b => { b with powerGood := false })

/-- POWER_LOSS (R419, R424): BATTERY-ONLY. -/
def execPowerLoss (t : Nat) (s : State) : Host.Outcome State Fault Refusal := ok ((s.advance t).unpower)

/-- R2: the role of two straps. -/
def roleOf (a b : Bool) : Role := match a, b with
  | false, true => .lane
  | true, false => .car
  | _, _ => .none

/-- R68: Milestone time from the coarse clock (1/32,768 s), FREE; 0 and UNSET where the clock is invalid. -/
def loadTime (coarse : Option Nat) (x : Time) : Time :=
  let m := (coarse.map fun c => c * 10 ^ 9 / 32768).getD 0
  { x with now := m, frac := 0, phase := m % 4, tb := if coarse.isSome then .free else .unset
           nextTick := boundaryAfter (m % 4) tickNs m, nextFast := boundaryAfter (m % 4) 31250 m, lastSync := m, lastCopy := m }

/-- RESET_RELEASE (R1-R3, R30, R68, R405): straps and time are taken, stage 1 begins; with a strap fault the device stays
in stage 0. -/
def execResetRelease (t : Nat) (straps : Straps) (s : State) : Host.Outcome State Fault Refusal :=
  let s := s.advance t
  if !s.boot.powerGood || !s.boot.held || s.boot.rstLow then ok s
  else
    let role := roleOf straps.roleA straps.roleB
    let s1 : State := { s with time := loadTime straps.coarse s.time }
    let s2 := s1.modBoot fun b => { b with
      held := false, role := role, strapF := role == .none, unit := b2n straps.pairUnit
      cause := b.nextCause, nextCause := 0, startAt := s1.time.now, shutMark := b.shutRecord, shutRecord := false }
    let s3 := s2.setFault s2.faultsPersisting
    ok (if role = .none then s3 else s3.setStage 1)

/-! ## Stages 1 and 2 (R364, R368, R405, R410, R417) -/

/-- R364, R366: the vault state that stage 1 finds. -/
def Vault.check (r : Stage1Result) (provisioned : Bool) (v : Vault) : Vault :=
  let root := v.root || r.trngOk
  let st : VState := if !root || !r.cellOk then .fault
    else if v.st == .fault then (if !provisioned then .unprovisioned else if v.share.isSome then .provisioned else .erased)
    else v.st
  { v with checked := true, root := root, trngBad := !r.trngOk, st := st }

/-- VAULT_CHECK_COMPLETE (R405): the stage 1 work is done: stage 2. -/
def execVaultCheckComplete (t : Nat) (res : Stage1Result) (s : State) : Host.Outcome State Fault Refusal :=
  let s := s.advance t
  if s.boot.stage ≠ 1 then ok s
  else
    let s1 := s.modVault (Vault.check res s.sec.cust.isSome)
    let s2 := s1.modBoot fun b => { b with mRom := le 48 Config.mRom.toNat }
    let s3 := s2.setFault ((if s2.vaultCode = 3 then 8 else 0) + (if res.bistOk then 0 else 0x20))
    ok (s3.setStage 2)

/-! ### Images (R416) -/

/-- Bytes of a header, and of the largest code. -/
def headerLen : Nat := 4096
def codeMax : Nat := 4186112

def imgRoles (m : Memory) : Nat := leNat (m.readAll 6 1)
def imgSvn (m : Memory) : Nat := leNat (m.readAll 8 4)
def imgCodeLen (m : Memory) : Nat := leNat (m.readAll 16 4)

/-- R416: M_FW. -/
def imgMeasure (m : Memory) : List Byte := le 48 (Config.sha384 (m.readAll 0 80)).toNat

/-- R417: the image's signatures verify, its DIGEST matches its code and its ROLES includes the role. -/
def imgSound (role : Role) (m : Memory) : Bool :=
  m.readAll 0 4 == [0x4C, 0x47, 0x46, 0x57] && leNat (m.readAll 4 2) == 1 && decide (imgCodeLen m ≤ codeMax)
    && bothOk (Config.firmwareKey, Config.firmwareKey) (m.readAll 0 80) (leNat (m.readAll 80 96)) (leNat (m.readAll 176 3309))
    && m.readAll 32 48 == le 48 (Config.sha384 (m.readAll headerLen (imgCodeLen m))).toNat && bit (imgRoles m) (roleCode role - 1)

/-- R417: a bootable image. -/
def Image.bootable (role : Role) (svn : Nat) (x : Image) : Bool :=
  (x.state == 1 || x.state == 2 || x.state == 3) && decide (svn ≤ imgSvn x.mem) && imgSound role x.mem

def State.image (s : State) (n : Nat) : Image := if n = 0 then s.boot.imgA else s.boot.imgB
def State.modImage (n : Nat) (f : Image → Image) (s : State) : State :=
  s.modBoot fun b => if n = 0 then { b with imgA := f b.imgA } else { b with imgB := f b.imgB }

/-- The image in a state, if any. -/
def State.imageIn (s : State) (st : Nat) : Option Nat := [0, 1].find? fun n => (s.image n).state == st

def State.boots (s : State) (n : Nat) : Bool := (s.image n).bootable s.boot.role (s.vault.ctr.getD 2 0)

/-- R417: the rest of the choice once no trial runs: ACTIVE, else the other, else none; IMGA or IMGB of an image that
failed. -/
def State.chooseStable (s : State) : State × Option Nat :=
  match s.imageIn 3 with
  | some a =>
    if s.boots a then (s, some a)
    else
      let s1 := s.setFault (2 * 2 ^ a)
      if s.boots (1 - a) then (s1, some (1 - a)) else (s1.setFault 6, none)
  | none => match [0, 1].find? fun n => s.boots n with
    | some n => (s, some n)
    | none => (s.setFault 6, none)

/-- R417: the image the boot ROM runs, TRIES or the rollback written first. -/
def State.chooseImage (s : State) : State × Option Nat :=
  match s.imageIn 2 with
  | some n =>
    if s.boots n && decide ((s.image n).tries < 3) then
      (((s.modImage n fun x => { x with tries := x.tries + 1 }).modBoot fun b => { b with trialRun := true }), some n)
    else
      let s1 := if imgSound s.boot.role (s.image n).mem then s else s.setFault (2 * 2 ^ n)
      let s2 := s1.modImage n fun x => { x with state := 4 }
      (s2.fire 0x08 0 0 s2.startItems).chooseStable
  | none => s.chooseStable

/-- R371, R369: the slots as this start finds them: a record that fails its HMAC is absent, a key of another KWK is INVALID. -/
def KSlot.found (fw : List Byte) (kwk good : Bool) (k : KSlot) : KSlot :=
  if !good then {}
  else match k.st with
    | .valid => { k with st := if kwk && k.fw == fw then .valid else .invalid }
    | .invalid => { k with st := if kwk && k.fw == fw then .valid else .invalid }
    | _ => k

/-- R368, R369, R409: keys are released, identity records and slots read; reduced service where a cause of R409 stands. -/
def State.releaseKeys (r : Stage2Result) (s : State) : State :=
  let fw := s.boot.mFw
  let bad := s.vault.refuse || s.vaultCode == 3
  let kwk := s.vault.share.isSome && !bad
  let s1 := s.modSec fun x => { x with
    keys := !bad, kwk := kwk, recsOk := r.identityOk
    slots := x.slots.zipIdx.map fun (p : KSlot × Nat) => p.1.found fw kwk (r.slotsOk.getD p.2 true) }
  let s2 := s1.modBoot fun b => { b with reduced := bad || !r.identityOk }
  if !r.identityOk || r.slotsOk.any (fun ok => !ok) then s2.secFire 0xC1 0xFF 0 else s2

/-- R394: a torn last record is excluded. -/
def State.findHead (torn : Bool) (s : State) : State :=
  { s with led := { s.led with recs := if torn then s.led.recs.dropLast else s.led.recs, torn := torn } }

/-- Stage 3 begins: RUN, the full test, metering, CAN, channels, the pair's part (R307, R332, R348, R360, R405, R419). -/
def State.enterStage3 (s : State) : State :=
  let s1 := (s.setStage 3).setPower .run 0
  let s2 := s1.modBoot fun b => { b with ticks := 0 }
  let s3 := s2.modPr fun x => { x with pntInAt := s.time.now, proveAt := s.time.now, partner := 0xFF }
  let s4 := if s3.pairEn then s3.setPair .syncing else s3
  ((s4.loadBanks).startCan.meterRestore).beginTest none

/-- IMAGE_CHOSEN (R417, R405): stage 3, or stage 2 without a bootable image (R410). -/
def execImageChosen (t : Nat) (res : Stage2Result) (s : State) : Host.Outcome State Fault Refusal :=
  let s := s.advance t
  if s.boot.stage ≠ 2 ∨ s.boot.recovery then ok s
  else
    let s1 := if res.mramOk then s else s.setFault 0x10
    match s1.chooseImage with
    | (s2, none) => ok (s2.modBoot fun b => { b with recovery := true, recBytes := 0 })
    | (s2, some n) =>
      let s3 := s2.modBoot fun b => { b with image := n, mFw := imgMeasure (s2.image n).mem }
      ok (((s3.releaseKeys res).findHead res.ledgerTorn).enterStage3)

/-- IMAGE_RECOVERY_WRITE (R410): bytes into the image A region; a complete image that passes is booted by a reset. -/
def execImageRecoveryWrite (t offset : Nat) (data : List Byte) (s : State) : Host.Outcome State Fault Refusal :=
  let s := s.advance t
  if !s.boot.recovery || decide (4194304 < offset + data.length) then ok s
  else
    let s1 := s.modBoot fun b => { b with
      imgA := { b.imgA with state := 0, mem := b.imgA.mem.writeAll offset data }
      recBytes := if offset ≤ b.recBytes then max b.recBytes (offset + data.length) else b.recBytes }
    let m := s1.boot.imgA.mem
    if headerLen ≤ s1.boot.recBytes ∧ headerLen + imgCodeLen m ≤ s1.boot.recBytes
        ∧ imgSound s.boot.role m ∧ s.vault.ctr.getD 2 0 ≤ imgSvn m then
      ok ((s1.modImage 0 fun x => { x with state := 1, tries := 0 }).controlReset 0)
    else ok s1

/-! ## Stages 4 and 5 (R159, R405, R407, R415) -/

/-- R159: a trunk whose walk matches the stored map carries setpoints. -/
def Trunk.walked (w : TrunkWalk) (t : Trunk) : Trunk :=
  { t with carries := t.known && (walkMods w).map (·.addr) == t.map.map (·.addr) && walkClosed w == t.closed }

/-- R159: every enabled trunk is walked. -/
def State.walkTrunks (walks : List TrunkWalk) (s : State) : State :=
  { s with trunks := s.trunks.mapIdx fun i t =>
      if s.trunkOn i then t.walked ((walks.find? fun w => w.trunk == i).getD ⟨i, [], [], 0⟩) else t }

/-- STAGE3_COMPLETE (R405): test ended, trunks walked, in a pair the Pennant line held by one of the units: stage 4. -/
def execStage3Complete (t : Nat) (walks : List TrunkWalk) (s : State) : Host.Outcome State Fault Refusal :=
  let s := s.advance t
  if s.boot.stage = 3 ∧ s.safe.tested ∧ s.safe.testing.isNone ∧ (s.pair.st = .unpaired ∨ s.pair.pntOut ∨ s.pair.pntIn) then
    ok ((if s.boot.role = .lane then s.walkTrunks walks else s).setStage 4)
  else ok s

/-- R405: what entry to stage 5 asks: vault provisioned or erased, no reduced service, the store's CRC, no inspection pair
of this device in demand. -/
def State.mayEnter5 (s : State) : Bool :=
  s.boot.stage == 4 && (s.vaultCode == 0 || s.vaultCode == 2) && !s.boot.reduced && s.cfg.crcOk && !s.ownInsp

/-- STAGE5_ENTRY (R405, R158, R215, R250). -/
def execStage5Entry (t : Nat) (s : State) : Host.Outcome State Fault Refusal :=
  let s := s.advance t
  if s.mayEnter5 then
    let s1 := s.setStage 5
    ok (if s.boot.role = .lane then (s1.openBooks).startEnum none 4095 else s1.homeInPlace)
  else ok s

/-- R415: sessions, enumeration, books, offers. -/
def State.ready5Holds (s : State) : Bool :=
  s.boot.stage == 5 && !s.boot.ready5 && s.power.mode != .sleep
    && (if s.boot.role = .lane then
          s.carNums.all (fun c => (s.car c).link && (!(s.car c).stands || (s.car c).offered)) && s.auth.rebuilt && s.enumRun.isEmpty
            && trunkNums.all fun n => !s.trunkOn n || (s.trunk n).known
        else (s.car s.ownCar).link)

/-- STAGE5_READY (R415): with AUTOEN the holder starts the check with the CRC of its stored configuration. -/
def execStage5Ready (t : Nat) (s : State) : Host.Outcome State Fault Refusal :=
  let s := s.advance t
  if s.ready5Holds then
    let s1 := s.modBoot fun b => { b with ready5 := true }
    ok (if bit (Cfg.Start.SFLG (s.one Cfg.Start.sec Cfg.Start.dflt)) 0 && s.serves && !s.chk.autoDone && s.chk.running.isNone && s.chk.learn.isNone
        then s1.beginCheck none s1.cfgCrc else s1)
  else ok s

/-- R405: the deadline of a stage, in ns from the start instant. -/
def stageDeadline (n : Nat) : Nat := [0, 1000000, 25000000, 200000000, 300000000].getD n (2 ^ 64)

/-- DEADLINE_PASSED (R407): event source 0x0A waits for the first tick after stage 3. A trial image that has not entered stage
4 within 1,000 ms has failed: it is committed no more (log 68). -/
def execDeadlinePassed (t : Nat) (s : State) : Host.Outcome State Fault Refusal :=
  let s := s.advance t
  let gone := [1, 2, 3, 4].any fun n => decide (s.boot.stage < n) && decide (s.boot.startAt + stageDeadline n < s.time.now)
  if s.boot.held || s.boot.stage == 0 || !gone then ok s
  else
    let s1 := if s.boot.late then s else s.modBoot fun b => { b with late := true, lateDue := true }
    if s.boot.trialRun ∧ s.boot.stage < 4 ∧ s.boot.startAt + 1000000000 < s.time.now then
      let s2 := s1.modBoot fun b => { b with trialRun := false }
      ok (s2.fire 0x08 0 0 s2.startItems)
    else ok s1

/-- R407 at a tick boundary. -/
def State.lateTick (s : State) : State :=
  if s.boot.lateDue ∧ 4 ≤ s.boot.stage then
    let s1 := s.modBoot fun b => { b with lateDue := false }
    s1.fire 0x0A 0 0 s1.startItems
  else s

/-! ## Reset and power commands (R419-R426) -/

/-- COMMANDED_RESET (R426): 1 ms after the reply. -/
def execCommandedReset (t : Nat) (s : State) : Host.Outcome State Fault Refusal :=
  let s := s.advance t
  match s.power.resetDue with
  | some (at0, _) => if at0 ≤ s.time.now then ok (s.controlReset 0x10) else ok s
  | none => ok s

/-- R426: a holder whose partner is READY hands over instead. -/
def State.handsOver (s : State) : Bool := s.pair.pntOut && s.pair.partner == 4

/-- DONE goes first; where the cars do not stand braked the hold is dropped, and the partner takes. -/
def sysResetEff (tr : TagRec) (_d : List Byte) (s : State) : State :=
  let s1 := (s.done tr []).modPower fun p => { p with resetDue := some (s.time.now + 1000000, !s.braked) }
  if s.braked then s1 else s1.flush.dropHold

def sysResetCard : CardDef where
  k := { opc := 0x0110, role := 3, query := false, kinds := [0] }
  lenOk := lenIs 4
  own := fun s _ _ => refuseIf (!s.braked && !s.handsOver) 0x0110
  eff := sysResetEff

/-- SYS_RESET (R426). -/
def execSysReset (h : Hdr) (data : List Byte) (s : State) : Host.Outcome State Fault Refusal := ok (runCard sysResetCard h data s)

/-- R420, R421: a call that is WAITING or BOARDED. -/
def State.callsOpen (s : State) : Bool := s.disp.calls.any fun k => k.state == 0 || k.state == 1

/-- R421: every door LOCKED. -/
def State.allLocked (s : State) : Bool :=
  if s.boot.role = .lane then s.carNums.all fun c => (s.car c).doorsLocked else s.doorNums.all fun d => (s.door d).st == .locked

/-- R421: what POWER_SET with MODE 1 and 2 asks. -/
def State.restful (s : State) : Bool := s.braked && s.allLocked && !s.callsOpen && s.launchQ.isEmpty

def powerSetOwn (s : State) (_tr : TagRec) (d : List Byte) : Own :=
  let stage := s.boot.stage
  match rd d 0 1 with
  | 0 => none
  | 1 => firstOf [refuseIf (decide (stage < 5) || s.power.pend.isSome) 0x0111, refuseIf (!s.restful) 0x0110]
  | 2 => firstOf [refuseIf (decide (stage < 4) || s.power.pend.isSome) 0x0111, refuseIf (!(s.restful || (stage == 4 && s.braked))) 0x0110]
  | _ => some (0xFF07, [])

def powerReply (s : State) : List Byte := le 1 s.power.mode.code ++ zeros 3

/-- MODE 0 wakes at once; MODE 1 and 2 act at the next boundary (`powerTick`). -/
def powerSetEff (tr : TagRec) (d : List Byte) (s : State) : State :=
  if rd d 0 1 = 0 then let s1 := s.wakeUp 8; s1.done tr (powerReply s1)
  else s.modPower fun p => { p with pend := some (rd d 0 1, tr) }

def powerSetCard : CardDef where
  k := { opc := 0x0111, role := 3, query := false, kinds := [0], lead := some 250000 }
  lenOk := lenIs 4
  own := powerSetOwn
  eff := powerSetEff

/-- POWER_SET (R421, R425). -/
def execPowerSet (h : Hdr) (data : List Byte) (s : State) : Host.Outcome State Fault Refusal := ok (runCard powerSetCard h data s)

/-- R425: the orderly shutdown, step by step. -/
def State.shutdown (tr : TagRec) (s : State) : State :=
  let s1 := s.modPower fun p => { p with pend := none, shutDown := true }
  let s2 := s1.softTrip
  let s3 := s2.commitN s2.led.staged.length
  let s4 := if s3.meters then s3.modMeter fun m => m.commitAt s.time.now else s3
  let s5 := (s4.modVault fun v => { v with coarse := some s.time.now }).modBoot fun b => { b with shutRecord := true }
  let s6 := (s5.done tr (powerReply s5)).closeAll
  ((s6.keepAlive 0 false).keepAlive 1 false).setStage 0

/-- R421, R425 at a tick boundary. -/
def State.powerTick (s : State) : State :=
  match s.power.pend with
  | some (1, tr) =>
    let s1 := (s.modPower fun p => { p with pend := none }).setStage 5
    let s2 := s1.setPower .sleep 0
    s2.done tr (powerReply s2)
  | some (2, tr) => s.shutdown tr
  | _ => s

/-- R420: the conditions of IDLE. -/
def State.quiet (s : State) : Bool := s.braked && !s.callsOpen && s.rings.all fun r => r.tags.isEmpty

/-- R420 at a tick boundary: since when the conditions hold; an idle device with activity returns to RUN. -/
def State.idleTick (s : State) : State :=
  if s.power.mode = .idle then (if s.power.idleSince.isNone || !s.quiet then s.setPower .run 0 else s)
  else if s.power.mode = .run then s.modPower fun p => { p with idleSince := if s.quiet then some (p.idleSince.getD s.time.now) else none }
  else s

/-- IDLE_ENTRY (R420): IDLET of inactivity with IDLEEN set. -/
def execIdleEntry (t : Nat) (s : State) : Host.Outcome State Fault Refusal :=
  let s := s.advance t
  let c := s.one Cfg.Start.sec Cfg.Start.dflt
  match s.power.idleSince with
  | some t0 =>
    if s.power.mode = .run ∧ bit (Cfg.Start.SFLG c) 1 ∧ 5 ≤ s.boot.stage ∧ s.quiet ∧ t0 + Cfg.Start.IDLET c * 10 ^ 9 ≤ s.time.now then
      ok ((s.setPower .idle 0).modPower fun p => { p with idleSince := some t0 })
    else ok s
  | none => ok s

/-- WAKE (R422, R423). -/
def execWake (t src : Nat) (s : State) : Host.Outcome State Fault Refusal := ok ((s.advance t).wakeUp src)

def startStatusReply (s : State) (_tr : TagRec) (_d : List Byte) : List Byte :=
  le 1 s.boot.stage ++ le 1 s.power.mode.code ++ le 1 s.sstat ++ le 1 s.power.wakeSrc ++ s.boot.stageAt.flatMap (le 4)
    ++ le 2 s.imgst ++ zeros 2 ++ le 4 (imgSvn s.boot.imgA.mem) ++ le 4 (imgSvn s.boot.imgB.mem)

def startStatusCard : CardDef where
  k := { opc := 0x0112, role := 3, query := true, kinds := [0] }
  lenOk := lenIs 0
  eff := answer startStatusReply

/-- START_STATUS (R405). -/
def execStartStatus (h : Hdr) (data : List Byte) (s : State) : Host.Outcome State Fault Refusal := ok (runCard startStatusCard h data s)

/-! ## IMAGE_WRITE, IMAGE_ACTIVATE, IMAGE_COMMIT (R417, R418) -/

/-- IMGST and 2 reserved bytes. -/
def imageReply (s : State) : List Byte := le 2 s.imgst ++ zeros 2

/-- Event source 0x08. -/
def State.imageFire (s : State) : State := s.fire 0x08 0 0 s.startItems

/-- The region that is not running. -/
def State.spare (s : State) : Nat := 1 - s.boot.image

/-- The bytes of the spare region with this fragment. -/
def State.iwMem (s : State) (d : List Byte) : Memory :=
  Memory.writeAll (if rd d 0 4 = 0 then ([] : Memory) else (s.image s.spare).mem) (rd d 0 4) (d.drop 8)

def iwWhole (d : List Byte) : Bool := rd d 0 4 + (d.length - 8) == rd d 4 4

def imageWriteOwn (s : State) (_tr : TagRec) (d : List Byte) : Own :=
  let off := rd d 0 4
  let tot := rd d 4 4
  let follows := off == 0 || (match s.boot.writing with
    | some f => f.next == off && f.total == tot
    | none => false)
  let m := s.iwMem d
  firstOf [
    refuseIf (s.imageIn 2).isSome 0x0113,
    refuseIf (!follows || decide (tot < headerLen) || decide (headerLen + codeMax < tot) || decide (tot < off + (d.length - 8))
      || (iwWhole d && headerLen + imgCodeLen m != tot)) 0x0114,
    refuseIf (iwWhole d && !imgSound s.boot.role m) 0x0115,
    refuseIf (iwWhole d && decide (imgSvn m < s.vault.ctr.getD 2 0)) 0x0116]

/-- A fragment is written; the region is EMPTY until the image is complete, then WRITTEN. -/
def imageWriteEff (tr : TagRec) (d : List Byte) (s : State) : State :=
  let m := s.iwMem d
  let w := iwWhole d
  let s1 := s.modImage s.spare fun _ => { state := b2n w, tries := 0, mem := m }
  let s2 := s1.modBoot fun b => { b with writing := if w then none else some { next := rd d 0 4 + (d.length - 8), total := rd d 4 4, bytes := [] } }
  let s3 := if (s.image s.spare).state = b2n w then s2 else s2.imageFire
  s3.done tr (imageReply s3)

def imageWriteCard : CardDef where
  k := { opc := 0x0120, role := 3, query := false, kinds := [0] }
  lenOk := fun d => decide (9 ≤ d.length)
  own := imageWriteOwn
  eff := imageWriteEff

/-- IMAGE_WRITE (R417). -/
def execImageWrite (h : Hdr) (data : List Byte) (s : State) : Host.Outcome State Fault Refusal := ok (runCard imageWriteCard h data s)

def imageActivateOwn (s : State) (_tr : TagRec) (_d : List Byte) : Own :=
  firstOf [refuseIf (s.imageIn 2).isSome 0x0113, refuseIf ((s.image s.spare).state != 1) 0x0117]

def imageActivateEff (tr : TagRec) (_d : List Byte) (s : State) : State :=
  let s1 := (s.modImage s.spare fun x => { x with state := 2, tries := 0 }).imageFire
  s1.done tr (imageReply s1)

def imageActivateCard : CardDef where
  k := { opc := 0x0121, role := 3, query := false, kinds := [0] }
  lenOk := lenIs 4
  own := imageActivateOwn
  eff := imageActivateEff

/-- IMAGE_ACTIVATE (R418). -/
def execImageActivate (h : Hdr) (data : List Byte) (s : State) : Host.Outcome State Fault Refusal := ok (runCard imageActivateCard h data s)

/-- The SVN that a commit with RAISE raises counter 2 to. -/
def State.runningSvn (s : State) : Nat := imgSvn (s.image s.boot.image).mem

def imageCommitOwn (s : State) (_tr : TagRec) (d : List Byte) : Own :=
  firstOf [
    refuseIf (decide (s.boot.stage < 5) || !s.boot.trialRun || (s.image s.boot.image).state != 2) 0x0118,
    refuseIf (rd d 0 1 == 1 && decide (s.vault.ctr.getD 2 0 < s.runningSvn) && !s.ctrLeft 2) 0x0119,
    refuseIf (decide (1 < rd d 0 1)) 0xFF07]

/-- R418: counter 2, then ACTIVE, then the former ACTIVE image WRITTEN. -/
def imageCommitEff (tr : TagRec) (d : List Byte) (s : State) : State :=
  let n := s.boot.image
  let s1 := if rd d 0 1 = 1 ∧ s.vault.ctr.getD 2 0 < s.runningSvn then s.raiseCtr 2 s.runningSvn else s
  let s2 := (s1.modImage n fun x => { x with state := 3, tries := 0 }).modImage (1 - n) fun x => if x.state = 3 then { x with state := 1 } else x
  let s3 := (s2.modBoot fun b => { b with trialRun := false }).imageFire
  s3.done tr (imageReply s3)

def imageCommitCard : CardDef where
  k := { opc := 0x0122, role := 3, query := false, kinds := [0] }
  lenOk := lenIs 4
  own := imageCommitOwn
  eff := imageCommitEff

/-- IMAGE_COMMIT (R418). -/
def execImageCommit (h : Hdr) (data : List Byte) (s : State) : Host.Outcome State Fault Refusal := ok (runCard imageCommitCard h data s)

end Sys2Proof.Machine
end

