-- ==== Sys2Proof/Machine/Inputs.lean ====
section
/-! DEFINITION. What a field input's transition and a received CAN frame bring about in the functions that read them
(files 04, 05, 09, 10, 11, 12: R101, R140, R252, R280, R287-R289, R311, R422). -/

namespace Sys2Proof.Machine

/-! ## Field inputs (R287-R289) -/

/-- Door axes of section 0x0600. -/
def State.axisNums (s : State) : List Nat := [0, 1, 2, 3].filter fun a => s.hasKey Cfg.DoorAxis.sec Cfg.DoorAxis.AXIS a

/-- R140: a step is a rise of the STEP source, its direction the DIR level then (log 70). -/
def State.stepEdges (srck src : Nat) (level : Nat → Bool) (e : Nat) (s : State) : State :=
  ((s.recs Cfg.StepIn.sec).filter fun r => Cfg.StepIn.SRCK r == srck && Cfg.StepIn.STEP r == src).foldl
    (fun s r => s.coarseStep (Cfg.StepIn.AXIS r) (level (Cfg.StepIn.DIR r)) e) s

/-- R101, R140, R244, R252: what reads an edge of an input in the CAR role, and the Waymarks of the LANE role. `te` is the
edge instant: the transition instant less the debounce time. -/
def State.inputEdge (n : Nat) (v : Bool) (te : Nat) (s : State) : State :=
  if s.standby then s
  else if s.boot.role = .lane then
    ((s.recs Cfg.Waymark.sec).filter fun r => Cfg.Waymark.SRCK r == 0 && Cfg.Waymark.SRC r == n).foldl (fun s r => s.waymarkEdge r v te) s
  else if s.boot.role = .car then
    let s1 := (s.axisNums.filter fun a => Cfg.DoorAxis.CLSW (s.axisRec a) == n).foldl (fun s a => s.switchEdge a te) s
    let s2 := (s1.doorNums.filter fun d => Cfg.DoorCfg.LCIN (s1.doorRec d) == n).foldl (fun s d => s.curtainEdge d) s1
    if v then s2.stepEdges 1 n (fun k => (s.fi k).level) te else s2
  else s

/-- R280 condition 4: a rising edge on RSTFI asks for the release of a set latch. -/
def State.localReset (n : Nat) (v : Bool) (s : State) : State :=
  if v && s.safe.latch && Cfg.Zone.RSTFI s.zone == n then
    { s with safe := { s.safe with resets := s.safe.resets ++ [{ tag := none, at0 := s.time.now }] } }
  else s

/-- R287, R289: the input holds a level, stamped with its transition instant, and its points follow. -/
def State.setInput (n : Nat) (v : Bool) (s : State) : State :=
  ({ s with field := { s.field with fi := s.field.fi.modify n fun _ => { level := v, at0 := s.time.now, stale := false } } } : State).feed 0x80 n (b2n v) s.time.now

/-- FIELD_INPUT_TRANSITION (R287): the raw level has stood for DEB; IFLG[0] inverts it. With the group not OK nothing is
taken; a level that ends a stale time is a change of value without an edge (R289). -/
def execFieldInputTransition (t fi : Nat) (level : Bool) (s : State) : Host.Outcome State Fault Refusal :=
  let s := s.advance t
  let r := s.fiRec fi
  let v := level != bit (Cfg.FieldIn.IFLG r) 0
  if 63 < fi ∨ s.grpOk (fiGroup fi) = false ∨ s.boot.stage = 0 then ok s
  else if (s.fi fi).stale then ok (s.setInput fi v)
  else if (s.fi fi).level = v then ok s
  else
    let s1 := s.setInput fi v
    let s2 := if bit (Cfg.Start.WAKEFI (s.one Cfg.Start.sec Cfg.Start.dflt)) fi then s1.wakeUp 2 else s1
    ok ((s2.localReset fi v).inputEdge fi v (s.time.now - 1000 * Cfg.FieldIn.DEB r))

/-! ## Frames (R101, R140, R221, R311) -/

/-- The points of an object that carry a value of a type below 0x80 or of 0x90 to 0x9F. -/
def State.objPoints (s : State) (ch idx : Nat) : List (List Byte) :=
  s.ptRecs.filter fun r => ptType r != 0x80 && ptType r != 0x81 && ptSource r == objSource ch idx

/-- R101: a CAN Waymark's edge is a stored frame whose value differs from that of the frame before it; its instant is the
start of frame less LAT. -/
def State.pointEdge (i old new sof : Nat) (s : State) : State :=
  if s.boot.role = .lane then
    ((s.recs Cfg.Waymark.sec).filter fun r => Cfg.Waymark.SRCK r == 1 && Cfg.Waymark.SRC r == i).foldl
      (fun s r => s.waymarkEdge r (new != 0) (sof - Cfg.Waymark.LAT r)) s
  else if old = 0 ∧ new ≠ 0 then s.stepEdges 2 i (fun k => (s.pointRt k).value != 0) sof
  else s

/-- The functions of the device that read an object, once its frame is stored. `before` is the state ahead of it. -/
def State.framePoints (before : State) (ch idx sof : Nat) (s : State) : State :=
  (s.objPoints ch idx).foldl (fun (s : State) r =>
    let i := ptIdx r
    let ty := ptType r
    let old := (before.pointRt i).value
    let new := (s.pointRt i).value
    if (ty == 0x20 || ty == 0x21) && s.boot.role == .car then s.takeTape ty new sof
    else if bit ((before.chan ch).obj idx).flags 0 && old != new then s.pointEdge i old new sof
    else s) s

/-- R221: a terminal's frame on a dispatch source of this channel: TREQ, FROM, TO, PAX, CFLAGS. -/
def State.frameCall (ch : Nat) (fr : CanRx) (s : State) : State :=
  if s.boot.role ≠ .lane ∨ s.boot.stage ≠ 6 ∨ s.standby then s
  else match s.sourceOf 0 ch (fr.id % 2 ^ 29 + 2 ^ 30 * b2n fr.ext) with
    | none => s
    | some src => s.terminal src (rd fr.data 0 2) (rd fr.data 2 2) (rd fr.data 4 2) (rd fr.data 6 1) (rd fr.data 7 1)

/-- CAN_FRAME_RECEIVED (R311): stored whole in its object, or taken by its function. -/
def execCanFrameReceived (t ch : Nat) (fr : CanRx) (s : State) : Host.Outcome State Fault Refusal :=
  let s := s.advance t
  let s1 := s.takeFrame ch fr
  if !s.hears ch fr || fr.full || s.isTx ch fr.id fr.ext || s.standby then ok s1
  else match s.objIdx ch fr.id fr.ext with
    | none => ok s1
    | some idx => ok ((State.framePoints s ch idx fr.sof s1).frameCall ch fr)

end Sys2Proof.Machine
end

