-- ==== Sys2Proof/Machine/Launch.lean ====
section
/-! DEFINITION. What happens at a resolved edge (R82-R88, R121, R173, R258): device Milestones in class order, then the host
commands that wait for the edge. -/

namespace Sys2Proof.Machine

/-! ## Device Milestones (R85-R87) -/

/-- R87: the class order 0x7, 0x3, 0x6, 0x5. -/
def msRank (cls : Nat) : Nat :=
  match cls with
  | 7 => 0
  | 3 => 1
  | 6 => 2
  | _ => 3

/-- R121, R173, R257: a car's arrival; a car in dispatch service, or under LAND, gets its door request with AT the arrival. -/
def State.applyArrival (c edge : Nat) (s : State) : State :=
  let kind := ((s.planOf c).move.map (·.kind)).getD 0
  let s1 := s.arrive c edge
  if (kind == 1 || kind == 2) && (s1.planOf c).move.isNone then s1.requestDoors c edge else s1

/-- A device Milestone is applied. -/
def State.applyMs (m : Ms) (s : State) : State :=
  match m.kind with
  | .arrival c => s.applyArrival c m.edge
  | .axisArrival d => s.arriveDoor d m.edge
  | .door rseq => s.actRequest rseq
  | .brakeRelease => s.liftBrakes
  | .brakeApply => s.applyBrakes false

/-- The device Milestones of one edge, in class order. -/
def State.milesAt (e : Nat) (s : State) : State :=
  let now := sortKey (fun (m : Ms) => (msRank m.cls : Int)) (s.miles.filter fun m => m.edge == e)
  now.foldl (fun s m => s.applyMs m) { s with miles := s.miles.filter fun m => m.edge != e }

/-- The earliest of a list of edges. -/
def firstEdge : List Nat → Option Nat
  | [] => none
  | x :: xs => match firstEdge xs with
    | none => some x
    | some y => some (min x y)

/-- DEVICE_MILESTONE (R87): the earliest edge of the internal queue. A standby's Milestones are its holder's (R350). -/
def execDeviceMilestone (s : State) : Host.Outcome State Fault Refusal :=
  match firstEdge (s.miles.map (·.edge)) with
  | none => ok s
  | some e => if s.standby then ok s else ok ((s.advance e).milesAt e)

/-! ## Host commands (R82, R87, R88) -/

/-- The launchable cards. -/
def launchCards : List CardDef :=
  [powerSetCard, moveToCard, moveStopCard, bankSwapCard, injectStartCard, captureArmCard, authCloseCard, doorOpenCard,
   doorCloseCard, fieldOutWriteCard, canSendCard, pairProveCard]

/-- A waiting command's edge on the present scale (R82, R85). -/
def State.launchEdge (s : State) (l : Launch) : Nat := edgeAt s.time.phase l.launch

/-- R87 order: opcode class, then ring pair; the queue stands in order of acceptance. -/
def launchKey (l : Launch) : Int := (((l.tag.opc / 4096) * 16 + l.tag.pair : Nat) : Int)

/-- R88: the quantities that a launched command sets: an output, a car's or a door's command, the tokens of blocks (log 71). -/
def State.launchSets (s : State) (l : Launch) : List (Nat × Nat) :=
  match l.tag.opc with
  | 0x8002 => ((s.fqOf l.tag.tgt).map fun n => (8, n)).toList
  | 0x3001 => if s.boot.role = .lane then [(3, tgtIdx l.tag.tgt)] else [(6, s.doorTgt l.tag)]
  | 0x6001 => [(6, s.doorTgt l.tag)]
  | 0x6002 => [(6, s.doorTgt l.tag)]
  | 0x5003 => (s.nodeBlocks l.tag.tgt).map fun b => (5, b)
  | _ => []

/-- R88: a later command of the edge, one that its card's checks let run, sets what this one sets. -/
def State.superseded (s : State) (l : Launch) (later : List Launch) : Bool :=
  later.any fun k => (s.launchSets k).any (fun q => (s.launchSets l).contains q)
    && launchCards.any fun d => d.k.opc == k.tag.opc && (d.own s k.tag k.data).isNone

/-- The reply payload of a superseded command: QSTATE of an output's write, else none. -/
def State.supersededReply (s : State) (l : Launch) : List Byte :=
  if l.tag.opc = 0x8002 then ((s.fqOf l.tag.tgt).map (qstate s)).getD [] else []

/-- A command launches: its tag is lit with its edge, its card's checks hold again (log 72), and it has its effect. -/
def State.launchOne (l : Launch) (later : List Launch) (s : State) : State :=
  match launchCards.find? fun d => d.k.opc == l.tag.opc with
  | none => s
  | some d =>
    let tr := { l.tag with edge := s.launchEdge l, lit := true }
    let s1 := s.modRing tr.pair fun r => { r with tags := r.tags.map fun y => if y == l.tag then tr else y }
    match d.own s1 tr l.data with
    | some (reason, body) => s1.finish tr 3 reason s1.time.now body
    | none =>
      let s2 := d.eff tr l.data s1
      if s.superseded l later then d.eff tr l.data (s1.finish tr 2 0x1020 s1.time.now (s2.supersededReply l)) else s2

def State.launchGo : List Launch → State → State
  | [], s => s
  | l :: ls, s => (s.launchOne l ls).launchGo ls

/-- The waiting commands of one edge launch in order, after the device Milestones of that edge. -/
def State.launchAt (e : Nat) (s : State) : State :=
  let now := sortKey launchKey (s.launchQ.filter fun l => s.launchEdge l == e)
  { s with launchQ := s.launchQ.filter fun l => s.launchEdge l != e }.launchGo now

/-- LAUNCH (R82): the earliest resolved edge comes. -/
def execLaunch (s : State) : Host.Outcome State Fault Refusal :=
  match firstEdge (s.launchQ.map s.launchEdge) with
  | none => ok s
  | some e =>
    let s1 := s.advance e
    ok ((if s.standby then s1 else s1.milesAt e).launchAt e)

end Sys2Proof.Machine
end

