-- ==== Sys2Proof/Machine/Protect.lean ====
section
/-! DEFINITION. PROTECT_SET, PROTECT_GET, RING_ASSIGN, EVENT_ROUTE and the application and storing of protection changes
(file 02, R49-R56, R66). -/

namespace Sys2Proof.Machine

/-! ## The table (R51-R55) -/

/-- R51: an entry from its 12 bytes. -/
def entryOf (b : List Byte) : ProtEntry := ⟨rd b 0 1, rd b 2 2, rd b 4 2, rd b 8 4⟩

/-- R51: the 12 bytes of an entry. -/
def ProtEntry.bytes (e : ProtEntry) : List Byte := le 1 e.edom ++ zeros 1 ++ le 2 e.ctl ++ le 2 e.qry ++ zeros 2 ++ le 4 e.node

def ProtEntry.same (e f : ProtEntry) : Bool := e.edom == f.edom && e.node == f.node

/-- R55: an add ORs its masks into an entry of the same EDOM and NODE, or makes a new entry. -/
def addEntry (es : List ProtEntry) (e : ProtEntry) : List ProtEntry :=
  if es.any (·.same e) then es.map fun f => if f.same e then { f with ctl := f.ctl ||| e.ctl, qry := f.qry ||| e.qry } else f
  else es ++ [e]

/-- R55: a change carried out on a table. -/
def protApply (es : List ProtEntry) (op edom : Nat) (xs : List ProtEntry) : List ProtEntry :=
  if op = 1 then xs.foldl addEntry es
  else if op = 2 then es.filter fun f => !xs.any (·.same f)
  else es.filter fun f => f.edom != edom

def ProtChange.on (c : ProtChange) (es : List ProtEntry) : List ProtEntry := protApply es c.op c.edom c.entries

/-- R55: the projected table. -/
def Prot.projected (p : Prot) : List ProtEntry := p.waiting.foldl (fun es c => c.on es) p.entries

/-- Entries of a PROTECT_SET payload. -/
def setEntries (d : List Byte) : List ProtEntry := (records 12 (d.drop 12)).map entryOf

/-- A node kind R15 reserves. -/
def reservedKind (k : Nat) : Bool := k == 7 || decide (11 ≤ k)

/-- R55: the checks of PROTECT_SET. -/
def protectSetOwn (s : State) (_tr : TagRec) (d : List Byte) : Own :=
  let op := rd d 4 1
  let xs := setEntries d
  firstOf [
    refuseIf (rd d 0 4 != (s.prot.gen + s.prot.waiting.length) % 2 ^ 32) 0xFF0A,
    refuseIf (!(op == 1 || op == 2 || op == 3) || (op == 3 && decide (7 < rd d 6 1)) || xs.any fun e => decide (7 < e.edom)) 0x0103,
    refuseIf (xs.any fun e => reservedKind (tgtKind e.node)) 0x0102,
    refuseIf (op == 1 && decide (1024 < (protApply s.prot.projected 1 0 xs).length)) 0x0101]

/-- R53: an accepted PROTECT_SET waits for a boundary. -/
def protectSetEff (tr : TagRec) (d : List Byte) (s : State) : State :=
  { s with prot := { s.prot with waiting := s.prot.waiting ++
      [{ tag := tr, op := rd d 4 1, purge := bit (rd d 5 1) 0, edom := rd d 6 1, entries := setEntries d, newGen := 0, effAt := 0, purged := 0 }] } }

def protectSetCard : CardDef where
  k := { opc := 0x0101, role := 3, query := false, kinds := [0] }
  lenOk := fun d => decide (12 ≤ d.length) && decide (rd d 8 2 ≤ 336) && d.length == 12 + 12 * rd d 8 2
  own := protectSetOwn
  eff := protectSetEff

/-- PROTECT_SET (R55). -/
def execProtectSet (h : Hdr) (data : List Byte) (s : State) : Host.Outcome State Fault Refusal := ok (runCard protectSetCard h data s)

/-- R55: the waiting commands that the new table does not permit. -/
def State.purgeList (s : State) (es : List ProtEntry) : List TagRec :=
  (s.launchQ.filter fun l => !s.permits es l.tag.dom (l.tag.opc / 4096) false l.tag.tgt).map (·.tag)

/-- R53-R55: the first waiting change takes effect at a boundary: the generation rises by 1, PURGE aborts, event source
0x03, a ledger record (R391); the change goes on to MRAM. -/
def State.protectBoundary (s : State) : State :=
  match s.prot.waiting with
  | [] => s
  | c :: cs =>
    let es := c.on s.prot.entries
    let gen := wrapAdd 32 s.prot.gen 1
    let purge := if c.purge then s.purgeList es else []
    let c := { c with newGen := gen, effAt := s.time.now, purged := purge.length }
    let s1 := { s with
      prot := { entries := es, gen := gen, waiting := cs, storing := s.prot.storing ++ [(c, s.prot.entries, s.prot.gen)] }
      launchQ := s.launchQ.filter fun l => !purge.contains l.tag }
    let s2 := purge.foldl (fun s tr => s.abort tr 0xFF0A) s1
    (s2.fire 0x03 0 0 []).ledger 8 2 0 0 (zeros 4 ++ le 4 gen)

/-- R55: the new table is in MRAM: PROTECT_SET ends DONE. A failed write ends it with 0x0104 and takes the change out
of the table again (log 17). -/
def execProtectTableStored (t : Nat) (good : Bool) (s : State) : Host.Outcome State Fault Refusal :=
  let s := s.advance t
  match s.prot.storing with
  | [] => ok s
  | (c, es, _) :: rest =>
    let s1 := { s with prot := { s.prot with storing := rest } }
    if good then ok (s1.done c.tag (le 4 c.newGen ++ le 8 c.effAt ++ le 2 c.purged ++ zeros 2))
    else
      let s2 := { s1 with prot := { s1.prot with
        entries := rest.foldl (fun es (x : ProtChange × List ProtEntry × Nat) => x.1.on es) es, gen := (s1.prot.gen + 2 ^ 32 - 1) % 2 ^ 32 } }
      ok (s2.finish c.tag 3 0x0104 s2.time.now [])

/-- R53: PROTECT_GET's reply: GEN, TOTAL, COUNT and entries of one generation. -/
def protectGetReply (s : State) (_tr : TagRec) (d : List Byte) : List Byte :=
  let xs := (s.prot.entries.drop (rd d 0 2)).take 336
  le 4 s.prot.gen ++ le 2 s.prot.entries.length ++ le 2 xs.length ++ (xs.map ProtEntry.bytes).flatten

def protectGetCard : CardDef where
  k := { opc := 0x0102, role := 3, query := true, kinds := [0] }
  lenOk := lenIs 4
  eff := answer protectGetReply

/-- PROTECT_GET (R53). -/
def execProtectGet (h : Hdr) (data : List Byte) (s : State) : Host.Outcome State Fault Refusal := ok (runCard protectGetCard h data s)

/-! ## RING_ASSIGN (R56) -/

/-- OWNER of the payload: 0xFF is unowned. -/
def ownerField (x : Nat) : Option Nat := if x = 0xFF then none else some x

def quotaSum (rs : List Ring) (p q : Nat) : Nat := ((rs.set p { rs.getD p {} with quota := q }).map (·.quota)).sum

/-- R56: the checks of RING_ASSIGN. The command itself is not yet in flight here. -/
def ringAssignOwn (s : State) (_tr : TagRec) (d : List Byte) : Own :=
  let p := rd d 0 1
  firstOf [
    refuseIf (decide (15 < p) || (decide (7 < rd d 1 1) && rd d 1 1 != 0xFF) || decide (256 < rd d 2 2)) 0x0108,
    refuseIf (!(s.ring p).tags.isEmpty) 0x0105,
    refuseIf (decide (256 < quotaSum s.rings p (rd d 2 2))) 0x0106]

/-- R56: owner and quota; the reply; then a change of owner closes the session. -/
def ringAssignEff (tr : TagRec) (d : List Byte) (s : State) : State :=
  let p := rd d 0 1
  let o := ownerField (rd d 1 1)
  let change := decide ((s.ring p).owner ≠ o)
  let s1 := (s.modRing p fun r => { r with owner := o, quota := rd d 2 2 }).done tr []
  if change then s1.closeSession p true else s1

def ringAssignCard : CardDef where
  k := { opc := 0x0103, role := 3, query := false, kinds := [0] }
  lenOk := lenIs 4
  own := ringAssignOwn
  eff := ringAssignEff

/-- RING_ASSIGN (R56). -/
def execRingAssign (h : Hdr) (data : List Byte) (s : State) : Host.Outcome State Fault Refusal := ok (runCard ringAssignCard h data s)

/-! ## EVENT_ROUTE (R66) -/

/-- R66: the checks of EVENT_ROUTE: ranges, then the EQ's owner and its query rights in the source's class. -/
def eventRouteOwn (s : State) (_tr : TagRec) (d : List Byte) : Own :=
  firstOf [
    refuseIf (decide (15 < rd d 1 1) || (decide (31 < rd d 2 1) && rd d 2 1 != 0xFF) || decide (1000 < rd d 4 2)) 0x0109,
    refuseIf (match (s.ring (rd d 1 1)).owner with
      | none => true
      | some o => !s.permits s.prot.entries o (rd d 0 1 / 16) true 0) 0x0107]

/-- R66: move the source's record that is still held to the new EQ. -/
def State.reroute (src eq : Nat) (s : State) : State :=
  let mine := fun (x : Rec) => x.src == some src
  let moved := (s.rings.map fun r => r.held.filter mine).flatten
  let rs := s.rings.map fun r => { r with held := r.held.filter fun x => !mine x }
  let dom := ((s.ring eq).owner).getD 0
  { s with rings := rs.modify eq fun r => { r with held := r.held ++ moved.map fun x => { x with dom := dom } } }

/-- R66: the new route. MOD is the vector's interval (log 18). -/
def eventRouteEff (tr : TagRec) (d : List Byte) (s : State) : State :=
  let src := rd d 0 1
  let old := (s.ev.src.getD src {}).eq
  let s1 := { s with
    ev := { s.ev with src := s.ev.src.modify src fun e =>
      { e with enabled := bit (rd d 3 1) 7, eq := rd d 1 1, vec := rd d 2 1, balls := rd d 3 1 % 16, mod := rd d 4 2 } }
    msix := if rd d 2 1 < 32 then { s.msix with mod := s.msix.mod.set (rd d 2 1) (rd d 4 2) } else s.msix }
  (if old = rd d 1 1 then s1 else s1.reroute src (rd d 1 1)).done tr []

def eventRouteCard : CardDef where
  k := { opc := 0x0104, role := 3, query := false, kinds := [0] }
  lenOk := lenIs 8
  own := eventRouteOwn
  eff := eventRouteEff

/-- EVENT_ROUTE (R66). -/
def execEventRoute (h : Hdr) (data : List Byte) (s : State) : Host.Outcome State Fault Refusal := ok (runCard eventRouteCard h data s)

end Sys2Proof.Machine
end

