-- ==== Sys2Proof/Machine/Packet.lean ====
section
/-! DEFINITION. Packets as a transport delivers them: framing, authentication and the checks of R57, and the card that the
opcode names (R36-R39, R45-R48, R57, R471). -/

namespace Sys2Proof.Machine

/-! ## The cards of each chapter -/

def cardsAlloc : List CardDef :=
  [authReadCard, authCarCard, authCloseCard]

def cardsCalls : List CardDef :=
  [callSubmitCard, callCancelCard, callReadCard, carServiceCard, tripEvalCard]

def cardsCan : List CardDef :=
  [canStatusCard, canSendCard, canReadCard, canTakeCard, canPowerCard]

def cardsDoors : List CardDef :=
  [doorOpenCard, doorCloseCard, doorHomeCard, doorStatusCard]

def cardsEnable : List CardDef :=
  [learnStartCard, circuitEnableCard, circuitDisableCard, checkReportCard, reanchorCard]

def cardsEnergy : List CardDef :=
  [energyReadCard, supplyReadCard]

def cardsField : List CardDef :=
  [fieldStatusCard, fieldOutWriteCard, fieldOutAckCard]

def cardsLedger : List CardDef :=
  [ledgerSnapshotCard, ledgerReadCard, ledgerHeadCard, ledgerClearCard, journalReadCard]

def cardsLoop : List CardDef :=
  [loopStatusCard, bankLoadCard, bankSwapCard, injectStartCard, injectStopCard, captureArmCard, captureReadCard,
   loopAckCard]

def cardsMotion : List CardDef :=
  [moveToCard, moveStopCard, motionReadCard]

def cardsPair : List CardDef :=
  [pairStatusCard, pairProveCard]

def cardsPosition : List CardDef :=
  [positionReadCard]

def cardsProtect : List CardDef :=
  [protectSetCard, protectGetCard, ringAssignCard, eventRouteCard]

def cardsSafetyPath : List CardDef :=
  [safetyStatusCard, safetyResetCard, safetyTestCard]

def cardsSecurity : List CardDef :=
  [attestQuoteCard, identityReadCard, vaultStatusCard, provisionCard, keyUpdateCard, keyOpCard, sessionRekeyCard,
   sessionCloseCard]

def cardsStartup : List CardDef :=
  [sysResetCard, powerSetCard, startStatusCard, imageWriteCard, imageActivateCard, imageCommitCard]

def cardsStore : List CardDef :=
  [configWriteCard]

def cardsTimebase : List CardDef :=
  [timeStatusCard, timeConfigCard, timeSetCard, milestoneCancelCard]

def cardsTrunk : List CardDef :=
  [trunkEnumerateCard, trunkMapCard, trunkStatusCard, segmentReadCard, segmentServiceCard]

/-- Every card, by chapter. -/
def allCards : List CardDef :=
  cardsAlloc ++ cardsCalls ++ cardsCan ++ cardsDoors ++ cardsEnable ++ cardsEnergy ++
  cardsField ++ cardsLedger ++ cardsLoop ++ cardsMotion ++ cardsPair ++ cardsPosition ++
  cardsProtect ++ cardsSafetyPath ++ cardsSecurity ++ cardsStartup ++ cardsStore ++ cardsTimebase ++
  cardsTrunk

/-! ## Acceptance of a delivered packet (R57) -/

/-- The header of an opened packet, as a command's operands. -/
def packetHdr (pair t : Nat) (p : Packet) : Hdr := ⟨pair, p.flg, p.dom, p.tag, p.seq, p.tgt, p.launch, t⟩

/-- R57 steps 3-7 for an opcode that no card has: 0xFF05. -/
def State.acceptUnknown (tr : TagRec) (s : State) : State :=
  match s.admitRing tr with
  | some (notag, reason) => s.refusePacket tr notag reason
  | none => s.refusePacket tr false 0xFF05

/-- R47: the tag fails: nothing is done; event source 0x00 with reason 0xFF02, the pair and the received SEQ. -/
def State.authFailure (pair seq : Nat) (s : State) : State := s.fire 0x00 0 0xFF02 (le 1 pair ++ le 4 seq)

/-- R57 from step 2 on: a framed packet on a pair with a bound session. -/
def State.deliver1 (pair : Nat) (p : Packet) (s : State) : State :=
  match (s.ring pair).sess with
  | none => s
  | some se =>
    match openPacket se p with
    | none => s.authFailure pair p.seq
    | some data =>
      let h := packetHdr pair s.time.now p
      match allCards.find? fun d => d.k.opc == p.opc with
      | some d => s.receive d h data
      | none => s.heard p.opc h fun tr s => s.acceptUnknown tr

/-- R471: the delivered bytes agree with 32 + LEN + 16. -/
def framed (p : Packet) : Bool := decide (p.len ≤ 4048) && p.size == 48 + p.len && p.ct.length == p.len

/-- The pair's session is bound to this transport (R33, R48). -/
def State.boundTo (s : State) (pair : Nat) (tr : Transport) : Bool := (s.ring pair).sess.map (·.tr) == some tr

/-! ## The three transports -/

/-- ETHERNET_PACKET (R37, R38, R45): one datagram, one packet; a size that differs is discarded silently. -/
def execEthernetPacket (t pair : Nat) (pkt : Packet) (s : State) : Host.Outcome State Fault Refusal :=
  let s := s.advance t
  if !s.boundTo pair .ethernet then ok s
  else match s.arrival pair with
    | none => ok s
    | some s1 => if framed pkt then ok (s1.deliver1 pair pkt) else ok s1

/-- SQ_WRITE (R39, R471): one SPI transfer; a length that does not agree sets SPI_STAT[1]. -/
def execSqWrite (t pair : Nat) (pkt : Packet) (s : State) : Host.Outcome State Fault Refusal :=
  let s := (s.advance t).shiftOut []
  if !s.boundTo pair .spi then ok s
  else match s.arrival pair with
    | none => ok s
    | some s1 => if framed pkt then ok ((s1.setSpi false false).deliver1 pair pkt) else ok (s1.setSpi true false)

/-- R36, R471: the packets between SQ_CI and SQ_PI, in order: a header with LEN above 4,048 stops the pair, a packet whose
slots reach past SQ_PI waits, and SQ_CI moves past each packet that was checked. -/
def State.readSq (pair : Nat) : List Packet → State → State
  | [], s => s
  | p :: ps, s =>
    let r := s.ring pair
    if !r.en || !s.boundTo pair .pcie then s
    else if 4048 < p.len then s.ringError pair 4
    else if (r.sqPi + 2 ^ 32 - r.sqCi) % 2 ^ 32 < slotsOf p.len then s
    else
      let s1 := s.deliver1 pair p
      State.readSq pair ps (s1.modRing pair fun r => { r with sqCi := wrapAdd 32 r.sqCi (slotsOf p.len) }).flush

/-- SQ_PI (R34-R36): the doorbell. An index too far ahead is PIJUMP; a failed read or write of host memory stops the pair
after the packets that were read. -/
def execSqPi (t pair value : Nat) (pkts : List Packet) (rdErr wrErr : Bool) (s : State) : Host.Outcome State Fault Refusal :=
  let s := (s.advance t).modRing pair fun r => { r with sqPi := value % 2 ^ 32 }
  if !s.boundTo pair .pcie then ok s
  else match s.arrival pair with
    | none => ok s
    | some s1 =>
      let r := s1.ring pair
      if ringSlots r.sqSize < (r.sqPi + 2 ^ 32 - r.sqCi) % 2 ^ 32 then ok (s1.ringError pair 0)
      else
        let s2 := State.readSq pair pkts s1
        let s3 := if rdErr && r.en then s2.ringError pair 1 else s2
        ok (if wrErr && r.en then s3.ringError pair 2 else s3)

end Sys2Proof.Machine
end

