-- ==== Sys2Proof/Machine/Ticks.lean ====
section
/-! DEFINITION. What falls on a tick boundary and on a fast-tick boundary (R74), in the order the chapters give: time, changes
that wait for a boundary, positions, authority, plans, the control pass, forces, interlocks, doors, records, stores. -/

namespace Sys2Proof.Machine

/-! ## The boundaries (R74) -/

/-- The first boundary at or after `now`. -/
def boundaryFrom (ph per now : Nat) : Nat := if now = 0 then 0 else boundaryAfter ph per (now - 1)

/-- Milestone time reaches the tick boundary that is due; where another event has passed it, the next one (log 4). -/
def State.toTick (s : State) : State :=
  s.advance (if s.time.now ≤ s.time.nextTick then s.time.nextTick else boundaryFrom s.time.phase tickNs s.time.now)

/-- Milestone time reaches the fast-tick boundary that is due. -/
def State.toFast (s : State) : State :=
  s.advance (if s.time.now ≤ s.time.nextFast then s.time.nextFast else boundaryFrom s.time.phase 31250 s.time.now)

/-- The present instant is a tick boundary. -/
def State.onTick (s : State) : Bool := edgeAt s.time.phase (s.time.now / tickNs * tickNs) == s.time.now

/-- The boundaries that follow the present one; a step has changed the scale where it was applied (R74). -/
def State.nextBoundary (s : State) : State :=
  { s with time := { s.time with nextTick := boundaryAfter s.time.phase tickNs s.time.now }
           boot := { s.boot with ticks := if 3 ≤ s.boot.stage then wrapAdd 32 s.boot.ticks 1 else s.boot.ticks } }

/-- R68: while LOCKED, Milestone time is copied into the vault's coarse clock once a second. -/
def State.copyCoarse (s : State) : State :=
  if s.time.tb = .locked ∧ s.time.lastCopy + 1000000000 ≤ s.time.now then
    { s with time := { s.time with lastCopy := s.time.now }, vault := { s.vault with coarse := some s.time.now } }
  else s

/-! ## The parts of a tick -/

/-- R140: an axis with a step input follows it. -/
def State.stepInputs (s : State) : State :=
  s.axisNums.foldl (fun s a => s.modAxis a fun x =>
    { x with plan := { x.plan with stepIn := (s.recs Cfg.StepIn.sec).any fun r => Cfg.StepIn.AXIS r == a && Cfg.StepIn.SRCK r != 0 } }) s

/-- What waits for a boundary: a power state, CIRCUIT_DISABLE, a proving swap, a take. -/
def State.pendingTick (s : State) : State := s.protectBoundary.powerTick.disableStep.proveStep.takePass

/-- LANE, an active unit: trunks, positions, searches, coverage (R102, R160-R162, R111, R412, R110). -/
def State.sensePart (s : State) : State :=
  let s1 := s.classify.fusion.searchStep.coverage
  (s1.carNums.foldl (fun s c => s.inspStep c) s1).learnStep

/-- LANE, an active unit: the allocator, the dispatcher, LAND, the sag retarget, the planner (R209, R227, R279, R339, R117). -/
def State.planPart (s : State) : State := s.allocate.dispatch.landStep.sagStep.planning

/-- The control pass of a tick boundary and the obstruction watch with it (R180, R244), then the forces (R156). -/
def State.controlPart (s : State) : State := ((s.controlPass true).obstructPass true).distribute

/-- LANE, an active unit: what follows the plans: faults, lock points, loads, permits, the age of the car reports. -/
def State.carPart (s : State) : State :=
  let s1 := s.watchCars.lockCheck
  let s2 := (s1.carNums.foldl (fun s c => s.loadStep c) s1).permitPass
  { s2 with cars := s2.cars.map fun x => { x with repGap := x.repGap + 1 } }

/-- An active unit in RUN or IDLE. -/
def State.serviceTick (adc : List Int) (s : State) : State :=
  let s1 := if s.boot.role = .lane then s.sensePart.planPart else s.stepInputs
  let s2 := s1.controlPart.armTick
  let s3 := if s2.boot.role = .lane then s2.carPart else s2
  let s4 := s3.latchTick
  let s5 := if s4.boot.role = .car then s4.doorTick.makeReport else s4
  s5.reportReleases.periodicStep.meterTick adc

/-- A standby, or a unit in SLEEP: its own inputs, latch and tests. -/
def State.quietTick (s : State) : State := s.armTick.latchTick.reportReleases.periodicStep

/-- What every unit does after its service: images, the ledger, the battery, IDLE, a late start. -/
def State.storeTick (s : State) : State := s.pairTick.epochStart.ledgerCommit.batteryTick.idleTick.lateTick

/-- TICK (R74): the tick boundary that is due. Nothing counts in stage 0 (R403); the functions run from stage 3. -/
def execTick (adc : List Int) (s : State) : Host.Outcome State Fault Refusal :=
  if s.boot.stage = 0 then ok s
  else
    let s1 := s.toTick.timeBoundary.nextBoundary
    if s1.boot.stage < 3 then ok s1
    else
      let s2 := s1.copyCoarse.pendingTick
      if s2.boot.stage = 0 then ok s2
      else if s2.power.mode = .sleep then ok s2.quietTick
      else
        let s3 := if s2.standby then s2.quietTick else s2.serviceTick adc
        ok s3.storeTick

/-! ## The fast tick -/

/-- R297: DRIVE = 1 only while the unit holds the Pennant line or is unpaired, and not after an orderly shutdown (R425). -/
def State.driveBit (s : State) : Bool := (s.pair.pntOut || s.pair.st == .unpaired) && !s.power.shutDown

/-- R297, R298: a keep-alive to each die whose link stands. -/
def State.keepAlives (s : State) : State :=
  [0, 1].foldl (fun s k => if (s.field.die.getD k {}).linkDown then s else s.keepAlive k s.driveBit) s

/-- R345, R352: the hold of the Pennant line is refreshed, HB_OUT toggles. -/
def State.pairLines (s : State) : State :=
  s.modPr fun x => { x with refresh := if x.pntOut then s.time.now else x.refresh, hbOut := !x.hbOut }

/-- R109: the limit comparator over every car. -/
def State.limitPass (s : State) : State :=
  if s.boot.role ≠ .lane ∨ s.standby then s else s.carNums.foldl (fun s c => s.compare c) s

/-- R171: fast-tick boundaries since the last valid hold message. -/
def State.countLapse (s : State) : State :=
  if s.boot.role = .car then { s with crole := { s.crole with lapse := s.crole.lapse + 1 } } else s

/-- R180: the pass of a fast tick that is no tick boundary. -/
def State.fastPass (s : State) : State :=
  if s.onTick || s.standby || s.power.mode == .sleep then s else (s.controlPass false).obstructPass false

/-- FAST_TICK (R74, R109): the fast-tick boundary that is due. -/
def execFastTick (s : State) : Host.Outcome State Fault Refusal :=
  if s.boot.stage = 0 then ok s
  else
    let s1 := s.toFast
    let s2 : State := { s1 with time := { s1.time with nextFast := boundaryAfter s1.time.phase 31250 s1.time.now } }
    if s2.boot.stage < 3 then ok s2
    else ok s2.safetyFast.tamperFast.limitPass.fastPass.holdPass.keepAlives.pairLines.fieldEvents.countLapse

end Sys2Proof.Machine
end

