-- ==== Sys2Proof/Machine/Dispatch.lean ====
section
/-! DEFINITION. One arm per command: the direct call of its meaning. -/

namespace Sys2Proof.Machine

/-- A command's effect on everything but the queue. -/
def exec (i : Instr) (s : State) : Host.Outcome State Fault Refusal :=
  match i with
  | .protectSet h data => Sys2Proof.Machine.execProtectSet h data s
  | .protectGet h data => Sys2Proof.Machine.execProtectGet h data s
  | .ringAssign h data => Sys2Proof.Machine.execRingAssign h data s
  | .eventRoute h data => Sys2Proof.Machine.execEventRoute h data s
  | .circuitEnable h data => Sys2Proof.Machine.execCircuitEnable h data s
  | .circuitDisable h data => Sys2Proof.Machine.execCircuitDisable h data s
  | .checkReport h data => Sys2Proof.Machine.execCheckReport h data s
  | .timeStatus h data => Sys2Proof.Machine.execTimeStatus h data s
  | .timeConfig h data => Sys2Proof.Machine.execTimeConfig h data s
  | .timeSet h data => Sys2Proof.Machine.execTimeSet h data s
  | .milestoneCancel h data => Sys2Proof.Machine.execMilestoneCancel h data s
  | .configWrite h data => Sys2Proof.Machine.execConfigWrite h data s
  | .positionRead h data => Sys2Proof.Machine.execPositionRead h data s
  | .learnStart h data => Sys2Proof.Machine.execLearnStart h data s
  | .reanchor h data => Sys2Proof.Machine.execReanchor h data s
  | .moveTo h data => Sys2Proof.Machine.execMoveTo h data s
  | .moveStop h data => Sys2Proof.Machine.execMoveStop h data s
  | .motionRead h data => Sys2Proof.Machine.execMotionRead h data s
  | .trunkEnumerate h data => Sys2Proof.Machine.execTrunkEnumerate h data s
  | .trunkMap h data => Sys2Proof.Machine.execTrunkMap h data s
  | .trunkStatus h data => Sys2Proof.Machine.execTrunkStatus h data s
  | .segmentRead h data => Sys2Proof.Machine.execSegmentRead h data s
  | .segmentService h data => Sys2Proof.Machine.execSegmentService h data s
  | .loopStatus h data => Sys2Proof.Machine.execLoopStatus h data s
  | .bankLoad h data => Sys2Proof.Machine.execBankLoad h data s
  | .bankSwap h data => Sys2Proof.Machine.execBankSwap h data s
  | .injectStart h data => Sys2Proof.Machine.execInjectStart h data s
  | .injectStop h data => Sys2Proof.Machine.execInjectStop h data s
  | .captureArm h data => Sys2Proof.Machine.execCaptureArm h data s
  | .captureRead h data => Sys2Proof.Machine.execCaptureRead h data s
  | .loopAck h data => Sys2Proof.Machine.execLoopAck h data s
  | .authRead h data => Sys2Proof.Machine.execAuthRead h data s
  | .authCar h data => Sys2Proof.Machine.execAuthCar h data s
  | .authClose h data => Sys2Proof.Machine.execAuthClose h data s
  | .callSubmit h data => Sys2Proof.Machine.execCallSubmit h data s
  | .callCancel h data => Sys2Proof.Machine.execCallCancel h data s
  | .callRead h data => Sys2Proof.Machine.execCallRead h data s
  | .carService h data => Sys2Proof.Machine.execCarService h data s
  | .tripEval h data => Sys2Proof.Machine.execTripEval h data s
  | .doorOpen h data => Sys2Proof.Machine.execDoorOpen h data s
  | .doorClose h data => Sys2Proof.Machine.execDoorClose h data s
  | .doorHome h data => Sys2Proof.Machine.execDoorHome h data s
  | .doorStatus h data => Sys2Proof.Machine.execDoorStatus h data s
  | .safetyStatus h data => Sys2Proof.Machine.execSafetyStatus h data s
  | .safetyReset h data => Sys2Proof.Machine.execSafetyReset h data s
  | .safetyTest h data => Sys2Proof.Machine.execSafetyTest h data s
  | .fieldStatus h data => Sys2Proof.Machine.execFieldStatus h data s
  | .fieldOutWrite h data => Sys2Proof.Machine.execFieldOutWrite h data s
  | .fieldOutAck h data => Sys2Proof.Machine.execFieldOutAck h data s
  | .canStatus h data => Sys2Proof.Machine.execCanStatus h data s
  | .canSend h data => Sys2Proof.Machine.execCanSend h data s
  | .canRead h data => Sys2Proof.Machine.execCanRead h data s
  | .canTake h data => Sys2Proof.Machine.execCanTake h data s
  | .canPower h data => Sys2Proof.Machine.execCanPower h data s
  | .energyRead h data => Sys2Proof.Machine.execEnergyRead h data s
  | .supplyRead h data => Sys2Proof.Machine.execSupplyRead h data s
  | .pairStatus h data => Sys2Proof.Machine.execPairStatus h data s
  | .pairProve h data => Sys2Proof.Machine.execPairProve h data s
  | .attestQuote h data => Sys2Proof.Machine.execAttestQuote h data s
  | .identityRead h data => Sys2Proof.Machine.execIdentityRead h data s
  | .vaultStatus h data => Sys2Proof.Machine.execVaultStatus h data s
  | .provision h data => Sys2Proof.Machine.execProvision h data s
  | .keyUpdate h data => Sys2Proof.Machine.execKeyUpdate h data s
  | .keyOp h data => Sys2Proof.Machine.execKeyOp h data s
  | .sessionRekey h data => Sys2Proof.Machine.execSessionRekey h data s
  | .sessionClose h data => Sys2Proof.Machine.execSessionClose h data s
  | .ledgerSnapshot h data => Sys2Proof.Machine.execLedgerSnapshot h data s
  | .ledgerRead h data => Sys2Proof.Machine.execLedgerRead h data s
  | .ledgerHead h data => Sys2Proof.Machine.execLedgerHead h data s
  | .ledgerClear h data => Sys2Proof.Machine.execLedgerClear h data s
  | .journalRead h data => Sys2Proof.Machine.execJournalRead h data s
  | .sysReset h data => Sys2Proof.Machine.execSysReset h data s
  | .powerSet h data => Sys2Proof.Machine.execPowerSet h data s
  | .startStatus h data => Sys2Proof.Machine.execStartStatus h data s
  | .imageWrite h data => Sys2Proof.Machine.execImageWrite h data s
  | .imageActivate h data => Sys2Proof.Machine.execImageActivate h data s
  | .imageCommit h data => Sys2Proof.Machine.execImageCommit h data s
  | .sqPi t pair value pkts rdErr wrErr => Sys2Proof.Machine.execSqPi t pair value pkts rdErr wrErr s
  | .eqCi t pair value => Sys2Proof.Machine.execEqCi t pair value s
  | .ringCfg t pair value => Sys2Proof.Machine.execRingCfg t pair value s
  | .ringErr t pair value => Sys2Proof.Machine.execRingErr t pair value s
  | .bootFault t value => Sys2Proof.Machine.execBootFault t value s
  | .registerWrite t offset value => Sys2Proof.Machine.execRegisterWrite t offset value s
  | .windowRead t offset => Sys2Proof.Machine.execWindowRead t offset s
  | .sqWrite t pair pkt => Sys2Proof.Machine.execSqWrite t pair pkt s
  | .eqRead t pair nbytes => Sys2Proof.Machine.execEqRead t pair nbytes s
  | .ethernetPacket t pair pkt => Sys2Proof.Machine.execEthernetPacket t pair pkt s
  | .hello t tr msg => Sys2Proof.Machine.execHello t tr msg s
  | .finish t pair hsid tr sigE sigQ mac => Sys2Proof.Machine.execFinish t pair hsid tr sigE sigQ mac s
  | .handshakeTimeout t pair => Sys2Proof.Machine.execHandshakeTimeout t pair s
  | .handshakeFragmentRead t pair => Sys2Proof.Machine.execHandshakeFragmentRead t pair s
  | .imageRecoveryWrite t offset data => Sys2Proof.Machine.execImageRecoveryWrite t offset data s
  | .eqHeldFull t pair => Sys2Proof.Machine.execEqHeldFull t pair s
  | .tick adc => Sys2Proof.Machine.execTick adc s
  | .fastTick => Sys2Proof.Machine.execFastTick s
  | .protectTableStored t ok => Sys2Proof.Machine.execProtectTableStored t ok s
  | .frameStart => Sys2Proof.Machine.execFrameStart s
  | .trunkFrameReceived t fr => Sys2Proof.Machine.execTrunkFrameReceived t fr s
  | .launch => Sys2Proof.Machine.execLaunch s
  | .deviceMilestone => Sys2Proof.Machine.execDeviceMilestone s
  | .brkliftTimeout t car => Sys2Proof.Machine.execBrkliftTimeout t car s
  | .brkengTimeout t car => Sys2Proof.Machine.execBrkengTimeout t car s
  | .carReport t car rep => Sys2Proof.Machine.execCarReport t car rep s
  | .carReportTimeout t car => Sys2Proof.Machine.execCarReportTimeout t car s
  | .tapeLost t car => Sys2Proof.Machine.execTapeLost t car s
  | .sourceDisagreeing t car src => Sys2Proof.Machine.execSourceDisagreeing t car src s
  | .holdMessage t msg => Sys2Proof.Machine.execHoldMessage t msg s
  | .holdtoLapse t => Sys2Proof.Machine.execHoldtoLapse t s
  | .permitRecord t rec => Sys2Proof.Machine.execPermitRecord t rec s
  | .doorRequestRecord t rec => Sys2Proof.Machine.execDoorRequestRecord t rec s
  | .permitTimeout t door => Sys2Proof.Machine.execPermitTimeout t door s
  | .redwellExpiry t door => Sys2Proof.Machine.execRedwellExpiry t door s
  | .reopwaitTimeout t door => Sys2Proof.Machine.execReopwaitTimeout t door s
  | .lcholdExpiry t door => Sys2Proof.Machine.execLcholdExpiry t door s
  | .dwellExpiry t door => Sys2Proof.Machine.execDwellExpiry t door s
  | .stepLoss t axis => Sys2Proof.Machine.execStepLoss t axis s
  | .regulationFailure t axis => Sys2Proof.Machine.execRegulationFailure t axis s
  | .chopperExit t axis => Sys2Proof.Machine.execChopperExit t axis s
  | .cltimeTimeout t door => Sys2Proof.Machine.execCltimeTimeout t door s
  | .homingTravelFault t axis => Sys2Proof.Machine.execHomingTravelFault t axis s
  | .stepInputOverrun t axis => Sys2Proof.Machine.execStepInputOverrun t axis s
  | .saturationTrip t ch => Sys2Proof.Machine.execSaturationTrip t ch s
  | .plausibilityTrip t ch => Sys2Proof.Machine.execPlausibilityTrip t ch s
  | .injectionEnd t ch => Sys2Proof.Machine.execInjectionEnd t ch s
  | .captureComplete t buf => Sys2Proof.Machine.execCaptureComplete t buf s
  | .agingReached t car => Sys2Proof.Machine.execAgingReached t car s
  | .booksRebuild t => Sys2Proof.Machine.execBooksRebuild t s
  | .waitmaxExpiry t car => Sys2Proof.Machine.execWaitmaxExpiry t car s
  | .learnRunEnd t => Sys2Proof.Machine.execLearnRunEnd t s
  | .enumerationEnd t walks => Sys2Proof.Machine.execEnumerationEnd t walks s
  | .terminalCall t call => Sys2Proof.Machine.execTerminalCall t call s
  | .callDeadline t id => Sys2Proof.Machine.execCallDeadline t id s
  | .reeval t => Sys2Proof.Machine.execReeval t s
  | .callidRelease t id => Sys2Proof.Machine.execCallidRelease t id s
  | .safetyInputDemand t si width => Sys2Proof.Machine.execSafetyInputDemand t si width s
  | .discrepancy t pair => Sys2Proof.Machine.execDiscrepancy t pair s
  | .lockstepMismatch t => Sys2Proof.Machine.execLockstepMismatch t s
  | .watchdogExpiry t => Sys2Proof.Machine.execWatchdogExpiry t s
  | .clockFault t => Sys2Proof.Machine.execClockFault t s
  | .uncorrectableError t region word => Sys2Proof.Machine.execUncorrectableError t region word s
  | .dieLinkLoss t die => Sys2Proof.Machine.execDieLinkLoss t die s
  | .tripIn t => Sys2Proof.Machine.execTripIn t s
  | .periodicTest t => Sys2Proof.Machine.execPeriodicTest t s
  | .selfTestEnd t failA failB => Sys2Proof.Machine.execSelfTestEnd t failA failB s
  | .soReadbackFault t so => Sys2Proof.Machine.execSoReadbackFault t so s
  | .fieldInputTransition t fi level => Sys2Proof.Machine.execFieldInputTransition t fi level s
  | .supplyGroupDrop t grp mv10 => Sys2Proof.Machine.execSupplyGroupDrop t grp mv10 s
  | .supplyGroupRestore t grp mv10 => Sys2Proof.Machine.execSupplyGroupRestore t grp mv10 s
  | .readbackFault t fq => Sys2Proof.Machine.execReadbackFault t fq s
  | .thermalLatch t fq => Sys2Proof.Machine.execThermalLatch t fq s
  | .keepAlive t die drive => Sys2Proof.Machine.execKeepAlive t die drive s
  | .watchdogRelease t die => Sys2Proof.Machine.execWatchdogRelease t die s
  | .canFrameReceived t ch fr => Sys2Proof.Machine.execCanFrameReceived t ch fr s
  | .backoffExpiry t ch id => Sys2Proof.Machine.execBackoffExpiry t ch id s
  | .canTransmitDone t ch sof tries => Sys2Proof.Machine.execCanTransmitDone t ch sof tries s
  | .canExpire t ch id => Sys2Proof.Machine.execCanExpire t ch id s
  | .busOff t ch => Sys2Proof.Machine.execBusOff t ch s
  | .busOffRecovery t ch => Sys2Proof.Machine.execBusOffRecovery t ch s
  | .verifytExpiry t ch => Sys2Proof.Machine.execVerifytExpiry t ch s
  | .detwaitExpiry t ch => Sys2Proof.Machine.execDetwaitExpiry t ch s
  | .rateMismatch t ch detbit => Sys2Proof.Machine.execRateMismatch t ch detbit s
  | .sleepEntry t ch => Sys2Proof.Machine.execSleepEntry t ch s
  | .canWake t ch fr => Sys2Proof.Machine.execCanWake t ch fr s
  | .referenceDue t ch => Sys2Proof.Machine.execReferenceDue t ch s
  | .ptpSync t offset pathDly freq => Sys2Proof.Machine.execPtpSync t offset pathDly freq s
  | .syncLoss t => Sys2Proof.Machine.execSyncLoss t s
  | .holdoverLimit t => Sys2Proof.Machine.execHoldoverLimit t s
  | .cycleEnd t => Sys2Proof.Machine.execCycleEnd t s
  | .halfCycle t => Sys2Proof.Machine.execHalfCycle t s
  | .sagholdExpiry t => Sys2Proof.Machine.execSagholdExpiry t s
  | .brownOutWarning t => Sys2Proof.Machine.execBrownOutWarning t s
  | .pulseOutput t ep => Sys2Proof.Machine.execPulseOutput t ep s
  | .meterPulse t mp => Sys2Proof.Machine.execMeterPulse t mp s
  | .cmpwinExpiry t mp => Sys2Proof.Machine.execCmpwinExpiry t mp s
  | .pairImage t img => Sys2Proof.Machine.execPairImage t img s
  | .heartbeatLoss t => Sys2Proof.Machine.execHeartbeatLoss t s
  | .pairLinkLoss t => Sys2Proof.Machine.execPairLinkLoss t s
  | .syncComplete t => Sys2Proof.Machine.execSyncComplete t s
  | .pennantHoldExpiry t => Sys2Proof.Machine.execPennantHoldExpiry t s
  | .pennantClaim t => Sys2Proof.Machine.execPennantClaim t s
  | .pennantLineFault t => Sys2Proof.Machine.execPennantLineFault t s
  | .hotTake t => Sys2Proof.Machine.execHotTake t s
  | .coldTake t => Sys2Proof.Machine.execColdTake t s
  | .proveTakeTimeout t => Sys2Proof.Machine.execProveTakeTimeout t s
  | .provewarnReached t => Sys2Proof.Machine.execProvewarnReached t s
  | .tamperDetected t sensor => Sys2Proof.Machine.execTamperDetected t sensor s
  | .batteryLoss t => Sys2Proof.Machine.execBatteryLoss t s
  | .powerGood t => Sys2Proof.Machine.execPowerGood t s
  | .rstN t low => Sys2Proof.Machine.execRstN t low s
  | .resetRelease t straps => Sys2Proof.Machine.execResetRelease t straps s
  | .supplyOutOfRange t => Sys2Proof.Machine.execSupplyOutOfRange t s
  | .perstN t => Sys2Proof.Machine.execPerstN t s
  | .vaultCheckComplete t res => Sys2Proof.Machine.execVaultCheckComplete t res s
  | .imageChosen t res => Sys2Proof.Machine.execImageChosen t res s
  | .stage3Complete t walks => Sys2Proof.Machine.execStage3Complete t walks s
  | .stage5Entry t => Sys2Proof.Machine.execStage5Entry t s
  | .stage5Ready t => Sys2Proof.Machine.execStage5Ready t s
  | .deadlinePassed t => Sys2Proof.Machine.execDeadlinePassed t s
  | .commandedReset t => Sys2Proof.Machine.execCommandedReset t s
  | .idleEntry t => Sys2Proof.Machine.execIdleEntry t s
  | .wake t src => Sys2Proof.Machine.execWake t src s
  | .enableCheckComplete t => Sys2Proof.Machine.execEnableCheckComplete t s
  | .pwmPeriod t currents => Sys2Proof.Machine.execPwmPeriod t currents s
  | .configStoreWritten t ok => Sys2Proof.Machine.execConfigStoreWritten t ok s
  | .keyOpComplete t => Sys2Proof.Machine.execKeyOpComplete t s
  | .tripEvalComplete t => Sys2Proof.Machine.execTripEvalComplete t s
  | .tripEvalTimeout t => Sys2Proof.Machine.execTripEvalTimeout t s
  | .safetyResetTimeout t => Sys2Proof.Machine.execSafetyResetTimeout t s
  | .msixModerationExpiry t vec => Sys2Proof.Machine.execMsixModerationExpiry t vec s
  | .canBusError t ch err => Sys2Proof.Machine.execCanBusError t ch err s
  | .ptpAnnounce t ann => Sys2Proof.Machine.execPtpAnnounce t ann s
  | .clockFaultClear t => Sys2Proof.Machine.execClockFaultClear t s
  | .dieLinkRestore t die => Sys2Proof.Machine.execDieLinkRestore t die s
  | .safetyInputPermit t si => Sys2Proof.Machine.execSafetyInputPermit t si s
  | .tripInRelease t => Sys2Proof.Machine.execTripInRelease t s
  | .heartbeatRestore t => Sys2Proof.Machine.execHeartbeatRestore t s
  | .pairImageAck t st cfgOk fwOk => Sys2Proof.Machine.execPairImageAck t st cfgOk fwOk s
  | .pntInRise t => Sys2Proof.Machine.execPntInRise t s
  | .handshakeReply t msg => Sys2Proof.Machine.execHandshakeReply t msg s
  | .powerLoss t => Sys2Proof.Machine.execPowerLoss t s
  | .staletExpiry t ch idx => Sys2Proof.Machine.execStaletExpiry t ch idx s
  | .trngHealthFailure t => Sys2Proof.Machine.execTrngHealthFailure t s

end Sys2Proof.Machine
end

