-- ==== Sys2Proof/Machine/Idle.lean ====
section
/-! DEFINITION. What the block does with an empty queue: one edge of the 250 MHz timebase clock (R67, R137). -/

namespace Sys2Proof.Machine

/-- R67: one edge adds 4 ns corrected by the frequency adjustment, in units of 2^-32 ns. -/
def edgeStep (freqAdj : Int) : Nat := (4 * 2 ^ 32 + 4 * 2 ^ 32 * freqAdj / 10 ^ 12).toNat

/-- One timebase edge. Nothing counts in stage 0 (R403, log 3). -/
def idleEdge (s : State) : State :=
  if s.boot.stage = 0 then s
  else
    let f := s.time.frac + edgeStep s.time.freqAdj
    let s1 := s.advance (s.time.now + f / 2 ^ 32)
    { s1 with time := { s1.time with frac := f % 2 ^ 32 } }

end Sys2Proof.Machine
end

