-- ==== Sys2Proof/Safety.lean ====
section
/-! DEFINITION. The terms in which statements about the block are written: a safe run, what the device holds beside the
traffic of its rings, the reply a packet gets, the conditions of R57 under which a packet is accepted, and the invariants
of the rings and of the image memories. -/

namespace Sys2Proof.Safety

open Sys2Proof.Machine

/-- A step goes on: it neither faults nor refuses. -/
def GoesOn (s : State) : Prop := ∃ s', step s = .next s'

/-! ## What the device holds beside the traffic of its rings -/

/-- A ring without what replies and records move: its bases, sizes, enable, owner, quota, host indices and errors. -/
def ringSettings (r : Ring) : Ring :=
  { sqBase := r.sqBase, eqBase := r.eqBase, sqSize := r.sqSize, eqSize := r.eqSize, en := r.en, owner := r.owner
    quota := r.quota, sqPi := r.sqPi, sqCi := r.sqCi, eqCi := r.eqCi, err := r.err }

/-- The state without what replying and telling events move: records, sequence numbers and tags of the rings, the flags of
the event sources and the time of the last authentication event, pending and sent MSI-X signals, the ledger's staging queue
and its count of dropped records. Two states with the same `device` agree on every other register. -/
def device (s : State) : State :=
  { s with
    rings := s.rings.map ringSettings
    ev := { src := s.ev.src.map fun e => { e with flag := false } }
    msix := { s.msix with pba := [], last := [], modPend := [], signals := [] }
    led := { s.led with staged := [], dropped := 0, dropNew := 0, dropFirst := 0, dropLast := 0 } }

/-! ## Packets -/

/-- R57: the conditions under which the packet of a card is accepted, in the order of its steps. `u` is the state at the
instant of arrival, `se` the session of the ring pair. -/
structure Admits (k : Card) (lenOk : Bool) (u : State) (h : Hdr) (se : Session) : Prop where
  /-- R419: a sleeping device hears nothing on a port that does not wake it; this packet comes to one that is awake. -/
  awake : u.power.mode ≠ .sleep
  /-- R423: no sleep entry waits that the packet would abort. -/
  noEntry : ∀ tr, u.power.pend ≠ some (1, tr)
  /-- R33: the pair has a session. -/
  sess : (u.ring h.pair).sess = some se
  /-- R35: over PCIe the pair is enabled. -/
  reads : se.tr = .pcie → (u.ring h.pair).en = true
  /-- R48: near the end of its SEQ space the pair carries only SESSION_REKEY and SESSION_CLOSE. -/
  limit : (u.ring h.pair).rekeyOnly = true → rekeyOpc k.opc = true
  /-- R48: no reply waits whose placing ends the epoch. -/
  epoch : ∀ x ∈ (u.ring h.pair).held, x.rekeys = false
  /-- R45: the next SEQ. -/
  seq : h.seq = (u.ring h.pair).rxSeq
  /-- R49, R375: the sender owns the pair. -/
  owner : (u.ring h.pair).ownerFor se = some h.dom
  dom : se.dom = h.dom
  /-- R43, R44: the tag is in range and free, and the pair has credit. -/
  tag : h.tag ≤ 0xFF
  free : ∀ x ∈ (u.ring h.pair).tags, x.tag ≠ h.tag
  credit : (u.ring h.pair).tags.length < (u.ring h.pair).quota
  /-- R57: the card is known in the device's role. -/
  role : (u.boot.role = .lane ∧ bit k.role 0 = true) ∨ (u.boot.role = .car ∧ bit k.role 1 = true)
  len : lenOk = true
  /-- R16, R17: the target exists in this role, is defined, and is of a kind that the card addresses. -/
  kind : kindInRole u.boot.role (tgtKind h.tgt) = true
  node : u.defines h.tgt = true
  addressed : k.addresses u.boot.role (tgtKind h.tgt) = true
  /-- R50: the stage admits the class and the domain. -/
  stage : stageAdmits u.boot.stage h.dom k.cls se.prov = true
  /-- R425: no orderly shutdown. -/
  up : u.power.shutDown = false
  /-- R375: a provisional session accepts only its cards. -/
  prov : se.prov = true → u.provAdmits k = true
  /-- R351: a standby accepts queries, and controls of classes 0x0 and 0xB to 0xE. -/
  pair : u.standby = false ∨ k.query = true ∨ [0x0, 0xB, 0xC, 0xD, 0xE].contains k.cls = true
  /-- R21: the domain has the right. -/
  rights : u.rightsOk k (hdrTag h k.opc u.time.now 0) se.prov = true
  /-- R58: the circuit is enabled where the card asks for it. -/
  enabled : k.enabled = true → u.boot.stage = 6

/-- R57 to its step 3: the device is awake, and the packet is the next of a ring pair that has a session and is read. -/
structure Hears (k : Card) (u : State) (h : Hdr) (se : Session) : Prop where
  /-- R419. -/
  awake : u.power.mode ≠ .sleep
  /-- R423. -/
  noEntry : ∀ tr, u.power.pend ≠ some (1, tr)
  /-- R33. -/
  sess : (u.ring h.pair).sess = some se
  /-- R35. -/
  reads : se.tr = .pcie → (u.ring h.pair).en = true
  /-- R48. -/
  limit : (u.ring h.pair).rekeyOnly = true → rekeyOpc k.opc = true
  epoch : ∀ x ∈ (u.ring h.pair).held, x.rekeys = false
  /-- R45. -/
  seq : h.seq = (u.ring h.pair).rxSeq

/-- R57, steps 4 to 13 in their order: whether the packet passes the check, whether a refusal by it carries NOTAG (R44), and
the reason of that refusal. -/
def packetChecks (k : Card) (lenOk : Bool) (u : State) (h : Hdr) (se : Session) : List (Bool × Bool × Nat) := [
  ((u.ring h.pair).ownerFor se == some h.dom && se.dom == h.dom, false, 0xFF01),
  (decide (h.tag ≤ 0xFF), true, 0xFF07),
  ((u.ring h.pair).tags.all fun x => x.tag != h.tag, true, 0xFF08),
  (decide ((u.ring h.pair).tags.length < (u.ring h.pair).quota), true, 0xFF04),
  ((u.boot.role == .lane && bit k.role 0) || (u.boot.role == .car && bit k.role 1), false, 0xFF06),
  (lenOk, false, 0xFF07),
  (kindInRole u.boot.role (tgtKind h.tgt), false, 0x0011),
  (u.defines h.tgt, false, 0x0012),
  (k.addresses u.boot.role (tgtKind h.tgt), false, 0x0011),
  (stageAdmits u.boot.stage h.dom k.cls se.prov, false, 0x0014),
  (!u.power.shutDown, false, 0x0111),
  (!se.prov || u.provAdmits k, false, 0xC011),
  (!u.standby || k.query || [0x0, 0xB, 0xC, 0xD, 0xE].contains k.cls, false, 0xB011),
  (u.rightsOk k (hdrTag h k.opc u.time.now 0) se.prov, false, 0xFF01),
  (!k.enabled || u.boot.stage == 6, false, 0xFF09)]

/-- The tag record of an immediate command (R43, R54). -/
def tagOf (opc : Nat) (h : Hdr) (s : State) : TagRec := hdrTag h opc (s.advance h.t).time.now 0

/-- The state in which a card's own checks run: time has come to the packet's instant and its SEQ is taken (R45). -/
def taking (h : Hdr) (s : State) : State := (s.advance h.t).modRing h.pair (Ring.takeSeq h.seq)

/-- The state in which a card's effect runs: its tag is in flight (R43). -/
def begun (opc : Nat) (h : Hdr) (s : State) : State := (taking h s).addTag (tagOf opc h s)

/-- The card, header and payload of a card row; nothing for the rows of registers, transports and events. -/
def cardOf (i : Instr) : Option (CardDef × Hdr × List Byte) :=
  match i with
  | .protectSet h data => some (protectSetCard, h, data)
  | .protectGet h data => some (protectGetCard, h, data)
  | .ringAssign h data => some (ringAssignCard, h, data)
  | .eventRoute h data => some (eventRouteCard, h, data)
  | .circuitEnable h data => some (circuitEnableCard, h, data)
  | .circuitDisable h data => some (circuitDisableCard, h, data)
  | .checkReport h data => some (checkReportCard, h, data)
  | .timeStatus h data => some (timeStatusCard, h, data)
  | .timeConfig h data => some (timeConfigCard, h, data)
  | .timeSet h data => some (timeSetCard, h, data)
  | .milestoneCancel h data => some (milestoneCancelCard, h, data)
  | .configWrite h data => some (configWriteCard, h, data)
  | .positionRead h data => some (positionReadCard, h, data)
  | .learnStart h data => some (learnStartCard, h, data)
  | .reanchor h data => some (reanchorCard, h, data)
  | .moveTo h data => some (moveToCard, h, data)
  | .moveStop h data => some (moveStopCard, h, data)
  | .motionRead h data => some (motionReadCard, h, data)
  | .trunkEnumerate h data => some (trunkEnumerateCard, h, data)
  | .trunkMap h data => some (trunkMapCard, h, data)
  | .trunkStatus h data => some (trunkStatusCard, h, data)
  | .segmentRead h data => some (segmentReadCard, h, data)
  | .segmentService h data => some (segmentServiceCard, h, data)
  | .loopStatus h data => some (loopStatusCard, h, data)
  | .bankLoad h data => some (bankLoadCard, h, data)
  | .bankSwap h data => some (bankSwapCard, h, data)
  | .injectStart h data => some (injectStartCard, h, data)
  | .injectStop h data => some (injectStopCard, h, data)
  | .captureArm h data => some (captureArmCard, h, data)
  | .captureRead h data => some (captureReadCard, h, data)
  | .loopAck h data => some (loopAckCard, h, data)
  | .authRead h data => some (authReadCard, h, data)
  | .authCar h data => some (authCarCard, h, data)
  | .authClose h data => some (authCloseCard, h, data)
  | .callSubmit h data => some (callSubmitCard, h, data)
  | .callCancel h data => some (callCancelCard, h, data)
  | .callRead h data => some (callReadCard, h, data)
  | .carService h data => some (carServiceCard, h, data)
  | .tripEval h data => some (tripEvalCard, h, data)
  | .doorOpen h data => some (doorOpenCard, h, data)
  | .doorClose h data => some (doorCloseCard, h, data)
  | .doorHome h data => some (doorHomeCard, h, data)
  | .doorStatus h data => some (doorStatusCard, h, data)
  | .safetyStatus h data => some (safetyStatusCard, h, data)
  | .safetyReset h data => some (safetyResetCard, h, data)
  | .safetyTest h data => some (safetyTestCard, h, data)
  | .fieldStatus h data => some (fieldStatusCard, h, data)
  | .fieldOutWrite h data => some (fieldOutWriteCard, h, data)
  | .fieldOutAck h data => some (fieldOutAckCard, h, data)
  | .canStatus h data => some (canStatusCard, h, data)
  | .canSend h data => some (canSendCard, h, data)
  | .canRead h data => some (canReadCard, h, data)
  | .canTake h data => some (canTakeCard, h, data)
  | .canPower h data => some (canPowerCard, h, data)
  | .energyRead h data => some (energyReadCard, h, data)
  | .supplyRead h data => some (supplyReadCard, h, data)
  | .pairStatus h data => some (pairStatusCard, h, data)
  | .pairProve h data => some (pairProveCard, h, data)
  | .attestQuote h data => some (attestQuoteCard, h, data)
  | .identityRead h data => some (identityReadCard, h, data)
  | .vaultStatus h data => some (vaultStatusCard, h, data)
  | .provision h data => some (provisionCard, h, data)
  | .keyUpdate h data => some (keyUpdateCard, h, data)
  | .keyOp h data => some (keyOpCard, h, data)
  | .sessionRekey h data => some (sessionRekeyCard, h, data)
  | .sessionClose h data => some (sessionCloseCard, h, data)
  | .ledgerSnapshot h data => some (ledgerSnapshotCard, h, data)
  | .ledgerRead h data => some (ledgerReadCard, h, data)
  | .ledgerHead h data => some (ledgerHeadCard, h, data)
  | .ledgerClear h data => some (ledgerClearCard, h, data)
  | .journalRead h data => some (journalReadCard, h, data)
  | .sysReset h data => some (sysResetCard, h, data)
  | .powerSet h data => some (powerSetCard, h, data)
  | .startStatus h data => some (startStatusCard, h, data)
  | .imageWrite h data => some (imageWriteCard, h, data)
  | .imageActivate h data => some (imageActivateCard, h, data)
  | .imageCommit h data => some (imageCommitCard, h, data)
  | .sqPi _ _ _ _ _ _ => none
  | .eqCi _ _ _ => none
  | .ringCfg _ _ _ => none
  | .ringErr _ _ _ => none
  | .bootFault _ _ => none
  | .registerWrite _ _ _ => none
  | .windowRead _ _ => none
  | .sqWrite _ _ _ => none
  | .eqRead _ _ _ => none
  | .ethernetPacket _ _ _ => none
  | .hello _ _ _ => none
  | .finish _ _ _ _ _ _ _ => none
  | .handshakeTimeout _ _ => none
  | .handshakeFragmentRead _ _ => none
  | .imageRecoveryWrite _ _ _ => none
  | .eqHeldFull _ _ => none
  | .tick _ => none
  | .fastTick => none
  | .protectTableStored _ _ => none
  | .frameStart => none
  | .trunkFrameReceived _ _ => none
  | .launch => none
  | .deviceMilestone => none
  | .brkliftTimeout _ _ => none
  | .brkengTimeout _ _ => none
  | .carReport _ _ _ => none
  | .carReportTimeout _ _ => none
  | .tapeLost _ _ => none
  | .sourceDisagreeing _ _ _ => none
  | .holdMessage _ _ => none
  | .holdtoLapse _ => none
  | .permitRecord _ _ => none
  | .doorRequestRecord _ _ => none
  | .permitTimeout _ _ => none
  | .redwellExpiry _ _ => none
  | .reopwaitTimeout _ _ => none
  | .lcholdExpiry _ _ => none
  | .dwellExpiry _ _ => none
  | .stepLoss _ _ => none
  | .regulationFailure _ _ => none
  | .chopperExit _ _ => none
  | .cltimeTimeout _ _ => none
  | .homingTravelFault _ _ => none
  | .stepInputOverrun _ _ => none
  | .saturationTrip _ _ => none
  | .plausibilityTrip _ _ => none
  | .injectionEnd _ _ => none
  | .captureComplete _ _ => none
  | .agingReached _ _ => none
  | .booksRebuild _ => none
  | .waitmaxExpiry _ _ => none
  | .learnRunEnd _ => none
  | .enumerationEnd _ _ => none
  | .terminalCall _ _ => none
  | .callDeadline _ _ => none
  | .reeval _ => none
  | .callidRelease _ _ => none
  | .safetyInputDemand _ _ _ => none
  | .discrepancy _ _ => none
  | .lockstepMismatch _ => none
  | .watchdogExpiry _ => none
  | .clockFault _ => none
  | .uncorrectableError _ _ _ => none
  | .dieLinkLoss _ _ => none
  | .tripIn _ => none
  | .periodicTest _ => none
  | .selfTestEnd _ _ _ => none
  | .soReadbackFault _ _ => none
  | .fieldInputTransition _ _ _ => none
  | .supplyGroupDrop _ _ _ => none
  | .supplyGroupRestore _ _ _ => none
  | .readbackFault _ _ => none
  | .thermalLatch _ _ => none
  | .keepAlive _ _ _ => none
  | .watchdogRelease _ _ => none
  | .canFrameReceived _ _ _ => none
  | .backoffExpiry _ _ _ => none
  | .canTransmitDone _ _ _ _ => none
  | .canExpire _ _ _ => none
  | .busOff _ _ => none
  | .busOffRecovery _ _ => none
  | .verifytExpiry _ _ => none
  | .detwaitExpiry _ _ => none
  | .rateMismatch _ _ _ => none
  | .sleepEntry _ _ => none
  | .canWake _ _ _ => none
  | .referenceDue _ _ => none
  | .ptpSync _ _ _ _ => none
  | .syncLoss _ => none
  | .holdoverLimit _ => none
  | .cycleEnd _ => none
  | .halfCycle _ => none
  | .sagholdExpiry _ => none
  | .brownOutWarning _ => none
  | .pulseOutput _ _ => none
  | .meterPulse _ _ => none
  | .cmpwinExpiry _ _ => none
  | .pairImage _ _ => none
  | .heartbeatLoss _ => none
  | .pairLinkLoss _ => none
  | .syncComplete _ => none
  | .pennantHoldExpiry _ => none
  | .pennantClaim _ => none
  | .pennantLineFault _ => none
  | .hotTake _ => none
  | .coldTake _ => none
  | .proveTakeTimeout _ => none
  | .provewarnReached _ => none
  | .tamperDetected _ _ => none
  | .batteryLoss _ => none
  | .powerGood _ => none
  | .rstN _ _ => none
  | .resetRelease _ _ => none
  | .supplyOutOfRange _ => none
  | .perstN _ => none
  | .vaultCheckComplete _ _ => none
  | .imageChosen _ _ => none
  | .stage3Complete _ _ => none
  | .stage5Entry _ => none
  | .stage5Ready _ => none
  | .deadlinePassed _ => none
  | .commandedReset _ => none
  | .idleEntry _ => none
  | .wake _ _ => none
  | .enableCheckComplete _ => none
  | .pwmPeriod _ _ => none
  | .configStoreWritten _ _ => none
  | .keyOpComplete _ => none
  | .tripEvalComplete _ => none
  | .tripEvalTimeout _ => none
  | .safetyResetTimeout _ => none
  | .msixModerationExpiry _ _ => none
  | .canBusError _ _ _ => none
  | .ptpAnnounce _ _ => none
  | .clockFaultClear _ => none
  | .dieLinkRestore _ _ => none
  | .safetyInputPermit _ _ => none
  | .tripInRelease _ => none
  | .heartbeatRestore _ => none
  | .pairImageAck _ _ _ _ => none
  | .pntInRise _ => none
  | .handshakeReply _ _ => none
  | .powerLoss _ => none
  | .staletExpiry _ _ _ => none
  | .trngHealthFailure _ => none

/-- The packet of a card comes, for immediate execution, and meets the conditions of R57. -/
def Comes (d : CardDef) (s : State) (h : Hdr) (data : List Byte) : Prop :=
  h.launch = 0 ∧ ∃ se, Admits d.k (d.lenOk data) (s.advance h.t) h se

/-- The packet comes, meets the conditions of R57, and its card's own checks pass. -/
def Admitted (d : CardDef) (s : State) (h : Hdr) (data : List Byte) : Prop :=
  Comes d s h data ∧ d.own (taking h s) (tagOf d.k.opc h s) data = none

/-- The latest reply to the packet: it stands first in the pair's list of R45, with the packet's opcode, tag and target. -/
def Replied (t : State) (h : Hdr) (opc status reason : Nat) (data : List Byte) : Prop :=
  ∃ x, (t.ring h.pair).recent.head? = some (h.seq, some x) ∧ x.opc = opc ∧ x.tag = h.tag ∧ x.tgt = h.tgt
    ∧ x.status = status ∧ x.reason = reason ∧ x.data = data

/-- A packet that ends in its final reply: DONE (or, with a reason, another status), and the device as `after` says. -/
def Ends (i : Instr) (s : State) (h : Hdr) (opc status reason : Nat) (data : List Byte) (after : State) : Prop :=
  ∃ t, exec i s = .next t ∧ device t = device after ∧ Replied t h opc status reason data

/-- A packet that is accepted and runs on: the device as `after` says, an ACCEPTED reply unless NOACC is set (R41), and
the command in flight (R43). -/
def Runs (i : Instr) (s : State) (h : Hdr) (opc : Nat) (data : List Byte) (after : State) : Prop :=
  ∃ t, exec i s = .next t ∧ device t = device after ∧ (bit h.flg 2 = false → Replied t h opc 1 0 data)
    ∧ tagOf opc h s ∈ (t.ring h.pair).tags

/-- A packet that is refused before its acceptance: it changes nothing of the device, and its pair's latest reply is REFUSED
with the reason, with NOTAG as R44 says. -/
def Refused (i : Instr) (s : State) (h : Hdr) (opc : Nat) (notag : Bool) (reason : Nat) : Prop :=
  ∃ t, exec i s = .next t ∧ device t = device (s.advance h.t) ∧ Replied t h opc 3 reason []
    ∧ ((t.ring h.pair).recent.head?.bind (·.2)).map (fun x => bit x.flg 4) = some notag

/-- A packet whose command is accepted and waits for its launch edge (R82): the command in flight with that edge, in the launch
queue, and an ACCEPTED reply unless NOACC is set. -/
def Queued (i : Instr) (s : State) (h : Hdr) (opc : Nat) (data : List Byte) (after : State) : Prop :=
  ∃ t tr, tr = { tagOf opc h s with edge := edgeAt after.time.phase h.launch } ∧ exec i s = .next t
    ∧ device t = device { after with launchQ := after.launchQ ++ [Launch.mk tr h.launch data] }
    ∧ (bit h.flg 2 = false → Replied t h opc 1 0 []) ∧ tr ∈ (t.ring h.pair).tags

/-- A command that changes the device to `after`, and answers a next state. -/
def Becomes (i : Instr) (s after : State) : Prop := ∃ t, exec i s = .next t ∧ device t = device after

/-- A command that answers a next state with the property `P`. -/
def GoesOnWith (i : Instr) (s : State) (P : State → Prop) : Prop := ∃ t, exec i s = .next t ∧ P t

/-- A command that changes the device to `after`, and tells event source `src`: its ledger record is staged, where the source
is logged (R391) and the staging queue has room (R392). -/
def BecomesTelling (i : Instr) (s after : State) (src tgt reason : Nat) (items : List Byte) : Prop :=
  ∃ t, exec i s = .next t ∧ device t = device after
    ∧ (after.logged src = true → after.led.staged.length ≤ 7935 → LRec.mk after.time.now 1 src reason tgt ((pad4 items).take 24) ∈ t.led.staged)

/-- The state of a device that has heard a packet: its time, and no longer idle (R420). -/
def heard (h : Hdr) (s : State) : State :=
  let u := s.advance h.t
  { u with power := { u.power with idleSince := none } }

/-! ## Invariants -/

/-- R48: whether a pair may carry a record now. -/
def carries (r : Ring) (x : Rec) : Bool := !r.rekeyOnly || (x.src.isNone && rekeyOpc x.opc)

/-- R36, R42, R63: no record waits in the device that its pair may carry and has room for, and a pair is noted as held full
exactly while it is a PCIe pair, enabled, not near its limit, and a record waits. -/
def ringServed (r : Ring) : Bool :=
  ((r.held.find? (carries r)).all fun x => !r.room x)
    && (r.fullSince.isSome == (r.sess.map (·.tr) == some Transport.pcie && r.en && !r.held.isEmpty && !r.rekeyOnly))

/-- Every ring pair of the block is served. -/
def AllServed (s : State) : Prop := ∀ p < 16, ringServed (s.ring p) = true

/-- R416: both image regions hold canonical memories (log 7). -/
def ImagesWf (s : State) : Prop := s.boot.imgA.mem.wf = true ∧ s.boot.imgB.mem.wf = true

end Sys2Proof.Safety
end

