-- ==== Sys2Proof/Certificates/Slice0/Obligations.lean ====
section
/-! DEFINITION. The statements for the provers: what a step does, what becomes of a packet, what each card and each event row
does to the block, what the block holds at reset, and what every step keeps. -/

open Sys2Proof Sys2Proof.Machine Sys2Proof.Safety

/-! ## The queue, the outcomes, the rings -/

/-- A step takes the command at the front of the queue and runs it with the queue's rest. -/
def Obligations.StepRunsTheFrontCommand : Prop :=
  ∀ (c : Instr) (cs : List Instr) (s : State), step { s with pending := c :: cs } = exec c { s with pending := cs }

/-- The model's choice (log 3): on an empty queue the block idles one timebase edge, which R67 makes 4 ns without a frequency
adjustment; in stage 0 it does not count (R403). -/
def Obligations.AnEmptyQueueIdlesOneEdge : Prop :=
  (∀ s : State, s.pending = [] → s.boot.stage = 0 → step s = .next s)
  ∧ (∀ s t : State, s.pending = [] → s.boot.stage ≠ 0 → s.time.freqAdj = 0 → step s = .next t →
      t.time.now = s.time.now + (s.time.frac + 4 * 2 ^ 32) / 2 ^ 32 ∧ t.time.frac = s.time.frac % 2 ^ 32 ∧ t.rings = s.rings ∧ t.pending = [])
  ∧ (∀ s : State, ∃ t, step { s with pending := [] } = .next t)

/-- No command stops the machine: the manual gives every row an effect, and each row answers a next state in every state. -/
def Obligations.NoCommandStops : Prop :=
  ∀ (i : Instr) (s : State), ∃ t, exec i s = .next t

/-- The values that the manual gives for reset: stage 0 (R403), every source disabled but 0x00, routed to EQ0 (R66), pair 0 with quota
16 and no owner, no other pair with a quota (R49), no session, every supply group MISSING (file 11), every axis not homed (R250),
an empty queue of commands, and nothing provisioned (R375). -/
def Obligations.ResetValues : Prop :=
  State.reset.boot.stage = 0 ∧ State.reset.pending = [] ∧ State.reset.rings.length = 16 ∧ State.reset.ev.src.length = 256
  ∧ (∀ p < 16, (State.reset.ring p).quota = (if p = 0 then 16 else 0) ∧ (State.reset.ring p).owner = none ∧ (State.reset.ring p).sess = none)
  ∧ (∀ n < 256, (State.reset.ev.src.getD n {}).enabled = decide (n = 0) ∧ (State.reset.ev.src.getD n {}).eq = 0)
  ∧ State.reset.field.grp = List.replicate 4 .missing
  ∧ (∀ a < 4, (State.reset.axis a).homed = false)
  ∧ State.reset.vault.share = none ∧ State.reset.sec.cust = none

/-- At reset every ring pair is served. -/
def Obligations.ResetIsServed : Prop :=
  AllServed State.reset

/-- R36, R42, R63: from every state whose pairs are served, a step gives a state whose pairs are served: no command leaves a record
in the device that its pair has room for and may carry, and the note of a ring held full is kept exact. -/
def Obligations.StepKeepsEveryPairServed : Prop :=
  ∀ s s' : State, AllServed s → step s = .next s' → AllServed s'

/-- At reset both image regions are canonical memories, and the commands that write or choose images keep them so (log 7). -/
def Obligations.ImageMemoriesKeepTheirForm : Prop :=
  ImagesWf State.reset
  ∧ (∀ s t h data, ImagesWf s → exec (.imageWrite h data) s = .next t → ImagesWf t)
  ∧ (∀ s t h data, ImagesWf s → exec (.imageActivate h data) s = .next t → ImagesWf t)
  ∧ (∀ s t h data, ImagesWf s → exec (.imageCommit h data) s = .next t → ImagesWf t)
  ∧ (∀ s t n off data, ImagesWf s → exec (.imageRecoveryWrite n off data) s = .next t → ImagesWf t)

/-! ## Acceptance of a packet -/

/-- R57 (with R16, R21, R44, R49, R50, R466): the checks of a packet run in order, and the first that fails gives the reason of its
refusal; the packet changes nothing else. -/
def Obligations.TheFirstFailingCheckRefuses : Prop :=
  ∀ (i : Instr) (d : CardDef) (h : Hdr) (data : List Byte) (s : State) (se : Session) (pre post : List (Bool × Bool × Nat)) (notag : Bool) (reason : Nat),
    cardOf i = some (d, h, data) → Hears d.k (s.advance h.t) h se →
    packetChecks d.k (d.lenOk data) (s.advance h.t) h se = pre ++ (false, notag, reason) :: post → (∀ c ∈ pre, c.1 = true) →
    Refused i s h d.k.opc notag reason

/-- R57 step 15: a packet that passes the general checks, with no launch time, and fails a check of its card's own ends REFUSED with the
card's reason, and its command has no effect. -/
def Obligations.OwnChecksRefuse : Prop :=
  ∀ (i : Instr) (d : CardDef) (h : Hdr) (data : List Byte) (s : State) (reason : Nat) (body : List Byte),
    cardOf i = some (d, h, data) → Comes d s h data → d.own (taking h s) (tagOf d.k.opc h s) data = some (reason, body) →
    Ends i s h d.k.opc 3 reason body (heard h s)

/-- R83: a launch time in the past, more than 86,400 s ahead, of a card that is not launchable, or given while the timebase is UNSET. -/
def Obligations.LaunchTimesAreChecked : Prop :=
  ∀ (i : Instr) (d : CardDef) (h : Hdr) (data : List Byte) (s u : State) (se : Session),
    cardOf i = some (d, h, data) → u = s.advance h.t → Admits d.k (d.lenOk data) u h se → h.launch ≠ 0 →
    (h.launch < u.time.now → Refused i s h d.k.opc false 0xFF03)
    ∧ (u.time.now + 86400 * 10 ^ 9 < h.launch → Refused i s h d.k.opc false 0x1005)
    ∧ (u.time.now ≤ h.launch → h.launch ≤ u.time.now + 86400 * 10 ^ 9 → d.k.lead = none → Refused i s h d.k.opc false 0x1006)
    ∧ (u.time.now ≤ h.launch → h.launch ≤ u.time.now + 86400 * 10 ^ 9 → d.k.lead ≠ none → u.time.tb = .unset → Refused i s h d.k.opc false 0x1001)

/-- R82, R84: an accepted command with a launch time waits for its launch edge, or, where its preparation lead is not met, ends LATE with
0x1010 at once, counted, and without effect. -/
def Obligations.LaunchedCommandsWaitOrAreLate : Prop :=
  ∀ (i : Instr) (d : CardDef) (h : Hdr) (data : List Byte) (s u : State) (se : Session) (lead : Nat),
    cardOf i = some (d, h, data) → u = s.advance h.t → Admits d.k (d.lenOk data) u h se →
    d.own (taking h s) (tagOf d.k.opc h s) data = none → d.k.lead = some lead → u.time.tb ≠ .unset →
    u.time.now ≤ h.launch → h.launch ≠ 0 → h.launch ≤ u.time.now + 86400 * 10 ^ 9 →
    (h.launch - u.time.now < lead → Ends i s h d.k.opc 5 0x1010 []
      { heard h s with time := { u.time with lateCnt := wrapAdd 32 u.time.lateCnt 1 } })
    ∧ (lead ≤ h.launch - u.time.now → Queued i s h d.k.opc data (heard h s))

/-- R33, R35, R45, R48: what becomes of a packet that is not the next of its pair: nothing without a session or on a pair that is not
read; discarded and counted in a rekey-only pair; over PCIe or SPI 0x0013, the expected SEQ unchanged; over Ethernet a duplicate is
answered again and not executed, and any other is discarded, counted, and tells source 0x01. -/
def Obligations.PacketsOutOfSequence : Prop :=
  ∀ (i : Instr) (d : CardDef) (h : Hdr) (data : List Byte) (s u : State) (r : Ring),
    cardOf i = some (d, h, data) → u = s.advance h.t → u.power.mode ≠ .sleep → (∀ tr, u.power.pend ≠ some (1, tr)) → r = u.ring h.pair →
    (r.sess = none → exec i s = .next u.flush)
    ∧ (∀ se, r.sess = some se → se.tr = .pcie → r.en = false → exec i s = .next u.flush)
    ∧ (∀ se, r.sess = some se → (se.tr = .pcie → r.en = true) → r.rekeyOnly = true → rekeyOpc d.k.opc = false →
        exec i s = .next (u.modRing h.pair fun r => { r with discards := wrapAdd 32 r.discards 1 }).flush)
    ∧ (∀ se, r.sess = some se → (se.tr = .pcie → r.en = true) → r.rekeyOnly = false → h.seq ≠ r.rxSeq → se.tr ≠ .ethernet →
        exec i s = .next (u.refusePacket (tagOf d.k.opc h s) false 0x0013).flush
        ∧ ((u.refusePacket (tagOf d.k.opc h s) false 0x0013).ring h.pair).rxSeq = r.rxSeq)
    ∧ (∀ se, r.sess = some se → se.tr = .ethernet → r.rekeyOnly = false → h.seq ≠ r.rxSeq →
        (r.recent.any fun p => p.1 == h.seq) = true →
        exec i s = .next (u.resend (tagOf d.k.opc h s)).flush
        ∧ ∀ x, (r.recent.find? fun p => p.1 == h.seq) = some (h.seq, some x) →
            ((u.resend (tagOf d.k.opc h s)).ring h.pair).held = r.held ++ [{ x with flg := x.flg ||| 8 }])
    ∧ (∀ se, r.sess = some se → se.tr = .ethernet → r.rekeyOnly = false → h.seq ≠ r.rxSeq →
        (r.recent.any fun p => p.1 == h.seq) = false →
        exec i s = .next ((u.modRing h.pair fun r => { r with discards := wrapAdd 32 r.discards 1 }).fire 0x01 0 0 []).flush)

/-- R44: the three refusals of a tag or for want of credit: each carries NOTAG and echoes the TAG, and no command in flight on the pair is
affected. The credit is the pair's quota minus its tags in flight. -/
def Obligations.TagAndCreditRefusals : Prop :=
  ∀ (i : Instr) (d : CardDef) (h : Hdr) (data : List Byte) (s : State) (se : Session) (r : Ring),
    cardOf i = some (d, h, data) → Hears d.k (s.advance h.t) h se → r = (s.advance h.t).ring h.pair →
    r.ownerFor se = some h.dom → se.dom = h.dom →
    (0xFF < h.tag → Refused i s h d.k.opc true 0xFF07)
    ∧ (h.tag ≤ 0xFF → (∃ x ∈ r.tags, x.tag = h.tag) → Refused i s h d.k.opc true 0xFF08)
    ∧ (h.tag ≤ 0xFF → (∀ x ∈ r.tags, x.tag ≠ h.tag) → r.quota - r.tags.length = 0 → Refused i s h d.k.opc true 0xFF04)
    ∧ (∀ t, exec i s = .next t → 0xFF < h.tag ∨ (∃ x ∈ r.tags, x.tag = h.tag) ∨ r.quota - r.tags.length = 0 → (t.ring h.pair).tags = r.tags)

/-- R41, R43: a final reply frees its tag, and a command whose tag is free gets no second one. -/
def Obligations.OneFinalReplyFreesTheTag : Prop :=
  ∀ (s : State) (tr : TagRec) (st st' reason reason' stamp stamp' : Nat) (data data' : List Byte),
    (s.finish tr st reason stamp data).flying tr = false
    ∧ (s.finish tr st reason stamp data).finish tr st' reason' stamp' data' = s.finish tr st reason stamp data

/-- R64, R66, R468: a firing source sets its flag; where it is enabled, and no record of it waits, one record of it with the header of R468
is held for its event ring; where one waits, its COAL counts; where it is not enabled, no ring changes. Source 0x00 has the pause of R47
besides, and is left to its own row. -/
def Obligations.AnEventSourceFires : Prop :=
  ∀ (s : State) (src tgt reason : Nat) (items : List Byte) (e : EvSrc) (t : State),
    e = s.ev.src.getD src {} → t = s.fire src tgt reason items → src ≠ 0 → src < s.ev.src.length →
    (t.ev.src.getD src {}).flag = true
    ∧ (e.enabled = true → (e.flag = false ∨ ∀ p, p < s.rings.length → (s.ring p).waits src = false) → e.eq < s.rings.length →
        ∃ x, (t.ring e.eq).held = (s.ring e.eq).held ++ [x] ∧ x.opc = 0xF000 + src ∧ x.flg = 0x12 ∧ x.tag = 0xFFFF ∧ x.status = 0
          ∧ x.reason = reason ∧ x.tgt = tgt ∧ x.stamp = s.time.now ∧ x.data = pad4 items ∧ x.coal = 0)
    ∧ (e.flag = true → (∃ p, p < s.rings.length ∧ (s.ring p).waits src = true) → t.rings = s.rings.map (Ring.fold src))
    ∧ (e.enabled = false → e.flag = false → t.rings = s.rings)
    ∧ (∀ n, n ≠ src → t.ev.src.getD n {} = s.ev.src.getD n {})

/-- R40: an EQ read over SPI that clocks out all bytes of LEN16 and the record removes the record; one that ends early shifts out the bytes that
were clocked and leaves the record, so that the next read begins at its first byte again; the window read gives the register, and needs
no session. -/
def Obligations.SpiReadsAreWholeOrLeaveTheRecord : Prop :=
  ∀ (s u : State) (t pair n offset : Nat), u = s.advance t →
    (∀ se x xs w v, (u.ring pair).sess = some se → se.tr = .spi → (u.ring pair).placed = x :: xs → w = le 2 (sealRec x).length ++ sealRec x →
      n < w.length → v = u.shiftOut (w.take n) → exec (.eqRead t pair n) s = .next v.flush ∧ (v.ring pair).placed = x :: xs)
  ∧ (∀ se x xs w v, (u.ring pair).sess = some se → se.tr = .spi → (u.ring pair).placed = x :: xs → w = le 2 (sealRec x).length ++ sealRec x →
      w.length ≤ n → v = ((u.shiftOut w).modRing pair fun r => { r with placed := xs }).consume [x] →
      exec (.eqRead t pair n) s = .next v.flush ∧ (v.ring pair).placed = xs)
  ∧ exec (.windowRead t offset) s = .next (u.shiftOut (le 4 (u.window offset))).flush

/-- R91: only dom0 cancels a command of another pair than its own (0x1033); a tag that is not waiting is refused with 0x1032; a resolved edge less
than 2 us after the acceptance is too late (0x1031), and the command stays in the launch queue; any other ends ABORTED with 0x1030 and
leaves the queue, so that it has no effect. -/
def Obligations.CancelsFollowR91 : Prop :=
  ∀ (s u : State) (h : Hdr) (data : List Byte) (p tag : Nat), Comes milestoneCancelCard s h data → u = heard h s → p = rd data 0 1 → tag = rd data 2 2 →
    (p ≠ h.pair → h.dom ≠ 0 → Ends (.milestoneCancel h data) s h 0x1004 3 0x1033 [] u)
  ∧ (p = h.pair ∨ h.dom = 0 → u.waiting p tag = none → Ends (.milestoneCancel h data) s h 0x1004 3 0x1032 [] u)
  ∧ (∀ l, p = h.pair ∨ h.dom = 0 → u.waiting p tag = some l → l.tag.edge < u.time.now + 2000 →
      Ends (.milestoneCancel h data) s h 0x1004 3 0x1031 [] u)
  ∧ (∀ l, p = h.pair ∨ h.dom = 0 → u.waiting p tag = some l → u.time.now + 2000 ≤ l.tag.edge →
      Ends (.milestoneCancel h data) s h 0x1004 2 0 (le 8 l.tag.edge) { u with launchQ := u.launchQ.filter fun x => x != l }
      ∧ exec (.milestoneCancel h data) s
        = .next (((({ begun 0x1004 h s with launchQ := u.launchQ.filter fun x => x != l } : State).abort l.tag 0x1030).done (tagOf 0x1004 h s) (le 8 l.tag.edge))).flush)

/-! ## The cards -/

/-- Rights table of spec 02 ("query: the command changes no state"): each query, once admitted, ends DONE with its payload read from the
device, and leaves the device as it was; PAIR_STATUS clears the longest image, TRUNK_STATUS the longest return and FIELD_STATUS the
watchdog-release flags that their replies tell. -/
def Obligations.QueriesAnswer : Prop :=
  (∀ (s : State) (h : Hdr) (data : List Byte),
    (Admitted protectGetCard s h data → Ends (.protectGet h data) s h 0x0102 2 0 (protectGetReply (heard h s) (tagOf 0x0102 h s) data) (heard h s))
  ∧ (Admitted startStatusCard s h data → Ends (.startStatus h data) s h 0x0112 2 0 (startStatusReply (heard h s) (tagOf 0x0112 h s) data) (heard h s))
  ∧ (Admitted checkReportCard s h data → Ends (.checkReport h data) s h 0x2002 2 0 (checkReportReply (heard h s) (tagOf 0x2002 h s) data) (heard h s))
  ∧ (Admitted positionReadCard s h data → Ends (.positionRead h data) s h 0x2020 2 0 (positionReadReply (heard h s) (tagOf 0x2020 h s) data) (heard h s))
  ∧ (Admitted motionReadCard s h data → Ends (.motionRead h data) s h 0x3003 2 0 (motionReadReply (heard h s) (tagOf 0x3003 h s) data) (heard h s))
  ∧ (Admitted trunkMapCard s h data → Ends (.trunkMap h data) s h 0x3041 2 0 (trunkMapReply (heard h s) (tagOf 0x3041 h s) data) (heard h s))
  ∧ (Admitted segmentReadCard s h data → Ends (.segmentRead h data) s h 0x3043 2 0 (segmentReadReply (heard h s) (tagOf 0x3043 h s) data) (heard h s))
  ∧ (Admitted loopStatusCard s h data → Ends (.loopStatus h data) s h 0x4001 2 0 (loopStatusReply (heard h s) (tagOf 0x4001 h s) data) (heard h s))
  ∧ (Admitted captureReadCard s h data → Ends (.captureRead h data) s h 0x4007 2 0 (captureReadReply (heard h s) (tagOf 0x4007 h s) data) (heard h s))
  ∧ (Admitted authReadCard s h data → Ends (.authRead h data) s h 0x5001 2 0 (authReadReply (heard h s) (tagOf 0x5001 h s) data) (heard h s))
  ∧ (Admitted authCarCard s h data → Ends (.authCar h data) s h 0x5002 2 0 (authCarReply (heard h s) (tagOf 0x5002 h s) data) (heard h s))
  ∧ (Admitted callReadCard s h data → Ends (.callRead h data) s h 0x5012 2 0 (callReadReply (heard h s) (tagOf 0x5012 h s) data) (heard h s))
  ∧ (Admitted doorStatusCard s h data → Ends (.doorStatus h data) s h 0x6004 2 0 (doorStatusReply (heard h s) (tagOf 0x6004 h s) data) (heard h s))
  ∧ (Admitted safetyStatusCard s h data → Ends (.safetyStatus h data) s h 0x7001 2 0 (safetyStatusReply (heard h s) (tagOf 0x7001 h s) data) (heard h s))
  ∧ (Admitted canStatusCard s h data → Ends (.canStatus h data) s h 0x9001 2 0 (canStatusReply (heard h s) (tagOf 0x9001 h s) data) (heard h s))
  ∧ (Admitted canReadCard s h data → Ends (.canRead h data) s h 0x9003 2 0 (canReadReply (heard h s) (tagOf 0x9003 h s) data) (heard h s))
  ∧ (Admitted energyReadCard s h data → Ends (.energyRead h data) s h 0xA001 2 0 (energyReadReply (heard h s) (tagOf 0xA001 h s) data) (heard h s))
  ∧ (Admitted supplyReadCard s h data → Ends (.supplyRead h data) s h 0xA002 2 0 (supplyReadReply (heard h s) (tagOf 0xA002 h s) data) (heard h s))
  ∧ (Admitted identityReadCard s h data → Ends (.identityRead h data) s h 0xC002 2 0 (identityReadReply (heard h s) (tagOf 0xC002 h s) data) (heard h s))
  ∧ (Admitted vaultStatusCard s h data → Ends (.vaultStatus h data) s h 0xC003 2 0 (vaultStatusReply (heard h s) (tagOf 0xC003 h s) data) (heard h s))
  ∧ (Admitted ledgerSnapshotCard s h data → Ends (.ledgerSnapshot h data) s h 0xD002 2 0 (ledgerSnapshotReply (heard h s) (tagOf 0xD002 h s) data) (heard h s))
  ∧ (Admitted ledgerReadCard s h data → Ends (.ledgerRead h data) s h 0xD003 2 0 (ledgerReadReply (heard h s) (tagOf 0xD003 h s) data) (heard h s)))
  ∧ (∀ (s : State) (h : Hdr) (data : List Byte),
    (Admitted pairStatusCard s h data → Ends (.pairStatus h data) s h 0xB001 2 0 (pairStatusReply (heard h s))
      { heard h s with pair := { s.pair with imgMax := 0 } })
  ∧ (Admitted trunkStatusCard s h data → Ends (.trunkStatus h data) s h 0x3042 2 0 (trunkStatusReply (heard h s) (tagOf 0x3042 h s) data)
      ((heard h s).modTrunk (rd data 0 1) fun x => { x with maxRet := 0 }))
  ∧ (Admitted fieldStatusCard s h data → Ends (.fieldStatus h data) s h 0x8001 2 0 (fieldStatusReply (heard h s))
      { heard h s with field := { s.field with die := s.field.die.map fun (d : Die) => { d with wdRel := false } } }))

/-- R53, R55: an admitted PROTECT_SET waits for its boundary, behind those that wait already; PROTECT_GET tells the
generation, the size of the table and its entries from the index asked for. -/
def Obligations.ProtectionCards : Prop :=
  (∀ s h data, Admitted protectSetCard s h data →
    Runs (.protectSet h data) s h 0x0101 []
      { heard h s with prot := { s.prot with waiting := s.prot.waiting ++
          [{ tag := tagOf 0x0101 h s, op := rd data 4 1, purge := bit (rd data 5 1) 0, edom := rd data 6 1
             entries := setEntries data, newGen := 0, effAt := 0, purged := 0 }] } })
  ∧ (∀ s h data, Admitted protectGetCard s h data →
    Ends (.protectGet h data) s h 0x0102 2 0
      (le 4 s.prot.gen ++ le 2 s.prot.entries.length ++ le 2 (min 336 (s.prot.entries.length - rd data 0 2))
        ++ (((s.prot.entries.drop (rd data 0 2)).take 336).map ProtEntry.bytes).flatten)
      (heard h s))

/-- R56, R66: an admitted RING_ASSIGN sets the quota of the pair, and its owner; with the owner unchanged that is all, and a new owner closes
the session of another pair. EVENT_ROUTE sets the route of one source, and MOD of its vector (log 18), and nothing else. -/
def Obligations.RingAndRouteCards : Prop :=
  (∀ s h data, Admitted ringAssignCard s h data → ((taking h s).ring (rd data 0 1)).owner = ownerField (rd data 1 1) →
    Ends (.ringAssign h data) s h 0x0103 2 0 []
      ((heard h s).modRing (rd data 0 1) fun r => { r with owner := ownerField (rd data 1 1), quota := rd data 2 2 }))
  ∧ (∀ s h data, Admitted ringAssignCard s h data → ((taking h s).ring (rd data 0 1)).owner ≠ ownerField (rd data 1 1) →
    rd data 0 1 ≠ h.pair → rd data 0 1 < s.rings.length →
    ∃ t, exec (.ringAssign h data) s = .next t ∧ Replied t h 0x0103 2 0 []
      ∧ (t.ring (rd data 0 1)).owner = ownerField (rd data 1 1) ∧ (t.ring (rd data 0 1)).quota = rd data 2 2
      ∧ (t.ring (rd data 0 1)).sess = none)
  ∧ (∀ s h data, Admitted eventRouteCard s h data →
    Ends (.eventRoute h data) s h 0x0104 2 0 []
      { heard h s with
        ev := { s.ev with src := s.ev.src.modify (rd data 0 1) fun e =>
          { e with enabled := bit (rd data 3 1) 7, eq := rd data 1 1, vec := rd data 2 1, balls := rd data 3 1 % 16, mod := rd data 4 2 } }
        msix := if rd data 2 1 < 32 then { s.msix with mod := s.msix.mod.set (rd data 2 1) (rd data 4 2) } else s.msix })

/-- R426: an admitted SYS_RESET ends DONE, and the reset follows 1 ms later; while the cars stand braked nothing else changes.
R420-R425: POWER_SET to SLEEP or to shutdown waits; to RUN, of a running device with no sleep entry waiting, it is DONE at once.
R416, R417: an admitted IMAGE_WRITE fills the region that does not run, which is VALID once whole and EMPTY until then;
IMAGE_ACTIVATE makes it TRIAL; IMAGE_COMMIT makes the running TRIAL image ACTIVE and the ACTIVE one VALID. -/
def Obligations.PowerAndImageCards : Prop :=
  (∀ s h data, Admitted sysResetCard s h data → (heard h s).braked = true →
    Ends (.sysReset h data) s h 0x0110 2 0 []
      { heard h s with power := { (heard h s).power with resetDue := some ((heard h s).time.now + 1000000, false) } })
  ∧ (∀ s h data, Admitted sysResetCard s h data → (heard h s).braked = false →
    GoesOnWith (.sysReset h data) s fun t => t.power.resetDue = some ((heard h s).time.now + 1000000, true))
  ∧ (∀ s h data, Admitted powerSetCard s h data → rd data 0 1 ≠ 0 →
    Runs (.powerSet h data) s h 0x0111 [] { heard h s with power := { (heard h s).power with pend := some (rd data 0 1, tagOf 0x0111 h s) } })
  ∧ (∀ s h data, Admitted powerSetCard s h data → rd data 0 1 = 0 →
    Ends (.powerSet h data) s h 0x0111 2 0 (le 1 s.power.mode.code ++ zeros 3) (heard h s))
  ∧ (∀ s h data u, Admitted imageWriteCard s h data →
    u = ((heard h s).modImage s.spare fun _ => { state := b2n (iwWhole data), tries := 0, mem := s.iwMem data }).modBoot (fun b => { b with
          writing := if iwWhole data then none else some { next := rd data 0 4 + (data.length - 8), total := rd data 4 4, bytes := [] } }) →
    Ends (.imageWrite h data) s h 0x0120 2 0 (le 2 u.imgst ++ zeros 2) u)
  ∧ (∀ s h data u, Admitted imageActivateCard s h data →
    u = (heard h s).modImage s.spare (fun x => { x with state := 2, tries := 0 }) →
    Ends (.imageActivate h data) s h 0x0121 2 0 (le 2 u.imgst ++ zeros 2) u)
  ∧ (∀ s h data u, Admitted imageCommitCard s h data → ¬(rd data 0 1 = 1 ∧ s.vault.ctr.getD 2 0 < s.runningSvn) →
    u = ((((heard h s).modImage s.boot.image fun x => { x with state := 3, tries := 0 }).modImage (1 - s.boot.image) fun x =>
          if x.state = 3 then { x with state := 1 } else x).modBoot fun b => { b with trialRun := false }) →
    Ends (.imageCommit h data) s h 0x0122 2 0 (le 2 u.imgst ++ zeros 2) u)
  ∧ (∀ s h data u, Admitted imageCommitCard s h data → rd data 0 1 = 1 ∧ s.vault.ctr.getD 2 0 < s.runningSvn →
    u = (((((heard h s).raiseCtr 2 s.runningSvn).modImage s.boot.image fun x => { x with state := 3, tries := 0 }).modImage (1 - s.boot.image) fun x =>
          if x.state = 3 then { x with state := 1 } else x).modBoot fun b => { b with trialRun := false }) →
    Ends (.imageCommit h data) s h 0x0122 2 0 (le 2 u.imgst ++ zeros 2) u)

/-- The timebase cards of spec 03 (R74): TIME_STATUS tells the time and the state of the timebase and clears the holdover-exceeded flag; TIME_CONFIG and
TIME_SET wait for the next tick boundary. -/
def Obligations.TimebaseCards : Prop :=
  (∀ s h data, Admitted timeStatusCard s h data →
    Ends (.timeStatus h data) s h 0x1001 2 0 (timeStatusReply (begun 0x1001 h s))
      { heard h s with time := { (heard h s).time with holdExc := false } })
  ∧ (∀ s h data, Admitted timeStatusCard s h data →
      (timeStatusReply (begun 0x1001 h s)).take 9 = le 8 (max s.time.now h.t) ++ le 1 s.time.tb.code)
  ∧ (∀ s h data, Admitted timeConfigCard s h data →
    Ends (.timeConfig h data) s h 0x1002 2 0 [] { heard h s with time := { (heard h s).time with cfgPend := some (timeCfgOf data) } })
  ∧ (∀ s h data, Admitted timeSetCard s h data →
    Runs (.timeSet h data) s h 0x1003 []
      { heard h s with time := { (heard h s).time with setPend := s.time.setPend ++ [(tagOf 0x1003 h s, rd data 0 8, rdS data 8 2)] } })

/-- R112: a fragment of CONFIG_WRITE that does not complete its section is staged; one that completes it goes on to both
copies; a deletion takes the section away. -/
def Obligations.ConfigWriteStagesAndCommits : Prop :=
  (∀ s h data, Admitted configWriteCard s h data → cwDeletes data = false → cwCompletes data = false →
    Ends (.configWrite h data) s h 0x2010 2 0 (zeros 8)
      { heard h s with cfg := { s.cfg with staging := some (Staging.mk (cwSec data) (cwOff data + (cwBytes data).length) (cwTot data) ((s.cwBase data).getD [] ++ cwBytes data)) } })
  ∧ (∀ s h data, Admitted configWriteCard s h data → cwDeletes data = false → cwCompletes data = true →
    Runs (.configWrite h data) s h 0x2010 []
      { heard h s with cfg := { s.cfg with staging := none, writing := s.cfg.writing ++
          [{ tag := tagOf 0x2010 h s, id := cwSec data, data := (s.cwBase data).getD [] ++ cwBytes data }] } })
  ∧ (∀ s h data, Admitted configWriteCard s h data → cwDeletes data = true → [0x0002, 0x0401, 0x0900, 0x0203].contains (cwSec data) = false →
    Ends (.configWrite h data) s h 0x2010 2 0 (zeros 8)
      { heard h s with
        cfg := { s.cfg with
          staging := none, a := putSection (cwSec data) none s.cfg.a, b := putSection (cwSec data) none s.cfg.b
          calib := if calibSections.contains (cwSec data) then { s.cfg.calib with present := false } else s.cfg.calib }
        chk := { s.chk with report := none, total := 0 } })

/-- R58-R62, R110: CIRCUIT_ENABLE starts the enable check with the CRC it was given; CIRCUIT_DISABLE waits for its
boundary; CHECK_REPORT tells at most 336 entries from the index asked for; LEARN_START starts the run of every car from its
block, where every car has a position. -/
def Obligations.CircuitCards : Prop :=
  (∀ s h data, Admitted circuitEnableCard s h data → (s.boot.role == .lane && s.auth.rebuildDue && (begun 0x2001 h s).allStand) = false →
    Runs (.circuitEnable h data) s h 0x2001 []
      { heard h s with chk := { s.chk with
          running := some { tag := some (tagOf 0x2001 h s), crc := (heard h s).cfgCrc, at0 := (heard h s).time.now
                            found := (begun 0x2001 h s).checkAll (some (rd data 0 4)), speed := 500000 }
          report := none, total := 0 } })
  ∧ (∀ s h data, Admitted circuitDisableCard s h data →
    Runs (.circuitDisable h data) s h 0x2003 [] { heard h s with chk := { s.chk with disable := s.chk.disable ++ [tagOf 0x2003 h s] } })
  ∧ (∀ s h data, Admitted checkReportCard s h data →
    Ends (.checkReport h data) s h 0x2002 2 0
      (le 2 (s.chk.report.getD []).length ++ le 1 (b2n (decide (1024 < s.chk.total))) ++ zeros 1
        ++ le 4 (if s.chk.report.isSome then s.chk.crc else 0)
        ++ (((s.chk.report.getD []).drop (rd data 0 2)).take 336).flatMap ChkEntry.bytes)
      (heard h s))
  ∧ (∀ s h data, Admitted learnStartCard s h data → (∀ c ∈ s.carNums, 1 ≤ ((heard h s).car c).pos.trust) →
    Runs (.learnStart h data) s h 0x2021 []
      { heard h s with
        chk := { s.chk with
          learn := some { tag := some (tagOf 0x2021 h s), crc := (heard h s).cfgCrc, at0 := (heard h s).time.now, speed := learnSpeed (rd data 0 4) } }
        cars := (heard h s).cars.mapIdx fun i x => (heard h s).learnCar i x })

/-- R111: an admitted REANCHOR with no search under way starts a search toward the nearest edge ahead, or, with no edge
ahead, ends ABORTED with 0x2024 and searches nothing. -/
def Obligations.ReanchorSearchesTheNearestEdge : Prop :=
  (∀ s h data q c u dir, Admitted reanchorCard s h data → c = tgtIdx h.tgt → u = heard h s → dir = u.searchDir c (rd data 0 1) →
    (u.car c).search = none → u.edgeAhead c dir = some q →
    Runs (.reanchor h data) s h 0x2022 []
      (u.modCar c fun x => { x with
        search := some { tag := tagOf 0x2022 h s, dir := dir, speed := if rd data 4 4 = 0 then 300000 else rd data 4 4, wm := q.1
                         limit := u.searchEnd c dir q.2, start := roundQ (u.car c).pos.pQ }
        plan := { x.plan with next := some { elem := x.pos.elem, target := u.searchEnd c dir q.2, vmax := (if rd data 4 4 = 0 then 300000 else rd data 4 4)
                                             revok := true, kind := 4, due := u.time.now + 31250 } } }))
  ∧ (∀ s h data c u, Admitted reanchorCard s h data → c = tgtIdx h.tgt → u = heard h s →
    c < u.cars.length → (u.car c).search = none → u.edgeAhead c (u.searchDir c (rd data 0 1)) = none →
    Ends (.reanchor h data) s h 0x2022 4 0x2024
      (le 1 (u.car c).pos.trust ++ zeros 3 ++ le 2 0xFFFF ++ zeros 2 ++ leS 4 0)
      (u.modCar c fun x => { x with search := none }))

/-- R116, R126, R131: an admitted MOVE_TO waits for the first boundary at least 31.25 us after its acceptance: in the LANE role as the next move
of its car, in the CAR role as the next command of its door. MOVE_STOP of an axis that stands with nothing under way ends DONE with its
position; otherwise it asks for an S1 or S2 stop at its boundary. -/
def Obligations.MoveCards : Prop :=
  (∀ s h data, Admitted moveToCard s h data → s.boot.role = .lane → ((heard h s).planOf (tgtIdx h.tgt)).next = none →
    ∃ acc, acc.length = 16 ∧ Runs (.moveTo h data) s h 0x3001 acc
      ((heard h s).modPlan (tgtIdx h.tgt) fun p => { p with next := some { moveOf (tagOf 0x3001 h s) data with due := (heard h s).time.now + 31250 } }))
  ∧ (∀ s h data d, Admitted moveToCard s h data → s.boot.role ≠ .lane → d = s.doorTgt (tagOf 0x3001 h s) →
    (s.door d).next = none →
    ∃ acc, acc.length = 16 ∧ Runs (.moveTo h data) s h 0x3001 acc
      ((heard h s).modDoor d fun x => { x with
        next := some { tag := some (tagOf 0x3001 h s), kind := 3, due := (heard h s).time.now + 31250, since := (heard h s).time.now
                       move := some { moveOf (tagOf 0x3001 h s) data with due := (heard h s).time.now + 31250 } } }))
  ∧ (∀ s h data p, Admitted moveStopCard s h data → s.boot.role = .lane → p = (heard h s).planOf (tgtIdx h.tgt) →
    p.standing = true ∧ p.move = none ∧ p.next = none ∧ p.stop = none →
    Ends (.moveStop h data) s h 0x3002 2 0 (leS 4 (roundQ p.pQ) ++ zeros 4) (heard h s))
  ∧ (∀ s h data p, Admitted moveStopCard s h data → s.boot.role = .lane → p = (heard h s).planOf (tgtIdx h.tgt) →
    ¬ (p.standing = true ∧ p.move = none ∧ p.next = none ∧ p.stop = none) →
    Runs (.moveStop h data) s h 0x3002 []
      ((heard h s).askStop (if rd data 0 1 = 1 then .s1 else .s2) (some (tagOf 0x3002 h s)) (tgtIdx h.tgt)))
  ∧ (∀ s h data d u, Admitted moveStopCard s h data → s.boot.role ≠ .lane → d = s.doorTgt (tagOf 0x3002 h s) → u = heard h s →
    u.doorStands d = true ∧ (u.door d).cmd = none ∧ (u.door d).next = none →
    Ends (.moveStop h data) s h 0x3002 2 0 (leS 4 (u.doorPos d) ++ zeros 4) u)
  ∧ (∀ s h data d u, Admitted moveStopCard s h data → s.boot.role ≠ .lane → d = s.doorTgt (tagOf 0x3002 h s) → u = heard h s →
    ¬ (u.doorStands d = true ∧ (u.door d).cmd = none ∧ (u.door d).next = none) →
    Runs (.moveStop h data) s h 0x3002 [] (u.askDoorStop (if rd data 0 1 = 1 then .s1 else .s2) (some (tagOf 0x3002 h s)) d))

/-- R158, R164: an admitted TRUNK_ENUMERATE begins the enumeration of the selected trunks that are enabled, which carry
nothing meanwhile; SEGMENT_SERVICE notes what is asked of its segment for the next boundary (log 33). -/
def Obligations.TrunkCards : Prop :=
  (∀ s h data m, Admitted trunkEnumerateCard s h data →
    m = (trunkNums.filter fun t => bit (rd data 0 2 % 4096) t && (heard h s).trunkOn t).foldl (fun a t => a + 2 ^ t) 0 →
    Runs (.trunkEnumerate h data) s h 0x3040 []
      { heard h s with
        enumRun := s.enumRun ++ [(some (tagOf 0x3040 h s), m, (heard h s).time.now)]
        trunks := s.trunks.mapIdx fun i t => if bit m i then { t with carries := false } else t })
  ∧ (∀ s h data x, Admitted segmentServiceCard s h data → x = (heard h s).segRun (tgtIdx h.tgt) →
    Ends (.segmentService h data) s h 0x3044 2 0 []
      ((heard h s).putSeg { x with
        svcPend := if rd data 0 1 = 1 then some 1 else if x.st = .service ∨ x.svcPend = some 1 then some 0 else x.svcPend }))

/-- R190-R201: an admitted BANK_LOAD fills the bank it names of its channel, and BANK_SWAP waits for its pass: the launch edge, or 31.25 us after
acceptance; INJECT_START puts its signal on the channel's point and INJECT_STOP takes it away; CAPTURE_ARM arms its buffer, or triggers it
at once where TRIG is 0; LOOP_ACK releases the trips it names, and with no fault standing that is all. -/
def Obligations.LoopCards : Prop :=
  (∀ s h data, Admitted bankLoadCard s h data →
    Ends (.bankLoad h data) s h 0x4002 2 0 (zeros 4)
      ((heard h s).modChan (Cfg.Bank.CH data) fun c =>
        if Cfg.Bank.BANK data = 1 then { c with bankB0 := data, loadedB := true } else { c with bankA0 := data, loadedA := true }))
  ∧ (∀ s h data, Admitted bankSwapCard s h data →
    Runs (.bankSwap h data) s h 0x4003 []
      ((heard h s).modChan (rd data 0 1) fun c => { c with swap := some (tagOf 0x4003 h s, rd data 1 1, (heard h s).time.now + 31250) }))
  ∧ (∀ s h data, Admitted injectStartCard s h data →
    Runs (.injectStart h data) s h 0x4004 []
      ((heard h s).modChan (rd data 0 1) fun c => { c with inj := some {
        tag := tagOf 0x4004 h s, kind := rd data 1 1, point := rd data 2 1, ord := rd data 3 1, amp := f32At data 4, dur := rd data 8 4
        f0 := f32At data 12, f1 := f32At data 16, holdN := max 1 (rd data 20 2), reg := 2 ^ rd data 3 1 - 1, startAt := (heard h s).time.now } }))
  ∧ (∀ s h data j, Admitted injectStopCard s h data → ((heard h s).loopCh (rd data 0 1)).inj = some j → j.tag.opc = 0x4004 →
    Ends (.injectStop h data) s h 0x4005 2 0 []
      ((heard h s).modChan (rd data 0 1) fun c => { c with inj := none, sig := F64.zero }))
  ∧ (∀ (s : State) (h : Hdr) (data : List Byte) (b : Cap), Admitted captureArmCard s h data →
    b = { st := 1, ch := rd data 1 1, node := h.tgt, sigA := rd data 2 1, sigB := rd data 3 1, decim := max 1 (rd data 4 2)
          trig := rd data 6 1, pre := rd data 8 4 } →
    Ends (.captureArm h data) s h 0x4006 2 0 []
      { heard h s with
        caps := s.caps.set (rd data 0 1)
          (if rd data 6 1 = 0 then b.trigger (heard h s).time.now ((((heard h s).chanRec? (rd data 1 1)).map chanNs).getD 125000) else b) })
  ∧ (∀ s h data, Admitted loopAckCard s h data → s.safe.faults = [] →
    Ends (.loopAck h data) s h 0x4008 2 0 []
      ((heard h s).modChan (rd data 0 1) fun c =>
        { c with satTrip := c.satTrip && !bit (rd data 1 1) 0, plTrip := c.plTrip && !bit (rd data 1 1) 1 }))

/-- R217, R224, R229: an admitted AUTH_CLOSE takes over the blocks of its node from the commands that wait for them, and waits for the
next boundary; a TRIP_EVAL joins the evaluations; CALL_CANCEL ends the call it names, CANCELLED; CAR_SERVICE sets the service mode of its car,
and for a car without calls of its own that is all. -/
def Obligations.AuthorityAndCarCards : Prop :=
  (∀ s h data, Admitted authCloseCard s h data →
    Runs (.authClose h data) s h 0x5003 []
      { heard h s with auth := { s.auth with closing :=
          (s.auth.closing.map fun k => { k with blocks := k.blocks.filter fun b => !((heard h s).nodeBlocks h.tgt).contains b })
            ++ [{ tag := tagOf 0x5003 h s, close := rd data 0 1 == 1, blocks := (heard h s).nodeBlocks h.tgt }] } })
  ∧ (∀ s h data, Admitted tripEvalCard s h data →
    Runs (.tripEval h data) s h 0x5014 [] { heard h s with disp := { s.disp with evals := s.disp.evals ++ [⟨tagOf 0x5014 h s, data⟩] } })
  ∧ (∀ s h data, Admitted callCancelCard s h data →
    Becomes (.callCancel h data) s ((begun 0x5011 h s).endCall (rd data 0 2) 4 5))
  ∧ (∀ s h data c, Admitted carServiceCard s h data → c = tgtIdx h.tgt → ((heard h s).car c).svc.mode = rd data 0 1 →
    Ends (.carService h data) s h 0x5013 2 0 [] (heard h s))
  ∧ (∀ s h data c, Admitted carServiceCard s h data → c = tgtIdx h.tgt → ((heard h s).car c).svc.mode ≠ rd data 0 1 →
      (∀ k ∈ s.disp.calls, k.car ≠ some c) →
    Ends (.carService h data) s h 0x5013 2 0 [] ((heard h s).modSvc c fun v => { v with mode := rd data 0 1 }))

/-- R222, R223, R226: an admitted CALL_SUBMIT is judged in order: one that passes enters the pending list WAITING, with the
command in flight until it is answered; one over its rate, or that finds 48 calls unanswered, is refused and counted; one whose floors or
passengers do not fit, or that finds its source's share or the list full, is refused; one that repeats a waiting call adds its passengers to it. -/
def Obligations.CallSubmitIsJudged : Prop :=
  (∀ s h data v, Admitted callSubmitCard s h data → v = (begun 0x5010 h s).hear 0 (rd data 0 2) (rd data 2 2) (rd data 4 1) (rd data 5 1) →
    v.1 = .fine →
    Runs (.callSubmit h data) s h 0x5010 []
      (v.2.enterCall { frm := rd data 0 2, dst := rd data 2 2, pax := rd data 4 1, access := bit (rd data 5 1) 0
                       recv := (heard h s).time.now, pending := true, tag := some (tagOf 0x5010 h s) }))
  ∧ (∀ s h data v, Admitted callSubmitCard s h data → v = (begun 0x5010 h s).hear 0 (rd data 0 2) (rd data 2 2) (rd data 4 1) (rd data 5 1) →
    v.1 = .rated → Ends (.callSubmit h data) s h 0x5010 3 0x5014 [] v.2)
  ∧ (∀ s h data v, Admitted callSubmitCard s h data → v = (begun 0x5010 h s).hear 0 (rd data 0 2) (rd data 2 2) (rd data 4 1) (rd data 5 1) →
    v.1 = .crowded → Ends (.callSubmit h data) s h 0x5010 3 0x5018 [] v.2)
  ∧ (∀ s h data v, Admitted callSubmitCard s h data → v = (begun 0x5010 h s).hear 0 (rd data 0 2) (rd data 2 2) (rd data 4 1) (rd data 5 1) →
    v.1 = .floors → Ends (.callSubmit h data) s h 0x5010 3 0x5010 [] v.2)
  ∧ (∀ s h data v, Admitted callSubmitCard s h data → v = (begun 0x5010 h s).hear 0 (rd data 0 2) (rd data 2 2) (rd data 4 1) (rd data 5 1) →
    v.1 = .full → Ends (.callSubmit h data) s h 0x5010 3 0x5012 [] v.2)
  ∧ (∀ s h data v, Admitted callSubmitCard s h data → v = (begun 0x5010 h s).hear 0 (rd data 0 2) (rd data 2 2) (rd data 4 1) (rd data 5 1) →
    v.1 = .pax → Ends (.callSubmit h data) s h 0x5010 3 0x5011 [] v.2)
  ∧ (∀ s h data v, Admitted callSubmitCard s h data → v = (begun 0x5010 h s).hear 0 (rd data 0 2) (rd data 2 2) (rd data 4 1) (rd data 5 1) →
    v.1 = .srcFull → Ends (.callSubmit h data) s h 0x5010 3 0x5013 [] v.2)
  ∧ (∀ s h data v id, Admitted callSubmitCard s h data → v = (begun 0x5010 h s).hear 0 (rd data 0 2) (rd data 2 2) (rd data 4 1) (rd data 5 1) →
    v.1 = .absorbed id → Ends (.callSubmit h data) s h 0x5010 2 0x5017 (callReply ((v.2.absorb id (rd data 4 1)).callIn [] id)) (v.2.absorb id (rd data 4 1)))

/-- R116, R251 and the cards of spec 09: an admitted DOOR_OPEN, DOOR_CLOSE or DOOR_HOME of a door with no command waiting waits for its boundary. -/
def Obligations.DoorCommandsWait : Prop :=
  (∀ s h data d, Admitted doorOpenCard s h data → d = s.doorTgt (tagOf 0x6001 h s) → (s.door d).next = none →
    Runs (.doorOpen h data) s h 0x6001 []
      ((heard h s).modDoor d fun x => { x with
        next := some { tag := some (tagOf 0x6001 h s), kind := 0, width := rd data 0 2, cycle := bit (rd data 2 1) 0, dwell := rd data 4 2
                       due := (heard h s).time.now, since := (heard h s).time.now } }))
  ∧ (∀ s h data d, Admitted doorCloseCard s h data → d = s.doorTgt (tagOf 0x6002 h s) → (s.door d).next = none →
    Runs (.doorClose h data) s h 0x6002 []
      ((heard h s).modDoor d fun x => { x with
        next := some { tag := some (tagOf 0x6002 h s), kind := 1, nudge := rd data 0 1 == 1
                       due := (heard h s).time.now, since := (heard h s).time.now } }))
  ∧ (∀ s h data d, Admitted doorHomeCard s h data → d = s.doorTgt (tagOf 0x6003 h s) → (s.door d).next = none →
    Runs (.doorHome h data) s h 0x6003 []
      ((heard h s).modDoor d fun x => { x with
        next := some { tag := some (tagOf 0x6003 h s), kind := 2, due := (heard h s).time.now, since := (heard h s).time.now } }))

/-- R280, R283: an admitted SAFETY_RESET joins the reset requests, and waits for the release conditions; a SAFETY_TEST with
the latch set begins the full test. With the latch clear the test sets it first, through a channel that the spec leaves open
(a free value, log 6). -/
def Obligations.SafetyResetAndTest : Prop :=
  (∀ s h data, Admitted safetyResetCard s h data →
    Runs (.safetyReset h data) s h 0x7002 [] { heard h s with safe := { s.safe with resets := s.safe.resets ++ [⟨some (tagOf 0x7002 h s), (heard h s).time.now⟩] } })
  ∧ (∀ s h data, Admitted safetyTestCard s h data → s.safe.latch = true →
    Runs (.safetyTest h data) s h 0x7003 [] { heard h s with safe := { s.safe with testing := some (some (tagOf 0x7003 h s), false) } })
  ∧ (∀ s h data, Admitted safetyTestCard s h data → s.safe.latch = false →
    Becomes (.safetyTest h data) s
      ({ begun 0x7003 h s with safe := { s.safe with testing := some (some (tagOf 0x7003 h s), true) }, free := s.free + 1 }.trip
        (2 ^ ((Config.freeValue s.free).toNat % 8)) 1))

/-- R290, R295, R296: an admitted FIELD_OUT_WRITE sets the commanded value of its output, DONE with 0x0000, or with 0x8020 where a 1 waits for its
group; FIELD_OUT_ACK clears the latches it names. A write sets the commanded value of its output and of no other, and SAGLATCH as R295 and
R296 say. -/
def Obligations.FieldOutputCards : Prop :=
  (∀ s h data n, Admitted fieldOutWriteCard s h data → (heard h s).fqOf h.tgt = some n →
    Ends (.fieldOutWrite h data) s h 0x8002 2 (if rd data 0 1 ≠ 0 ∧ s.grpOk (fqGroup n) = false then 0x8020 else 0)
      (qstate ((begun 0x8002 h s).writeFq n (rd data 0 1 != 0)) n) ((begun 0x8002 h s).writeFq n (rd data 0 1 != 0)))
  ∧ (∀ s h data n u, Admitted fieldOutAckCard s h data → (heard h s).fqOf h.tgt = some n →
    u = { heard h s with field := { s.field with fq := s.field.fq.modify n fun q =>
      { q with sag := q.sag && !bit (rd data 0 1) 0, rbFlt := q.rbFlt && !bit (rd data 0 1) 1, therm := q.therm && !bit (rd data 0 1) 2 } } } →
    Ends (.fieldOutAck h data) s h 0x8003 2 0 (qstate u n) u)
  ∧ (∀ (s : State) (n : Nat) (v : Bool), n < s.field.fq.length →
    ((s.writeFq n v).fq n).cmd = v
    ∧ (v = false → ((s.writeFq n v).fq n).sag = false)
    ∧ (v = true → s.grpOk (fqGroup n) = false → ((s.writeFq n v).fq n).sag = true)
    ∧ (∀ m, m ≠ n → (s.writeFq n v).fq m = s.fq m))

/-- R315, R320: an admitted CAN_SEND joins the transmit queue of its channel; CAN_TAKE tells its objects and takes them;
CAN_POWER wakes a channel asleep, or begins to put one to sleep. -/
def Obligations.CanCards : Prop :=
  (∀ s h data ch fl, Admitted canSendCard s h data → ch = rd data 0 1 → fl = rd data 1 1 →
      (∀ f ∈ (s.chan ch).txq, ¬(f.id = rd data 4 4 % 2 ^ 29 ∧ f.ext = bit fl 0)) →
    Runs (.canSend h data) s h 0x9002 []
      ((heard h s).modCan ch fun c => { c with
        txq := c.txq.filter (fun g => !(g.id == rd data 4 4 % 2 ^ 29 && g.ext == bit fl 0)) ++
          [{ id := rd data 4 4 % 2 ^ 29, ext := bit fl 0, fd := bit fl 1, brs := bit fl 2, dlc := rd data 2 1, data := data.drop 12, order := c.order
             expire := if rd data 8 4 = 0 then 0 else (heard h s).time.now + rd data 8 4 * 1000, kind := .host (tagOf 0x9002 h s) }]
        order := c.order + 1 }))
  ∧ (∀ s h data, Admitted canTakeCard s h data →
    ∃ t, exec (.canTake h data) s = .next t ∧ Replied t h 0x9004 2 0 (canReadReply (heard h s) (tagOf 0x9004 h s) data)
      ∧ t.can = s.can.modify (rd data 0 1) (fun c => { c with
          objs := c.objs.map fun o => if rd data 2 2 ≤ o.idx ∧ o.idx < rd data 2 2 + rd data 4 2 then o.taken else o }))
  ∧ (∀ s h data, Admitted canPowerCard s h data → rd data 1 1 ≠ 0 → (s.chan (rd data 0 1)).txq = [] →
    Runs (.canPower h data) s h 0x9005 []
      ((heard h s).modCan (rd data 0 1) fun c => { c with txq := [], sleeping := some (tagOf 0x9005 h s), prev := c.st }))
  ∧ (∀ s h data, Admitted canPowerCard s h data → rd data 1 1 = 0 →
    ∃ t, exec (.canPower h data) s = .next t ∧ device t = device ((begun 0x9005 h s).wakeCan (rd data 0 1) 0xFFFFFFFF)
      ∧ Replied t h 0x9005 2 0 (le 1 (t.chan (rd data 0 1)).st.code ++ zeros 3))

/-- R359, R378, R396: an admitted PAIR_PROVE begins the proving swap, with B0 the first boundary at or after its instant; ATTEST_QUOTE and
LEDGER_HEAD keep one statement a pair and nonce, and tell a piece of it. -/
def Obligations.PairAndStatementCards : Prop :=
  (∀ s h data, Admitted pairProveCard s h data →
    Runs (.pairProve h data) s h 0xB010 []
      ((heard h s).modPr fun x => { x with prove := some {
        tag := tagOf 0xB010 h s, back := rd data 0 1 == 1, dwell := rd data 2 2
        b0 := boundaryAfter (heard h s).time.phase tickNs ((heard h s).time.now - 1) } }))
  ∧ (∀ s h data q, Admitted attestQuoteCard s h data →
    q = (if rd data 32 2 = 0 then { pair := h.pair, which := 0, nonce := data.take 32, bytes := (heard h s).quote (data.take 32), at0 := (heard h s).time.now }
         else ((heard h s).kept 0 h.pair (data.take 32)).getD
           { pair := h.pair, which := 0, nonce := data.take 32, bytes := (heard h s).quote (data.take 32), at0 := (heard h s).time.now }) →
    Ends (.attestQuote h data) s h 0xC001 2 0
      (le 2 q.bytes.length ++ le 2 (rd data 32 2) ++ le 2 (piece q.bytes (rd data 32 2) (if rd data 34 2 = 0 then q.bytes.length else rd data 34 2)).length
        ++ zeros 2 ++ piece q.bytes (rd data 32 2) (if rd data 34 2 = 0 then q.bytes.length else rd data 34 2))
      ((heard h s).keep q))
  ∧ (∀ s h data q, Admitted ledgerHeadCard s h data →
    q = (if rd data 32 2 = 0 then { pair := h.pair, which := 1, nonce := data.take 32, bytes := (heard h s).aliasSigns ((heard h s).headBody (data.take 32)), at0 := (heard h s).time.now }
         else ((heard h s).kept 1 h.pair (data.take 32)).getD
           { pair := h.pair, which := 1, nonce := data.take 32, bytes := (heard h s).aliasSigns ((heard h s).headBody (data.take 32)), at0 := (heard h s).time.now }) →
    Ends (.ledgerHead h data) s h 0xD004 2 0
      (le 2 q.bytes.length ++ le 2 (rd data 32 2) ++ le 2 (piece q.bytes (rd data 32 2) (if rd data 34 2 = 0 then q.bytes.length else rd data 34 2)).length
        ++ zeros 2 ++ piece q.bytes (rd data 32 2) (if rd data 34 2 = 0 then q.bytes.length else rd data 34 2))
      ((heard h s).keep q))

/-- R49, R372, R373, R375: an admitted PROVISION stores the Custodian keys and a share drawn as a free value (log 6), and leaves pair 0
owned by domain 0 with quota 16 and every other pair unowned; a KEY_UPDATE that does not complete its message keeps it, and one
that completes it raises KEYCTR to the message's counter; a KEY_OP joins the operations in progress with the key of its slot.
R397, R399, R400: an admitted LEDGER_CLEAR waits with the index it has seen; JOURNAL_READ tells records from an index, and with
CONSUME 1 moves the read index behind them. -/
def Obligations.VaultAndLedgerCards : Prop :=
  (∀ s h data, Admitted provisionCard s h data →
    ∃ t, exec (.provision h data) s = .next t ∧ Replied t h 0xC010 2 0 devid
      ∧ t.sec.cust = some (rd data 0 97, rd data 100 1952) ∧ t.vault.share = some (Config.freeValue s.free).toNat ∧ t.vault.st = .provisioned
      ∧ ∀ p < s.rings.length, (t.ring p).owner = if p = 0 then some 0 else none)
  ∧ (∀ s h data m, Admitted keyUpdateCard s h data → s.kuNext data = some m → m.length ≠ rd data 4 4 →
    Ends (.keyUpdate h data) s h 0xC011 2 0 (le 4 s.keyctr)
      { heard h s with sec := { s.sec with keyMsg := some { next := m.length, total := rd data 4 4, bytes := m } } })
  ∧ (∀ s h data m, Admitted keyUpdateCard s h data → s.kuNext data = some m → m.length = rd data 4 4 →
    GoesOnWith (.keyUpdate h data) s fun t => t.sec.keyMsg = none ∧ t.vault.ctr = s.vault.ctr.set 0 (rd m 20 4))
  ∧ (∀ s h data, Admitted keyOpCard s h data →
    Runs (.keyOp h data) s h 0xC020 []
      { heard h s with free := s.free + 1, sec := { s.sec with keyOps := s.sec.keyOps ++
          [{ tag := tagOf 0xC020 h s, data := data, key := (s.slot (koSlot data)).key, free := s.free }] } })
  ∧ (∀ s h data, Admitted ledgerClearCard s h data →
    Runs (.ledgerClear h data) s h 0xD005 [] { heard h s with led := { s.led with clear := some { tag := tagOf 0xD005 h s, seenHi := rd data 20 4 } } })
  ∧ (∀ s h data p xs, Admitted journalReadCard s h data → p = s.jrn.from (rd data 0 4) → xs = p.1.take (rd data 4 2) →
    Ends (.journalRead h data) s h 0xD010 2 0
      (le 4 ((xs.head?.map (·.seq)).getD (rd data 0 4)) ++ le 4 (wrapAdd 32 s.jrn.jseq (2 ^ 32 - 1)) ++ le 4 s.jrn.jover ++ le 2 xs.length
        ++ le 1 (b2n p.2) ++ zeros 1 ++ xs.flatMap JRec.bytes)
      (if rd data 6 1 = 1 then
        { heard h s with jrn := { s.jrn with
          jrd := (match xs.getLast? with | some r => wrapAdd 32 r.seq 1 | none => s.jrn.jrd)
          fired := decide (49152 < (s.jrn.jseq + 2 ^ 32 - (match xs.getLast? with | some r => wrapAdd 32 r.seq 1 | none => s.jrn.jrd)) % 2 ^ 32) } }
       else heard h s))

/-- R382: an admitted SESSION_CLOSE of another pair ends DONE, with that pair's session gone; SESSION_REKEY ends its epoch: the pair
goes on in the next, with SEQ from 1 in both directions, where its reply can be placed. -/
def Obligations.SessionCards : Prop :=
  (∀ s h data, Admitted sessionCloseCard s h data → rd data 0 1 ≠ h.pair →
    ∃ t, exec (.sessionClose h data) s = .next t ∧ Replied t h 0xC031 2 0 [] ∧ (t.ring (rd data 0 1)).sess = none)
  ∧ (∀ s h data se, Admitted sessionRekeyCard s h data → h.pair < 16 → (s.ring h.pair).sess = some se → se.tr ≠ .pcie → (s.ring h.pair).held = [] →
    ∃ t, exec (.sessionRekey h data) s = .next t ∧ (t.ring h.pair).sess = some (se.atEpoch (se.epoch + 1))
      ∧ (t.ring h.pair).rxSeq = 1)

/-! ## The event rows -/

/-- R29, R31, R34, R36, R65, R446: the rows of the register window. A register write changes what `registerWrite` says of its offset; an offset
that is not defined, or RO, changes nothing; a read over SPI shifts out SPI_STAT and the register; BOOT_FAULT and RING_ERR bits are
cleared by writing 1, a BOOT_FAULT bit whose condition persists stays set; RING_CFG takes sizes while EN = 0 and EN while no error
bit is set; EQ_CI moves up to EQ_PI, and a value beyond it sets CIJUMP and clears EN (log 19); PERST_N resets the MSI-X table alone
(log 20); a moderated vector signals when its interval ends. -/
def Obligations.RegisterRowsWriteTheirRegister : Prop :=
  ∀ (s u : State) (t pair offset v vec t0 : Nat) (w : Word32), u = s.advance t →
    Becomes (.registerWrite t 0x18 w) s { u with boot := { u.boot with scratch := w.toNat } }
  ∧ Becomes (.registerWrite t offset w) s (u.registerWrite offset w.toNat)
  ∧ ((offset ≠ 0x18 ∧ offset < 0x1000 ∨ 0x1400 ≤ offset ∧ offset < 0x2000 ∨ 0x2200 ≤ offset) → u.registerWrite offset v = u)
  ∧ Becomes (.windowRead t offset) s (u.shiftOut (le 4 (u.window offset)))
  ∧ ((∀ n ∈ [0x00, 0x04, 0x08, 0x0C, 0x10, 0x14, 0x18], offset ≠ n) → u.window offset = 0)
  ∧ Becomes (.bootFault t w) s { u with boot := { u.boot with fault := clearBits u.boot.fault w.toNat ||| u.faultsPersisting } }
  ∧ Becomes (.ringErr t pair w) s (u.modRing pair fun r => { r with err := clearBits r.err w.toNat })
  ∧ ((u.ring pair).en = false → (u.ring pair).err = 0 → Becomes (.ringCfg t pair w) s
      (u.modRing pair fun r => { r with sqSize := w.toNat % 16, eqSize := w.toNat / 16 % 16, en := bit w.toNat 8 }))
  ∧ ((u.ring pair).en = true → Becomes (.ringCfg t pair w) s (u.modRing pair fun r => { r with en := bit w.toNat 8 && r.err == 0 }))
  ∧ ((u.ring pair).err ≠ 0 → (u.ring pair).en = false → Becomes (.ringCfg t pair w) s
      (u.modRing pair fun r => { r with sqSize := w.toNat % 16, eqSize := w.toNat / 16 % 16, en := false }))
  ∧ ((v % 2 ^ 32 + 2 ^ 32 - (u.ring pair).eqCi) % 2 ^ 32 ≤ (u.ring pair).eqUsed →
      Becomes (.eqCi t pair v) s (u.modRing pair fun r => { r with eqCi := v % 2 ^ 32 }))
  ∧ ((u.ring pair).eqUsed < (v % 2 ^ 32 + 2 ^ 32 - (u.ring pair).eqCi) % 2 ^ 32 →
      Becomes (.eqCi t pair v) s (u.modRing pair fun r => { r with err := r.err ||| 8, en := false }))
  ∧ (∃ x, exec (.perstN t) s = .next x ∧ device x = device { u with msix := State.reset.msix })
  ∧ (u.msix.modPend.getD vec false = true → u.msix.last.getD vec none = some t0 → t0 + 1000 * u.msix.mod.getD vec 0 ≤ u.time.now →
      exec (.msixModerationExpiry t vec) s = .next ({ u with msix := { u.msix with modPend := u.msix.modPend.set vec false }.signal u.time.now vec } : State).flush)
  ∧ ((u.ring pair).fullSince = some t0 → t0 + 10000000 < u.time.now → BecomesTelling (.eqHeldFull t pair) s u 0x02 0 0 [])

/-- R35-R40, R45, R471: the rows of the transports. A doorbell over PCIe reads the packets it covers; one that jumps sets PIJUMP and clears
EN; a failed read of host memory sets its error bit after the packets that were read. A datagram or an SPI transfer whose size agrees
with its LEN is delivered; an SPI transfer that does not agree sets SPI_STAT[1] and changes nothing else. An EQ read over SPI shifts out
the next record, and removes it when all of its bytes were clocked out. -/
def Obligations.TransportRowsDeliverPackets : Prop :=
  ∀ (s u : State) (t pair v n : Nat) (p : Packet) (pkts : List Packet) (rdErr wrErr : Bool) (r : Ring), u = s.advance t →
    u.power.mode ≠ .sleep → (∀ tr, u.power.pend ≠ some (1, tr)) →
    (r = (u.modRing pair fun r => { r with sqPi := v % 2 ^ 32 }).ring pair → r.sess.map (·.tr) = some .pcie →
        ringSlots r.sqSize < (r.sqPi + 2 ^ 32 - r.sqCi) % 2 ^ 32 →
        Becomes (.sqPi t pair v pkts rdErr wrErr) s (u.modRing pair fun r => { r with sqPi := v % 2 ^ 32, err := r.err ||| 1, en := false }))
  ∧ (∀ x y, r = (u.modRing pair fun r => { r with sqPi := v % 2 ^ 32 }).ring pair → r.sess.map (·.tr) = some .pcie →
        (r.sqPi + 2 ^ 32 - r.sqCi) % 2 ^ 32 ≤ ringSlots r.sqSize →
        x = State.readSq pair pkts (u.modRing pair fun r => { r with sqPi := v % 2 ^ 32 }) →
        y = (if rdErr && r.en then x.ringError pair 1 else x) →
        Becomes (.sqPi t pair v pkts rdErr wrErr) s (if wrErr && r.en then y.ringError pair 2 else y))
  ∧ ((u.ring pair).sess.map (·.tr) ≠ some .pcie → Becomes (.sqPi t pair v pkts rdErr wrErr) s (u.modRing pair fun r => { r with sqPi := v % 2 ^ 32 }))
  ∧ (u.boundTo pair .ethernet = true → framed p = true → Becomes (.ethernetPacket t pair p) s (u.deliver1 pair p))
  ∧ (framed p = false → Becomes (.ethernetPacket t pair p) s u)
  ∧ (u.boundTo pair .spi = true → framed p = true → Becomes (.sqWrite t pair p) s (((u.shiftOut []).setSpi false false).deliver1 pair p))
  ∧ (u.boundTo pair .spi = true → framed p = false → Becomes (.sqWrite t pair p) s ((u.shiftOut []).setSpi true false))
  ∧ (∀ se x xs w, (u.ring pair).sess = some se → se.tr = .spi → (u.ring pair).placed = x :: xs → w = sealRec x → 2 + w.length ≤ n →
        Becomes (.eqRead t pair n) s (u.shiftOut (le 2 w.length ++ w)))
  ∧ (∀ se x xs w, (u.ring pair).sess = some se → se.tr = .spi → (u.ring pair).placed = x :: xs → w = sealRec x → n < 2 + w.length →
        exec (.eqRead t pair n) s = .next (u.shiftOut ((le 2 w.length ++ w).take n)).flush)

/-- R379-R382: an admitted HELLO on a port that is heard begins a handshake and gives REPLY; one that is not gives ERROR with the first reason that
holds; a FINISH ends its handshake: late, badly signed or with a wrong MAC it gives ERROR, else the session binds with DONE; 2 s after
its HELLO a handshake ends in ERROR; a message is read out fragment by fragment. A peer's answer is told with 0xC3 where the peer is
not listed, and opens a FINISH where its signature verifies. -/
def Obligations.HandshakeRowsOpenSessions : Prop :=
  ∀ (s u v : State) (t pair hsid sigE sigQ mac : Nat) (tr : Transport) (m : Hello) (x : Hs) (g : PeerMsg), u = s.advance t →
    (u.hsArrival tr = some v → v.helloBars tr m = none → Becomes (.hello t tr m) s (v.startHs tr m))
  ∧ (∀ reason, u.hsArrival tr = some v → v.helloBars tr m = some reason →
      Becomes (.hello t tr m) s (v.say m.pair m.hsid 5 (le 2 reason ++ zeros 2)))
  ∧ (u.hsArrival tr = none → Becomes (.hello t tr m) s u)
  ∧ ((u.sec.hs.find? fun x => x.pair == pair && x.hsid == hsid && x.tr == tr) = some x →
      v = u.modSec (fun y => { y with hs := y.hs.filter fun z => z != x }) →
      (x.at0 + 2 * 10 ^ 9 ≤ u.time.now → Becomes (.finish t pair hsid tr sigE sigQ mac) s (v.say pair hsid 5 (le 2 0xC074 ++ zeros 2)))
      ∧ (u.time.now < x.at0 + 2 * 10 ^ 9 → u.finishSigned x sigE sigQ = false →
          Becomes (.finish t pair hsid tr sigE sigQ mac) s (v.say pair hsid 5 (le 2 0xC072 ++ zeros 2)))
      ∧ (u.time.now < x.at0 + 2 * 10 ^ 9 → u.finishSigned x sigE sigQ = true → mac ≠ (x.finmac 0).toNat →
          Becomes (.finish t pair hsid tr sigE sigQ mac) s (v.say pair hsid 5 (le 2 0xC073 ++ zeros 2)))
      ∧ (u.time.now < x.at0 + 2 * 10 ^ 9 → u.finishSigned x sigE sigQ = true → mac = (x.finmac 0).toNat → unitLink pair = false →
          exec (.finish t pair hsid tr sigE sigQ mac) s = .next ((v.say pair hsid 4 (le 48 (x.finmac 1).toNat)).bindSession pair
            (Session.atEpoch 0 { pair := pair, dom := x.hello.dom, tr := tr, prov := x.prov, prk := x.prk })).flush)
      ∧ (u.time.now < x.at0 + 2 * 10 ^ 9 → u.finishSigned x sigE sigQ = true → mac = (x.finmac 0).toNat → unitLink pair = true →
          Becomes (.finish t pair hsid tr sigE sigQ mac) s ((v.say pair hsid 4 (le 48 (x.finmac 1).toNat)).bindLink pair u.ownCar)))
  ∧ ((u.sec.hs.filter fun y => y.pair == pair && decide (y.at0 + 2 * 10 ^ 9 ≤ u.time.now)) = [x] →
      Becomes (.handshakeTimeout t pair) s ((u.modSec fun y => { y with
        hs := y.hs.filter fun z => !(z.pair == pair && decide (z.at0 + 2 * 10 ^ 9 ≤ u.time.now)) }).say pair x.hsid 5 (le 2 0xC074 ++ zeros 2)))
  ∧ (∀ o, (u.sec.hsOut.find? fun o => o.pair == pair) = some o → 1200 * (o.frag + 1) < o.bytes.length →
      Becomes (.handshakeFragmentRead t pair) s ((u.shiftOut (le 2 (o.frame o.frag).length ++ o.frame o.frag)).modSec fun x => { x with
        hsOut := x.hsOut.map fun y => if y = o then { y with frag := y.frag + 1 } else y }))
  ∧ (∀ o, (u.sec.hsOut.find? fun o => o.pair == pair) = some o → o.bytes.length ≤ 1200 * (o.frag + 1) →
      Becomes (.handshakeFragmentRead t pair) s ((u.shiftOut (le 2 (o.frame o.frag).length ++ o.frame o.frag)).modSec fun x => { x with
        hsOut := x.hsOut.filter fun y => y != o }))
  ∧ ((if g.pair = 0xFF then 3 else 4) ≤ u.boot.stage → u.boot.reduced = false → u.sec.tamper = false → unitLink g.pair = true → u.serves = true →
      (u.listed g = false → BecomesTelling (.handshakeReply t g) s u 0xC3 0 0xC071 (u.secItems g.pair 0xC071))
      ∧ (u.listed g = true → g.isDone = true → (u.sec.hs.find? fun x => x.pair == g.pair && x.hello.dom == g.car) = some x →
          g.mac = (x.finmac 1).toNat → Becomes (.handshakeReply t g) s ((u.modSec fun y => { y with hs := y.hs.filter fun z => z != x }).bindLink g.pair g.car))
      ∧ (u.listed g = true → g.isDone = true → (u.sec.hs.find? fun x => x.pair == g.pair && x.hello.dom == g.car) = some x →
          g.mac ≠ (x.finmac 1).toNat → BecomesTelling (.handshakeReply t g) s u 0xC3 0 0xC073 (u.secItems g.pair 0xC073))
      ∧ (u.listed g = true → g.isDone = false → bothOk (Config.peerPublic g.devid) (peerBytes g) g.sigE g.sigQ = false →
          BecomesTelling (.handshakeReply t g) s u 0xC3 0 0xC072 (u.secItems g.pair 0xC072))
      ∧ (∀ own y, u.listed g = true → g.isDone = false → bothOk (Config.peerPublic g.devid) (peerBytes g) g.sigE g.sigQ = true →
          own = (Config.freeValue u.free).toNat →
          y = ({ pair := g.pair, hsid := g.car, tr := .ethernet, hello := ⟨g.pair, g.car, g.car, own, 0, 0⟩, nd := g.devid
                 secret := Config.kemSecret own g.devid, at0 := u.time.now } : Hs) →
          Becomes (.handshakeReply t g) s (({ u with
            free := u.free + 1
            sec := { u.sec with hs := (u.sec.hs.filter fun (z : Hs) => !(z.pair == g.pair && z.hello.dom == g.car)) ++ [y] } } : State).say g.pair g.car 3
              (u.aliasSigns y.digest ++ le 48 (y.finmac 0).toNat))))

/-- R366, R370, R383-R385, R461: the oldest operation ends DONE with its result; a sensor that is off sets its SENSE bit and nothing more; an ERASE
sensor erases the share and the keys, notes itself, and in run lets fault 0x14 follow; a REPORT sensor notes itself and tells 0xC0; a battery
lost while the supplies are off takes the share; a TRNG failure is told with 0xC7 and makes the vault report a fault. -/
def Obligations.VaultRows : Prop :=
  ∀ (s u : State) (t n : Nat), u = s.advance t →
    (∀ k ks x, u.sec.keyOps = k :: ks → x = (u.modSec fun y => { y with keyOps := ks }).koResult k →
      Becomes (.keyOpComplete t) s x.1)
  ∧ (u.vault.action n = 0 → Becomes (.tamperDetected t n) s (u.modVault fun v => { v with sense := v.sense ||| 2 ^ n % 512 }))
  ∧ (u.vault.action n = 2 → 3 ≤ u.boot.stage → u.power.mode ≠ .sleep → (∀ tr, u.power.pend ≠ some (1, tr)) →
      GoesOnWith (.tamperDetected t n) s fun x => x.vault.share = none ∧ x.sec.keyOps = [] ∧ x.sec.kwk = false ∧ x.sec.tamper = true
        ∧ x.vault.sense = (u.vault.sense ||| 2 ^ n % 512) ∧ x.sec.tamperDue = u.sec.tamperDue ++ [n]
        ∧ x.vault.ctr = u.vault.ctr.set 3 (u.vault.ctr.getD 3 0 + 1) ∧ (∀ k ∈ x.sec.slots, k.st = .empty ∨ (k.st = .erased ∧ k.key = 0)))
  ∧ (u.vault.action n = 2 → u.boot.stage = 1 ∨ u.boot.stage = 2 → u.sec.keys = false → u.power.mode ≠ .sleep → (∀ tr, u.power.pend ≠ some (1, tr)) →
      GoesOnWith (.tamperDetected t n) s fun x => x.vault.share = none ∧ x.vault.refuse = true ∧ x.sec.tamper = true)
  ∧ (u.vault.action n = 1 → u.power.mode ≠ .sleep → (∀ tr, u.power.pend ≠ some (1, tr)) →
      Becomes (.tamperDetected t n) s (u.modVault fun v => ({ v with sense := v.sense ||| 2 ^ n % 512 } : Vault).note n 0 u.time.now))
  ∧ (u.power.mode = .batteryOnly → u.vault.share.isSome = true → Becomes (.batteryLoss t) s (u.modVault fun v => { v.note 0 1 u.time.now with
      share := none, st := if v.st = .provisioned then .erased else v.st }))
  ∧ BecomesTelling (.trngHealthFailure t) s (u.modVault fun v => { v with trngBad := true }) 0xC7 0 0
      ((u.modVault fun v => { v with trngBad := true }).secItems 0xFF 0)

/-- R1-R3, R30, R68, R403-R410, R415, R417: the rows of start-up. Power-good holds the device in stage 0; the release of reset takes straps, cause and
time and begins stage 1, or stays in stage 0 with a strap fault; the end of each stage's work enters the next; RST_N and a supply out of
range reset the control die; an image written in recovery is kept. -/
def Obligations.StartUpRowsEnterTheirStage : Prop :=
  ∀ (s u v : State) (t : Nat) (straps : Straps) (r1 : Stage1Result) (r2 : Stage2Result) (walks : List TrunkWalk) (off : Nat) (data : List Byte),
    u = s.advance t →
    (u.boot.powerGood = false → Becomes (.powerGood t) s { u with
      boot := { u.boot with
        powerGood := true, held := true, simNow := 0
        nextCause := u.boot.nextCause ||| b2n ((u.power.mode == .off || u.power.mode == .batteryOnly) && u.boot.nextCause &&& 0x20 == 0) }
      power := { u.power with mode := .off } })
  ∧ (u.boot.powerGood = true → Becomes (.rstN t true) s ((u.controlReset 0x02).modBoot fun b => { b with rstLow := true }))
  ∧ (u.boot.powerGood = false → Becomes (.rstN t true) s (u.modBoot fun b => { b with rstLow := true }))
  ∧ Becomes (.rstN t false) s (u.modBoot fun b => { b with rstLow := false })
  ∧ (u.boot.powerGood = true → u.boot.held = true → u.boot.rstLow = false → roleOf straps.roleA straps.roleB ≠ .none →
      GoesOnWith (.resetRelease t straps) s fun x => x.boot.stage = 1 ∧ x.boot.role = roleOf straps.roleA straps.roleB ∧ x.boot.strapF = false
        ∧ x.boot.cause = u.boot.nextCause ∧ x.boot.nextCause = 0 ∧ x.boot.held = false ∧ x.time = (loadTime straps.coarse u.time))
  ∧ (u.boot.powerGood = true → u.boot.held = true → u.boot.rstLow = false → u.boot.stage = 0 → roleOf straps.roleA straps.roleB = .none →
      GoesOnWith (.resetRelease t straps) s fun x => x.boot.stage = 0 ∧ x.boot.strapF = true ∧ bit x.boot.fault 0 = true)
  ∧ (u.boot.powerGood = true → v = (if u.meters && u.meter.part == 0 then u.modMeter fun m => m.commitAt u.time.now else u) →
      Becomes (.supplyOutOfRange t) s ((v.controlReset 0x20).modBoot fun b => { b with powerGood := false }))
  ∧ Becomes (.powerLoss t) s u.unpower
  ∧ (u.boot.stage = 1 → GoesOnWith (.vaultCheckComplete t r1) s fun x => x.boot.stage = 2 ∧ x.boot.mRom = le 48 Config.mRom.toNat
      ∧ x.vault = Vault.check r1 u.sec.cust.isSome u.vault ∧ (r1.bistOk = false → bit x.boot.fault 5 = true))
  ∧ (∀ w, u.boot.stage = 2 → u.boot.recovery = false → v = (if r2.mramOk then u else u.setFault 0x10) → v.chooseImage = (w, none) →
      Becomes (.imageChosen t r2) s (w.modBoot fun b => { b with recovery := true, recBytes := 0 }))
  ∧ (∀ w n, u.boot.stage = 2 → u.boot.recovery = false → v = (if r2.mramOk then u else u.setFault 0x10) → v.chooseImage = (w, some n) →
      exec (.imageChosen t r2) s
        = .next ((((w.modBoot fun b => { b with image := n, mFw := imgMeasure (w.image n).mem }).releaseKeys r2).findHead r2.ledgerTorn).enterStage3).flush)
  ∧ (u.boot.recovery = true → off + data.length ≤ 4194304 → imgSound u.boot.role (u.boot.imgA.mem.writeAll off data) = false →
      Becomes (.imageRecoveryWrite t off data) s (u.modBoot fun b => { b with
        imgA := { b.imgA with state := 0, mem := b.imgA.mem.writeAll off data }
        recBytes := if off ≤ b.recBytes then max b.recBytes (off + data.length) else b.recBytes }))
  ∧ (∀ m, u.boot.recovery = true → off + data.length ≤ 4194304 → m = u.boot.imgA.mem.writeAll off data →
      v = (u.modBoot fun b => { b with
        imgA := { b.imgA with state := 0, mem := m }
        recBytes := if off ≤ b.recBytes then max b.recBytes (off + data.length) else b.recBytes }) →
      headerLen ≤ v.boot.recBytes → headerLen + imgCodeLen m ≤ v.boot.recBytes → imgSound u.boot.role m = true → u.vault.ctr.getD 2 0 ≤ imgSvn m →
      Becomes (.imageRecoveryWrite t off data) s ((v.modImage 0 fun x => { x with state := 1, tries := 0 }).controlReset 0))
  ∧ (u.boot.stage = 3 → u.safe.tested = true → u.safe.testing = none → u.pair.st = .unpaired ∨ u.pair.pntOut = true ∨ u.pair.pntIn = true →
      GoesOnWith (.stage3Complete t walks) s fun x => x.boot.stage = 4 ∧ (u.boot.role = .lane → x.trunks = (u.walkTrunks walks).trunks)
        ∧ (u.boot.role ≠ .lane → x.trunks = u.trunks))
  ∧ (u.mayEnter5 = true → v = u.setStage 5 → Becomes (.stage5Entry t) s (if u.boot.role = .lane then v.openBooks.startEnum none 4095 else v.homeInPlace))
  ∧ (u.ready5Holds = true → v = (u.modBoot fun b => { b with ready5 := true }) →
      Becomes (.stage5Ready t) s
        (if bit (Cfg.Start.SFLG (u.one Cfg.Start.sec Cfg.Start.dflt)) 0 && u.serves && !u.chk.autoDone && u.chk.running.isNone && u.chk.learn.isNone
         then v.beginCheck none v.cfgCrc else v))

/-- R55, R59, R112, R407, R420-R426: a stage that is late is noted; a commanded reset comes 1 ms after its reply; idle entry after IDLET; a wake;
the end of the enable check enters service or refuses with its first finding; the end of a learn run ends it; a completed section and a
stored protection table end their commands. -/
def Obligations.PowerAndStoreRows : Prop :=
  ∀ (s u : State) (t n : Nat) (good : Bool) (tr : TagRec), u = s.advance t →
    (u.boot.held = false → u.boot.stage ≠ 0 → n ∈ [1, 2, 3, 4] → u.boot.stage < n → u.boot.startAt + stageDeadline n < u.time.now →
      (u.boot.trialRun = true → 4 ≤ u.boot.stage ∨ u.time.now ≤ u.boot.startAt + 1000000000) →
      Becomes (.deadlinePassed t) s (u.modBoot fun b => { b with late := true, lateDue := if b.late then b.lateDue else true }))
  ∧ (u.boot.held = false → 0 < u.boot.stage → u.boot.stage < 4 → u.boot.trialRun = true → u.boot.startAt + 1000000000 < u.time.now →
      (∃ n ∈ [1, 2, 3, 4], u.boot.stage < n ∧ u.boot.startAt + stageDeadline n < u.time.now) →
      Becomes (.deadlinePassed t) s (u.modBoot fun b => { b with late := true, lateDue := if b.late then b.lateDue else true, trialRun := false }))
  ∧ (∀ at0 x, u.power.resetDue = some (at0, x) → at0 ≤ u.time.now → Becomes (.commandedReset t) s (u.controlReset 0x10))
  ∧ (∀ t0, u.power.idleSince = some t0 → u.power.mode = .run → bit (Cfg.Start.SFLG (u.one Cfg.Start.sec Cfg.Start.dflt)) 1 = true → 5 ≤ u.boot.stage →
      u.quiet = true → t0 + Cfg.Start.IDLET (u.one Cfg.Start.sec Cfg.Start.dflt) * 10 ^ 9 ≤ u.time.now →
      Becomes (.idleEntry t) s { u with power := { u.power with mode := .idle, wakeSrc := 0, idleSince := some t0 } })
  ∧ (u.power.mode = .sleep → Becomes (.wake t n) s { u with
      power := { u.power with mode := .run, wakeSrc := n, idleSince := none }, boot := { u.boot with ready5 := false }, chk := { u.chk with autoDone := false } })
  ∧ (u.power.mode ≠ .sleep → u.power.pend = some (1, tr) → Becomes (.wake t n) s { u with power := { u.power with pend := none, wakeSrc := n } })
  ∧ (∀ r v, u.chk.running = some r →
      v = { u with chk := { u.chk with running := none, report := some (r.found.take 1024), total := r.found.length, crc := r.crc } } →
      (∀ e rest, r.found = e :: rest → r.tag = some tr → Becomes (.enableCheckComplete t) s v)
      ∧ (∀ e rest, r.found = e :: rest → r.tag = none → Becomes (.enableCheckComplete t) s (v.autoEnds e.code (min 1023 rest.length)))
      ∧ (r.found = [] → u.boot.role = .lane → u.cfg.calib.present = false → Becomes (.enableCheckComplete t) s (v.beginLearn { r with found := [] }))
      ∧ (r.found = [] → u.boot.role ≠ .lane ∨ u.cfg.calib.present = true → r.tag = some tr → Becomes (.enableCheckComplete t) s v.enterService)
      ∧ (r.found = [] → u.boot.role ≠ .lane ∨ u.cfg.calib.present = true → r.tag = none →
          Becomes (.enableCheckComplete t) s (v.enterService.autoEnds 0 0)))
  ∧ (u.chk.learn.isSome = true → u.learnHome = true →
      Becomes (.learnRunEnd t) s (u.endLearn (((u.recs Cfg.Waymark.sec).filter u.learnBad).isEmpty)))
  ∧ (∀ w ws, u.cfg.writing = w :: ws → good = true →
      Becomes (.configStoreWritten t good) s (({ u with cfg := { u.cfg with writing := ws } } : State).commitSection w.id (some w.data)))
  ∧ (∀ w ws, u.cfg.writing = w :: ws → good = false → Becomes (.configStoreWritten t good) s { u with cfg := { u.cfg with writing := ws } })
  ∧ (∀ c es g rest, u.prot.storing = (c, es, g) :: rest → good = true →
      Becomes (.protectTableStored t good) s { u with prot := { u.prot with storing := rest } })
  ∧ (∀ c es g rest, u.prot.storing = (c, es, g) :: rest → good = false →
      Becomes (.protectTableStored t good) s { u with prot := { u.prot with
        storing := rest, entries := rest.foldl (fun es (x : ProtChange × List ProtEntry × Nat) => x.1.on es) es, gen := (u.prot.gen + 2 ^ 32 - 1) % 2 ^ 32 } })

/-- R74, R403: what the boundary rows do. In stage 0 nothing counts. A tick takes Milestone time to the tick boundary that is due, applies the timebase
there and, from stage 3, counts TICKS (R32) and runs the passes of its role and power state (the order among passes that the manual leaves
open is the model's, log 75); a fast tick takes it to the fast-tick boundary that is due, and from stage 3 runs its passes. -/
def Obligations.BoundaryRowsRunTheirPasses : Prop :=
  ∀ (s u v w : State) (adc : List Int),
    (s.boot.stage = 0 → Becomes (.tick adc) s s ∧ Becomes .fastTick s s)
  ∧ (s.boot.stage ≠ 0 → u = s.toTick.timeBoundary.nextBoundary →
      (u.boot.stage < 3 → Becomes (.tick adc) s u)
      ∧ (3 ≤ u.boot.stage → v = u.copyCoarse.pendingTick →
          (v.boot.stage = 0 → Becomes (.tick adc) s v)
          ∧ (v.boot.stage ≠ 0 → v.power.mode = .sleep → Becomes (.tick adc) s v.quietTick)
          ∧ (v.boot.stage ≠ 0 → v.power.mode ≠ .sleep → v.standby = true → Becomes (.tick adc) s v.quietTick.storeTick)
          ∧ (v.boot.stage ≠ 0 → v.power.mode ≠ .sleep → v.standby = false → Becomes (.tick adc) s (v.serviceTick adc).storeTick)))
  ∧ (s.time.now ≤ s.time.nextTick → s.toTick.time.now = s.time.nextTick)
  ∧ (3 ≤ s.boot.stage → s.nextBoundary.boot.ticks = wrapAdd 32 s.boot.ticks 1)
  ∧ (s.boot.stage ≠ 0 → w = { s.toFast with time := { s.toFast.time with nextFast := boundaryAfter s.toFast.time.phase 31250 s.toFast.time.now } } →
      (s.boot.stage < 3 → Becomes .fastTick s w)
      ∧ (3 ≤ s.boot.stage → Becomes .fastTick s w.safetyFast.tamperFast.limitPass.fastPass.holdPass.keepAlives.pairLines.fieldEvents.countLapse))

/-- R82, R87, R350: LAUNCH takes Milestone time to the earliest resolved edge of the launch queue and runs what launches there, after the
device Milestones of that edge; DEVICE_MILESTONE takes it to the earliest edge of the internal queue and applies them, but not in a
standby. With nothing queued neither changes anything. -/
def Obligations.LaunchRowsComeToTheEarliestEdge : Prop :=
  ∀ (s : State) (e : Nat),
    (s.launchQ = [] → Becomes .launch s s)
  ∧ (firstEdge (s.launchQ.map s.launchEdge) = some e → Becomes .launch s ((if s.standby then s.advance e else (s.advance e).milesAt e).launchAt e))
  ∧ (firstEdge (s.launchQ.map s.launchEdge) = some e → ∀ l ∈ s.launchQ, e ≤ s.launchEdge l)
  ∧ (s.miles = [] → Becomes .deviceMilestone s s)
  ∧ (firstEdge (s.miles.map (·.edge)) = some e → s.standby = false → Becomes .deviceMilestone s ((s.advance e).milesAt e))
  ∧ (firstEdge (s.miles.map (·.edge)) = some e → s.standby = true → Becomes .deviceMilestone s s)

/-- R69-R75: the rows of the timebase. A Sync in stage 6 that lies more than 10 ms off ends LOCKED service in FREE; a usable one is measured, a step or a slew
asked, and counted towards LOCKED; the loss of Syncs while LOCKED is HOLDOVER; HOLDLIMIT exceeded is FREE, told with 0x12; a better master
on the PTP timescale is selected. -/
def Obligations.TimebaseRows : Prop :=
  ∀ (s u v : State) (t pathDly : Nat) (offset freq : Int), u = s.advance t →
    (u.standby = false → u.time.noServo = false → u.time.tb ≠ .unset → u.time.tb ≠ .free → u.boot.stage = 6 → 10000000 < offset.natAbs →
      Becomes (.ptpSync t offset pathDly freq) s { u with time := { u.time with
        offset := offset, pathDly := pathDly, noServo := true, slew := 0, tb := .free, under40 := 0 } })
  ∧ (u.standby = false → u.time.noServo = false → u.time.tb ≠ .unset → u.time.tb ≠ .free → u.boot.stage ≠ 6 ∨ offset.natAbs ≤ 10000000 →
      v = (if u.time.tb = .holdover then u.setTb .acquiring else u) →
      Becomes (.ptpSync t offset pathDly freq) s ((({ v with time := { v.time with
        offset := offset, pathDly := pathDly, lastSync := u.time.now, freqAdj := max (-100000000) (min 100000000 freq) } } : State).correct offset).countSync offset))
  ∧ (u.standby = true ∨ u.time.noServo = true ∨ u.time.tb = .unset ∨ u.time.tb = .free → Becomes (.ptpSync t offset pathDly freq) s u)
  ∧ (u.time.tb = .locked → Becomes (.syncLoss t) s { u with time := { u.time with tb := .holdover, under40 := 0 } })
  ∧ (u.time.tb = .holdover → u.time.cfg.holdLimit < u.holdError →
      BecomesTelling (.holdoverLimit t) s (({ u with time := { u.time with holdExc := true } } : State).setTb .free) 0x12 0 0 [])
  ∧ (∀ a : Announce, a.ptpScale = true → a.better = true → bit u.time.cfg.ports a.port = true → u.standby = false → u.time.noServo = false →
      ¬(u.time.gmid = a.gmid ∧ u.time.source = a.port + 1 ∧ (u.time.tb = .acquiring ∨ u.time.tb = .locked)) →
      Becomes (.ptpAnnounce t (some a)) s (({ u with time := { u.time with
        gmid := a.gmid, steps := a.steps, utcOff := a.utcOff, source := a.port + 1, gm := false } } : State).setTb .acquiring))
  ∧ (∀ a : Announce, a.ptpScale = true → a.better = true → bit u.time.cfg.ports a.port = true → u.standby = false → u.time.noServo = false →
      u.time.gmid = a.gmid → u.time.source = a.port + 1 → u.time.tb = .acquiring ∨ u.time.tb = .locked →
      Becomes (.ptpAnnounce t (some a)) s { u with time := { u.time with
        gmid := a.gmid, steps := a.steps, utcOff := a.utcOff, source := a.port + 1, gm := false } })
  ∧ (Becomes (.ptpAnnounce t none) s
      { (if u.time.tb = .locked then u.setTb .holdover else u) with
        time := { (if u.time.tb = .locked then u.setTb .holdover else u).time with gm := u.time.cfg.mayLead && !u.standby } })

/-- R147, R151, R158, R165, R166: a frame start sends a frame, or K28.6 while the trunk level is asserted, on every trunk that is on; a returned frame adds its
good slots and its return time; one lost in transit only counts; the end of an enumeration stores its maps. -/
def Obligations.TrunkRows : Prop :=
  ∀ (s u v : State) (t : Nat) (fr : TrunkRx) (walks : List TrunkWalk),
    (v = s.advance (s.time.now / tickNs * tickNs + 16000) → Becomes .frameStart s { v with
      trunks := v.trunks.mapIdx fun i x => if v.sendsFrames && v.trunkOn i then x.sendFrame v.time.now v.safe.trunkLvl else x })
  ∧ (∀ bad, u = s.advance t → u.trunkOn fr.trunk = true → fr.overflow = false → fr.hcrcOk = true →
      bad = b2n (!fr.setCrcOk) + (fr.slots.filter fun x => !x.crcOk).length →
      Becomes (.trunkFrameReceived t fr) s (u.modTrunk fr.trunk fun y => { y with
        crcErr := wrapAdd 32 y.crcErr bad, ovf := wrapAdd 32 y.ovf 0
        gotA := if fr.dirn = 0 then (if fr.port = 1 then 1 else 2) else y.gotA
        gotB := if fr.dirn = 1 then (if fr.port = 0 then 1 else 2) else y.gotB
        slots := y.slots ++ goodSlots { y with crcErr := wrapAdd 32 y.crcErr bad, ovf := wrapAdd 32 y.ovf 0 } fr.dirn fr.slots
        maxRet := max y.maxRet (u.time.now - u.time.now / tickNs * tickNs) }))
  ∧ (∀ bad, u = s.advance t → u.trunkOn fr.trunk = true → fr.overflow = false → fr.hcrcOk = false →
      bad = 1 + b2n (!fr.setCrcOk) + (fr.slots.filter fun x => !x.crcOk).length →
      BecomesTelling (.trunkFrameReceived t fr) s (u.modTrunk fr.trunk fun y => { y with crcErr := wrapAdd 32 y.crcErr bad, ovf := wrapAdd 32 y.ovf 0 })
        0x3C 0 0 (trunkItems fr.trunk 0xFFFF 0xFFFF 0xFF 0))
  ∧ (u = s.advance t → u.trunkOn fr.trunk = true → fr.overflow = true →
      BecomesTelling (.trunkFrameReceived t fr) s (u.modTrunk fr.trunk fun y => { y with crcErr := wrapAdd 32 y.crcErr 0, ovf := wrapAdd 32 y.ovf 1 })
        0x3C 0 0 (trunkItems fr.trunk 0xFFFF 0xFFFF 0xFF 1))
  ∧ (u = s.advance t → u.trunkOn fr.trunk = false → Becomes (.trunkFrameReceived t fr) s u)
  ∧ (∀ tag mask z more, u = s.advance t → u.enumRun = (tag, mask, z) :: more →
      Becomes (.enumerationEnd t walks) s { u with
        enumRun := more
        trunks := u.trunks.mapIdx fun i x => if (bit mask i) = true then Trunk.enumerated ((walks.find? fun w => w.trunk == i).getD ⟨i, [], [], 0⟩) x else x })

/-- R99, R170-R173, R187, R257, R277: the rows between a LANE device and its cars. A car report is heard; 8 ticks without one raise fault 0x10; a brake that does not
lift ends the move ABORTED with 0x3024 and applies again; one that does not engage leaves the car held; a hold message applies at once where
PSTATE is 0, and at AT where its ACTION says; HOLDTO boundaries without one apply the brakes. -/
def Obligations.CarLinkRows : Prop :=
  ∀ (s u v : State) (t car due : Nat) (rep : Report) (m : HoldMsg), u = s.advance t →
    (u.boot.role = .lane → u.carNums.contains car = true → cycled (u.car car).door.sawOpen rep.doors = false →
      Becomes (.carReport t car rep) s (u.hearReport car rep))
  ∧ (u.boot.role = .lane → u.carNums.contains car = true → cycled (u.car car).door.sawOpen rep.doors = true →
      Becomes (.carReport t car rep) s ((u.hearReport car rep).doorCycle car))
  ∧ (u.boot.role = .lane → u.carNums.contains car = true → (u.car car).link = true → 8 ≤ (u.car car).repGap →
      Becomes (.carReportTimeout t car) s (u.fault 0x10 car (u.car car).pos.elem))
  ∧ ((u.car car).prop.seq = .releasing due → due + 1000000 * Cfg.CarProp.BRKLIFT (u.carProp car) ≤ u.time.now →
      ((u.car car).rep.map fun p => bit p.1.brk 2).getD false = false →
      BecomesTelling (.brkliftTimeout t car) s ((u.endMove car 4 0x3024 u.time.now).modCar car fun y => { y with
          prop := { y.prop with seq := .applying 0, action := 1, actAt := u.time.now }, plan := { y.plan with mode := 0 } })
        0x3B (tgtOf 8 car) 0 (trunkItems 0xFF 0xFFFF 0xFFFF car 2))
  ∧ ((u.car car).prop.seq = .applying 0 → (u.car car).prop.actAt + 1000000 * (Cfg.CarProp.BRKENG (u.carProp car) + 100) ≤ u.time.now →
      BecomesTelling (.brkengTimeout t car) s (u.modCar car fun y => { y with prop := { y.prop with seq := .heldFault, pstate := 1 }, brkLate := true })
        0x3B (tgtOf 8 car) 0 (trunkItems 0xFF 0xFFFF 0xFFFF car 1))
  ∧ (u.boot.role = .car → v = { u with crole := { u.crole with hold := some m, lapse := 0 } } →
      (m.pstate = 0 → Becomes (.holdMessage t m) s (({ v with miles := v.miles.filter fun x => x.kind != MsKind.brakeRelease } : State).applyBrakes false))
      ∧ (m.pstate ≠ 0 → m.action = 1 → m.act ≤ u.time.now → Becomes (.holdMessage t m) s (v.applyBrakes false))
      ∧ (m.pstate ≠ 0 → m.action = 1 → u.time.now < m.act → Becomes (.holdMessage t m) s (v.brakeMs .brakeApply m.act))
      ∧ (m.pstate = 1 → m.action = 2 → m.act ≤ u.time.now → Becomes (.holdMessage t m) s v.liftBrakes)
      ∧ (m.pstate = 1 → m.action = 2 → u.time.now < m.act → Becomes (.holdMessage t m) s
          { (v.brakeMs .brakeRelease m.act) with crole := { v.crole with releaseAt := some m.act } })
      ∧ (m.pstate ≠ 0 → m.action ≠ 1 → ¬(m.action = 2 ∧ m.pstate = 1) → Becomes (.holdMessage t m) s v))
  ∧ (u.boot.role = .car → Cfg.CarBrake.HOLDTO (u.one Cfg.CarBrake.sec Cfg.CarBrake.dflt) ≤ u.crole.lapse →
      Becomes (.holdtoLapse t) s (({ u with miles := u.miles.filter fun x => x.kind != MsKind.brakeRelease } : State).applyBrakes true))

/-- R103, R104, R130, R195, R198-R201: a tape lost for 8 ticks and a source that disagrees are noted and told, with 0x22 and 0x21; a saturated or
implausible loop trips; an injection over its evaluations ends DONE; a triggered buffer completes; a car that has stood at the authority stop
for WAITMAX ends its move ABORTED with 0x3023. -/
def Obligations.PositionAndLoopRows : Prop :=
  ∀ (s u : State) (t car ch n t0 : Nat) (src : PosSource), u = s.advance t →
    (8 ≤ (u.car car).pos.noTape → (u.car car).pos.tapeLost = false →
      Becomes (.tapeLost t car) s (u.modPos car fun q => { q with tapeLost := true }))
  ∧ ((match src with
        | .tape => 8 ≤ (u.car car).pos.tapeMiss ∧ (u.car car).pos.tapeDis = false
        | .bemf => 8 ≤ (u.car car).pos.bemfMiss ∧ (u.car car).pos.bemfDis = false
        | .way => 2 ≤ (u.car car).pos.wayMiss ∧ (u.car car).pos.wayDis = false) →
      Becomes (.sourceDisagreeing t car src) s (u.modPos car fun q => match src with
        | .tape => { q with tapeDis := true }
        | .bemf => { q with bemfDis := true }
        | .way => { q with wayDis := true }))
  ∧ ((u.loopCh ch).satDue = true → Becomes (.saturationTrip t ch) s ((u.modChan ch fun c => { c with satDue := false, satTrip := true }).loopTrip 0x40 ch 0x0C))
  ∧ ((u.loopCh ch).plDue = true → Becomes (.plausibilityTrip t ch) s ((u.modChan ch fun c => { c with plDue := false, plTrip := true }).loopTrip 0x41 ch 0x0D))
  ∧ (∀ j, (u.loopCh ch).inj = some j → j.dur ≤ j.n → Becomes (.injectionEnd t ch) s (u.modChan ch fun c => { c with inj := none, sig := F64.zero }))
  ∧ ((u.caps.getD n {}).st = 2 → (u.caps.getD n {}).left = 0 →
      Becomes (.captureComplete t n) s { u with caps := u.caps.set n { u.caps.getD n {} with st := 3 } })
  ∧ (∀ mv, (u.planOf car).move = some mv → (u.planOf car).waitAt = some t0 → mv.waitMax ≠ 0 → (u.planOf car).effTgt ≠ u.legTarget car mv →
      t0 + 1000000 * mv.waitMax ≤ u.time.now →
      Becomes (.waitmaxExpiry t car) s ((u.endMove car 4 0x3023 u.time.now).modPlan car fun q => { q with mode := 0 }))

/-- R245, R247-R249, R251, R253, R255, R256, R258: the rows that the doors' timers and the records from the LANE device make. A permit record replaces the last; a new
door request is a Milestone at its instant; 500 ms without the permit end an open ABORTED with 0x6020; a dwell over closes the door; a reopen
wait over nudges it; a light curtain held over LCHOLD, too. -/
def Obligations.DoorTimerRows : Prop :=
  ∀ (s u v : State) (t door t0 : Nat) (p : PermitRec) (q : DoorReq) (k : DoorCmd), u = s.advance t →
    (u.boot.role = .car → v = { u with crole := { u.crole with permit := some (p, u.time.now) } } →
      Becomes (.permitRecord t p) s (v.doorNums.foldl (fun s d => s.permitLost d) v))
  ∧ (u.boot.role ≠ .car → Becomes (.permitRecord t p) s u)
  ∧ (u.boot.role = .car → u.crole.lastRseq ≠ some q.rseq → q.dreq ≠ 0 →
      Becomes (.doorRequestRecord t q) s { u with
        crole := { u.crole with request := some q, lastRseq := some q.rseq, reqs := u.crole.reqs ++ [q] }
        miles := u.miles ++ [{ edge := max (edgeAt u.time.phase q.act) u.time.now, cls := 6, kind := .door q.rseq }] })
  ∧ (u.boot.role = .car → u.crole.lastRseq ≠ some q.rseq → q.dreq = 0 →
      Becomes (.doorRequestRecord t q) s { u with crole := { u.crole with request := some q, lastRseq := some q.rseq } })
  ∧ (u.boot.role = .car → u.crole.lastRseq = some q.rseq → Becomes (.doorRequestRecord t q) s { u with crole := { u.crole with request := some q } })
  ∧ ((u.door door).next = some k → k.kind = 0 → k.since + 500000000 ≤ u.time.now → u.permitted door = false →
      Becomes (.permitTimeout t door) s ((u.modDoor door fun x => { x with next := none }).endDoorCmd door k 4 0x6020))
  ∧ ((u.door door).timer = some (1, t0) → t0 + 1000000 * Cfg.DoorCfg.REDWELL (u.doorRec door) ≤ u.time.now → v = u.setTimer door none →
      ((u.door door).st = .homing ∨ u.doorHomed door = false → Becomes (.redwellExpiry t door) s (v.startHoming door))
      ∧ ((u.door door).st ≠ .homing → u.doorHomed door = true → Becomes (.redwellExpiry t door) s (v.wantClose door (u.nudges door))))
  ∧ ((u.door door).timer = some (2, t0) → t0 + 500000000 ≤ u.time.now →
      v = (u.modDoor door fun x => { x with reopWait := false, nudge := true, timer := some (7, u.time.now) }) →
      Becomes (.reopwaitTimeout t door) s (if v.curtain door then v else v.startClose door true))
  ∧ ((u.door door).timer = some (3, t0) → t0 + 1000000000 * Cfg.DoorCfg.LCHOLD (u.doorRec door) ≤ u.time.now → u.curtain door = true →
      Becomes (.lcholdExpiry t door) s (u.startClose door true))
  ∧ ((u.door door).timer = some (4, t0) → (u.door door).cmd = some k → t0 + 1000000 * k.dwell ≤ u.time.now →
      Becomes (.dwellExpiry t door) s ((u.setTimer door none).wantClose door (u.nudges door)))

/-- R140, R235-R240, R251, R253: the rows of the door axes. Four lost steps in a row un-home the axis: while the door closes this is an obstruction, else an S2 stop and
FAULT; 48 errors of regulation in a row leave the microstep drive for the chopper, and 100 ms at rest bring it back; no make within CLTIME,
or within 1.1 strokes of homing, ends the command ABORTED; a step count that overruns is discarded with an S1 stop; a PWM period takes the
currents of the four axes of a CAR device. -/
def Obligations.DoorAxisRows : Prop :=
  ∀ (s u v : State) (t axis door d t0 : Nat) (currents : List Int), u = s.advance t →
    (d = u.axisDoor axis → 4 ≤ (u.axis axis).lossRun → u.axisConfigured axis = true →
      v = ((u.modAxis axis fun y => { y with homed := false, lossRun := 0 }).modDoor d fun y => { y with stepLoss := true }).doorFire 0x65 d [] →
      ((u.door d).closing = true → Becomes (.stepLoss t axis) s (v.obstruct d 16))
      ∧ ((u.door d).closing = false → Becomes (.stepLoss t axis) s ((v.askDoorStop .s2 none d).setDoor d .fault)))
  ∧ ((u.axis axis).mode = 2 → 48 ≤ (u.axis axis).errRun →
      Becomes (.regulationFailure t axis) s (u.modAxis axis fun y => { y with
        mode := 3, errRun := 0, fails := y.fails + 1, stuckChop := y.stuckChop || decide (2 ≤ y.fails), lamValid := false, lossRun := 0 }))
  ∧ ((u.axis axis).standAt = some t0 → (u.axis axis).mode = 3 → (u.axis axis).stuckChop = false → t0 + 100000000 ≤ u.time.now →
      Becomes (.chopperExit t axis) s (u.modAxis axis fun y => { y with mode := 1 }))
  ∧ (∀ a l, (u.door door).timer = some (5, t0) → t0 + 1000000 * Cfg.DoorCfg.CLTIME (u.doorRec door) ≤ u.time.now → u.allMade door = false →
      ((u.doorMembers door).filter fun a => !u.made a) = a :: l →
      Becomes (.cltimeTimeout t door) s
        ((l.foldl (fun (s : State) b => s.modAxis b fun y => { y with homed := false }) u).homingFault a 0x6024 fun y => { y with lockTo := true }))
  ∧ ((u.door (u.axisDoor axis)).st = .homing → (u.axis axis).homed = false →
      11 * Cfg.DoorAxis.STROKE (u.axisRec axis) * 4294967296 ≤ 10 * (((u.axis axis).plan.motAt u.time.now).pQ - (u.axis axis).homeFrom).natAbs →
      Becomes (.homingTravelFault t axis) s (u.homingFault axis 0x6022 id))
  ∧ ((65535 * oneQ).natAbs < (u.axis axis).stepPend.natAbs →
      v = (u.modAxis axis fun x => { x with stepPend := 0, plan := { x.plan with stepOvf := true } }) →
      Becomes (.stepInputOverrun t axis) s (v.askDoorStop .s1 none (u.axisDoor axis)))
  ∧ (u.boot.role = .car → Becomes (.pwmPeriod t currents) s
      ((List.range 4).foldl (fun s a => s.pwmAxis a (currents.getD (2 * a) 0) (currents.getD (2 * a + 1) 0)) u))
  ∧ (u.boot.role ≠ .car → Becomes (.pwmPeriod t currents) s u)

/-- R215, R221-R231, R434, R470: a wait that reaches a merge block's AGING is told with 0x50; the books are rebuilt at the first boundary at which every car stands; a
terminal call from a known source is heard, from another counted in UNKSRC; a call is assigned at its deadline and answered; REEVAL costs
every call afresh; a CALLID is free 60 s after its call ended; the oldest evaluation ends DONE, and one of 10 ms ends ABORTED. -/
def Obligations.AuthorityAndCallRows : Prop :=
  ∀ (s u : State) (t id car b : Nat) (c : TermCall), u = s.advance t →
    (((u.car car).auth.item.find? fun b => u.thru b != 0xFFFF && u.aging b == (u.car car).auth.wait) = some b → (u.car car).auth.wait ≠ 0 →
      BecomesTelling (.agingReached t car) s u 0x50 (tgtOf 4 b) 0 (authItems car b 1))
  ∧ (u.boot.role = .lane → u.auth.rebuildDue = true → u.allStand = true → Becomes (.booksRebuild t) s u.rebuild)
  ∧ (u.boot.role = .lane → u.boot.stage = 6 → u.standby = false → u.sourceOf c.kind c.chan c.id = none →
      Becomes (.terminalCall t c) s { u with disp := { u.disp with unkSrc := wrapAdd 32 u.disp.unkSrc 1 } })
  ∧ (∀ src, u.boot.role = .lane → u.boot.stage = 6 → u.standby = false → u.sourceOf c.kind c.chan c.id = some src →
      Becomes (.terminalCall t c) s (u.terminal src c.treq c.frm c.dst c.pax c.cflags))
  ∧ (∀ k start n, u.call? id = some k → k.pending = true → k.state = 0 → k.recv + 1750000 ≤ u.time.now →
      start = max k.recv u.disp.evalFree → n = plansIn (k.recv + 1750000 - start) →
      Becomes (.callDeadline t id) s
        ((({ u with disp := { u.disp with evalFree := min (k.recv + 1750000) (start + n * 1000000000 / 65536) } } : State).assign k n).firstAnswer id))
  ∧ (u.boot.role = .lane → u.boot.stage = 6 → u.standby = false → u.disp.lastEval + 1000000 * Cfg.DispParam.REEVAL u.dispParam ≤ u.time.now →
      Becomes (.reeval t) s ((u.disp.calls.map (·.id)).foldl (fun s id => s.recost id) { u with disp := { u.disp with lastEval := u.time.now } }))
  ∧ (Becomes (.callidRelease t id) s { u with disp := { u.disp with
      calls := u.disp.calls.filter fun k => !(k.id == id && decide (2 ≤ k.state) && decide (k.ended + 60000000000 ≤ u.time.now)) } })
  ∧ (∀ e rest, u.disp.evals = e :: rest → Becomes (.tripEvalComplete t) s { u with disp := { u.disp with evals := rest } })
  ∧ (Becomes (.tripEvalTimeout t) s { u with disp := { u.disp with evals := u.disp.evals.filter fun e => !decide (e.tag.acc + 10000000 ≤ u.time.now) } })

/-- R25, R27, R30, R264-R266, R277: the rows of the demand inputs and of the causes of R266. A demand of 20 ns or longer on an armed pair trips the networks; a shorter one may
(a free value, log 6); channels that differ over DISCT are DISC; a lockstep mismatch, a watchdog and a clock fault are safety-core faults; a
die link down is fault 0x04; a cause that ends no longer stands. -/
def Obligations.SafetyInputRows : Prop :=
  ∀ (s u v : State) (t si width pair die word : Nat) (r : List Byte) (b : Bool), u = s.advance t →
    (u.siPair si = none → Becomes (.safetyInputDemand t si width) s (u.setSi si false))
  ∧ (u.siPair si = some (r, b) → 20 ≤ width → (u.safe.pairs.getD (Cfg.SafePair.PAIR r) {}).armed = true →
      Becomes (.safetyInputDemand t si width) s
        ((((u.setSi si (demandLevel r b)).settlePair r).trip (2 ^ Cfg.SafePair.PAIR r) (if b then 2 else 1)).inspWatch u.ownInsp))
  ∧ (u.siPair si = some (r, b) → 20 ≤ width → (u.safe.pairs.getD (Cfg.SafePair.PAIR r) {}).armed = false →
      Becomes (.safetyInputDemand t si width) s (((u.setSi si (demandLevel r b)).settlePair r).inspWatch u.ownInsp))
  ∧ (u.siPair si = some (r, b) → width < 20 → v = { u with free := u.free + 1 } →
      Becomes (.safetyInputDemand t si width) s
        ((if (u.safe.pairs.getD (Cfg.SafePair.PAIR r) {}).armed && Config.shortOpeningTrips u.free
          then v.trip (2 ^ Cfg.SafePair.PAIR r) (if b then 2 else 1) else v).inspWatch u.ownInsp))
  ∧ (u.siPair si = some (r, b) → Becomes (.safetyInputPermit t si) s
      (((u.setSi si (if (u.safe.pairs.getD (Cfg.SafePair.PAIR r) {}).armed then !demandLevel r b else !u.safe.si.getD si false)).settlePair r).inspWatch u.ownInsp))
  ∧ (u.siPair si = none → Becomes (.safetyInputPermit t si) s (u.setSi si (!u.safe.si.getD si false)))
  ∧ (∀ t0, u.pairCfg pair = some r → (u.safe.pairs.getD pair {}).differAt = some t0 → (u.safe.pairs.getD pair {}).st ≠ .disc →
      t0 + 1000000 * Cfg.SafePair.DISCT r ≤ u.time.now →
      v = (u.modPair pair fun y => { y with st := .disc, bothDem := false, closedT := 0 }) →
      Becomes (.discrepancy t pair) s ((if (u.safe.pairs.getD pair {}).armed
        then (v.fire 0x71 0 0 (v.safeItems 0 pair 0xFF)).fault 0x02 0xFF 0xFF else v.fire 0x71 0 0 (v.safeItems 0 pair 0xFF)).inspWatch u.ownInsp))
  ∧ (Becomes (.lockstepMismatch t) s (u.coreFault 0x100 0x08))
  ∧ (Becomes (.watchdogExpiry t) s (u.coreFault 0x100 0x04))
  ∧ (Becomes (.clockFault t) s ((({ u with boot := { u.boot with clockFault := true } } : State).coreFault 0x2000 0x40).setFault 0x100))
  ∧ (Becomes (.clockFaultClear t) s { u with boot := { u.boot with clockFault := false }, safe := { u.safe with causes := clearBits u.safe.causes 0x2000 } })
  ∧ (Becomes (.uncorrectableError t .safety word) s (u.coreFault 0x4000 0x80))
  ∧ (u.boot.role = .lane → Becomes (.uncorrectableError t .motion word) s (u.carNums.foldl (fun s c => s.setTrust c 0) u))
  ∧ (∀ g, g ≠ .safety → g ≠ .motion → Becomes (.uncorrectableError t g word) s { u with ecc := {
      faults := u.ecc.faults + 1
      poisoned := if u.ecc.poisoned.contains (g, word) then u.ecc.poisoned else u.ecc.poisoned ++ [(g, word)] } })
  ∧ (v = { u with field := { u.field with die := u.field.die.modify die fun d => { d with linkDown := true } } } →
      Becomes (.dieLinkLoss t die) s (((v.setFault (64 * 2 ^ (die % 2))).tripCause (0x200 * 2 ^ (die % 2))).fault 0x04 0xFF 0xFF))
  ∧ (Becomes (.dieLinkRestore t die) s { u with
      field := { u.field with die := u.field.die.modify die fun d => { d with linkDown := false } }
      safe := { u.safe with causes := clearBits u.safe.causes (0x200 * 2 ^ (die % 2)) } })

/-- R263, R265, R283-R285, R353, R408, R450: TRIP_IN is a set input of both networks, told with 0xB4; the periodic test starts every TESTPER hours; a full test that passes clears
fault 0x15 and, as a command, ends DONE, one that fails ends ABORTED with 0x7015; an output's readback fault is told with 0x76; a reset request
of 1 s is refused with the first condition that fails. -/
def Obligations.SafetyTestRows : Prop :=
  ∀ (s u v w : State) (t so failA failB : Nat) (tr : TagRec) (clear : Bool), u = s.advance t →
    (v = ({ u with safe := { u.safe with tripIn := true } } : State).tripCause 0x1000 → BecomesTelling (.tripIn t) s v 0xB4 0 0 v.pairItems)
  ∧ (Becomes (.tripInRelease t) s { u with safe := { u.safe with tripIn := false, causes := clearBits u.safe.causes 0x1000 } })
  ∧ (u.safe.tested = true → u.safe.perRun = false → u.safe.perBase + Cfg.Zone.TESTPER u.zone * 3600000000000 ≤ u.time.now →
      Becomes (.periodicTest t) s { u with safe := { u.safe with perRun := true, perStep := 0 } })
  ∧ (u.safe.testing = some (some tr, clear) → failA % 65536 = 0 → failB % 65536 = 0 →
      v = { u with safe := { u.safe with testing := none, selfOk := true, tested := true, testFail := 0, soBad := u.safe.soBad.map fun _ => false } } →
      w = (v.fire 0x75 0 0 (v.safeItems 0 0xFF 0xFF)).unfault (fun f => f.code == 0x15) →
      Becomes (.selfTestEnd t failA failB) s (if clear then w.releaseLatch.retrip else w))
  ∧ (u.safe.testing = some (some tr, clear) → ¬(failA % 65536 = 0 ∧ failB % 65536 = 0) →
      Becomes (.selfTestEnd t failA failB) s { u with safe := { u.safe with
        testing := none, tested := true, testFail := failA % 65536 + 65536 * (failB % 65536) } })
  ∧ (u.safe.testing = some (none, clear) → failA % 65536 = 0 → failB % 65536 = 0 →
      v = { u with safe := { u.safe with
        testing := none, selfOk := true, tested := true, perBase := u.time.now, testFail := 0, soBad := u.safe.soBad.map fun _ => false } } →
      w = (v.fire 0x75 0 0 (v.safeItems 0 0xFF 0xFF)).unfault (fun f => f.code == 0x15) →
      Becomes (.selfTestEnd t failA failB) s ((w.driveSo 3 true).armFast.powerUpRelease))
  ∧ (u.safe.testing = some (none, clear) → ¬(failA % 65536 = 0 ∧ failB % 65536 = 0) →
      v = { u with safe := { u.safe with
        testing := none, tested := true, perBase := u.time.now, testFail := failA % 65536 + 65536 * (failB % 65536) } } →
      Becomes (.selfTestEnd t failA failB) s (((v.fire 0x75 0 0 (v.safeItems 0 0xFF 0xFF)).driveSo 3 true).armFast.powerUpRelease))
  ∧ (v = { u with safe := { u.safe with soBad := u.safe.soBad.set so true } } →
      Becomes (.soReadbackFault t so) s ((v.fire 0x76 0 0 (v.safeItems 0x16 so 0xFF)).fault 0x16 0xFF 0xFF))
  ∧ (Becomes (.safetyResetTimeout t) s { u with safe := { u.safe with
      resets := u.safe.resets.filter fun r => !(r.tag.isSome && decide (r.at0 + 1000000000 ≤ u.time.now)) } })

/-- R287, R289, R292-R298: a level that has stood for DEB is taken as the input's value, and is nothing while the group is not OK; a group supply that falls is LOW or
MISSING and never rises from MISSING to LOW; one that has stood at 19.2 V for RESTT is OK, and outputs with AUTOREST that no function owns lose SAGLATCH; a readback
fault and an over-temperature are latched, and told with 0x82 and 0x85; a keep-alive is what R298 says; 40 us without one release the outputs. -/
def Obligations.FieldRows : Prop :=
  ∀ (s u v : State) (t n grp mv10 die : Nat) (level drive val : Bool), u = s.advance t →
    (val = (level != bit (Cfg.FieldIn.IFLG (u.fiRec n)) 0) → n ≤ 63 → u.grpOk (fiGroup n) = true → u.boot.stage ≠ 0 →
      ((u.fi n).stale = true → Becomes (.fieldInputTransition t n level) s (u.setInput n val))
      ∧ ((u.fi n).stale = false → (u.fi n).level = val → Becomes (.fieldInputTransition t n level) s u)
      ∧ ((u.fi n).stale = false → (u.fi n).level ≠ val → bit (Cfg.Start.WAKEFI (u.one Cfg.Start.sec Cfg.Start.dflt)) n = false →
          Becomes (.fieldInputTransition t n level) s
            (((u.setInput n val).localReset n val).inputEdge n val (u.time.now - 1000 * Cfg.FieldIn.DEB (u.fiRec n))))
      ∧ ((u.fi n).stale = false → (u.fi n).level ≠ val → bit (Cfg.Start.WAKEFI (u.one Cfg.Start.sec Cfg.Start.dflt)) n = true →
          Becomes (.fieldInputTransition t n level) s
            ((((u.setInput n val).wakeUp 2).localReset n val).inputEdge n val (u.time.now - 1000 * Cfg.FieldIn.DEB (u.fiRec n)))))
  ∧ (63 < n ∨ u.grpOk (fiGroup n) = false ∨ u.boot.stage = 0 → Becomes (.fieldInputTransition t n level) s u)
  ∧ (v = { u with field := { u.field with grpV := u.field.grpV.set grp mv10 } } →
      (u.field.grp.getD grp .missing = .ok → mv10 < 1000 → Becomes (.supplyGroupDrop t grp mv10) s (v.groupLost grp .missing))
      ∧ (u.field.grp.getD grp .missing = .ok → 1000 ≤ mv10 → mv10 < 1800 → Becomes (.supplyGroupDrop t grp mv10) s (v.groupLost grp .low))
      ∧ (u.field.grp.getD grp .missing = .low → mv10 < 1000 → Becomes (.supplyGroupDrop t grp mv10) s
          { v with field := { v.field with grp := v.field.grp.set grp .missing, evGrp := v.field.evGrp ++ [grp] } })
      ∧ (u.field.grp.getD grp .missing = .low → 1000 ≤ mv10 → Becomes (.supplyGroupDrop t grp mv10) s v)
      ∧ (u.field.grp.getD grp .missing = .missing → Becomes (.supplyGroupDrop t grp mv10) s v)
      ∧ (1920 ≤ mv10 → u.grpOk grp = false → Becomes (.supplyGroupRestore t grp mv10) s { v with field := { v.field with
          grp := v.field.grp.set grp .ok
          fq := v.field.fq.zipIdx.map fun (q, n) =>
            if fqGroup n = grp ∧ u.autoRest n then { q with sag := false } else q
          evGrp := v.field.evGrp ++ [grp] } })
      ∧ (mv10 < 1920 ∨ u.grpOk grp = true → Becomes (.supplyGroupRestore t grp mv10) s v))
  ∧ (u.drive n ≠ .released → u.grpOk (fqGroup n) = true →
      v = { u with field := { u.field with fq := u.field.fq.modify n fun q => { q with rbFlt := true } } } →
      BecomesTelling (.readbackFault t n) s v 0x82 0 0 (v.fieldItems (fqGroup n) (2 ^ n)))
  ∧ (u.drive n = .released ∨ u.grpOk (fqGroup n) = false → Becomes (.readbackFault t n) s u)
  ∧ (v = { u with field := { u.field with fq := u.field.fq.modify n fun q => { q with therm := true } } } →
      BecomesTelling (.thermalLatch t n) s v 0x85 0 0 (v.fieldItems (fqGroup n) (2 ^ n)))
  ∧ (Becomes (.keepAlive t die drive) s (u.keepAlive die drive))
  ∧ (Becomes (.watchdogRelease t die) s { u with field := { u.field with die := u.field.die.modify die (Die.release true) } })

/-- R302, R307, R308, R317: the rows that move a channel among its states. A bus error takes TEC and REC and makes an ACTIVE channel with 128 or more PASSIVE, a PASSIVE one
with fewer ACTIVE; TEC above 255 is BUSOFF, from which 128 times 11 recessive bits lead to VERIFY with the counters at zero; VERIFYT and DETWAIT
without an error lead to ACTIVE; 16 errors in a row while listening or verifying are MISMATCH, with DETBIT measured. -/
def Obligations.CanStateRows : Prop :=
  ∀ (s u v : State) (t ch detbit : Nat) (c : Can) (e : CanErr), u = s.advance t → c = u.chan ch →
    v = (u.modCan ch fun c => { c with tec := e.tec, recv := e.recv, errFr := wrapAdd 32 c.errFr 1, lastErr := e.code, errRun := c.errRun + 1, dirty := true }) →
    (c.st = .active → e.contest = false → 128 ≤ e.tec ∨ 128 ≤ e.recv → Becomes (.canBusError t ch e) s (v.setCan ch .passive))
  ∧ (c.st = .active → e.contest = false → e.tec < 128 → e.recv < 128 → Becomes (.canBusError t ch e) s v)
  ∧ (c.st = .passive → e.contest = false → e.tec < 128 → e.recv < 128 → Becomes (.canBusError t ch e) s (v.setCan ch .active))
  ∧ (c.st = .passive → e.contest = false → 128 ≤ e.tec ∨ 128 ≤ e.recv → Becomes (.canBusError t ch e) s v)
  ∧ (c.st = .detect ∨ c.st = .verify ∨ c.st = .busOff ∨ c.st = .listen → e.contest = false → Becomes (.canBusError t ch e) s v)
  ∧ (c.st = .off ∨ c.st = .asleep ∨ c.st = .mismatch → Becomes (.canBusError t ch e) s u)
  ∧ (∀ f, c.st = .active → e.contest = true → e.tec < 128 → e.recv < 128 → c.winner u.time.now = some f →
      Becomes (.canBusError t ch e) s (v.contest ch f.id f.ext []))
  ∧ (c.st.sends = true → Becomes (.busOff t ch) s ((u.modCan ch fun c => { c with busOffs := wrapAdd 16 c.busOffs 1, tec := 256 }).setCan ch .busOff))
  ∧ (c.st.sends = false → Becomes (.busOff t ch) s u)
  ∧ (c.st = .busOff → Becomes (.busOffRecovery t ch) s
      ((u.modCan ch fun c => { c with tec := 0, recv := 0 }).setCan ch .verify))
  ∧ (c.st = .verify → c.errRun = 0 → Becomes (.verifytExpiry t ch) s (u.setCan ch .active))
  ∧ (c.st = .detect → c.dirty = false → Becomes (.detwaitExpiry t ch) s (u.setCan ch .active))
  ∧ (c.st = .detect ∨ c.st = .verify → 16 ≤ c.errRun →
      Becomes (.rateMismatch t ch detbit) s ((u.modCan ch fun c => { c with detBit := detbit }).setCan ch .mismatch))

/-- R81, R311, R312, R315, R318-R322: the rows of frames. A received frame is taken whole; the end of a back-off frees its identifier; an object not stored for STALET is
stale; a transmitted frame leaves the queue, counts, and ends its command DONE with the instant of its start; a frame over its EXPIRE leaves,
its command ABORTED with 0x9020; a reference queues its SYNC in place of an unsent one; sleep entry is ASLEEP; a wake condition wakes. -/
def Obligations.CanFrameRows : Prop :=
  ∀ (s u v : State) (t ch id idx sof tries : Nat) (fr : CanRx) (c : Can) (w : Option CanRx), u = s.advance t → c = u.chan ch →
    (v = u.takeFrame ch fr → u.hears ch fr = false ∨ fr.full = true ∨ u.isTx ch fr.id fr.ext = true ∨ u.standby = true ∨ u.objIdx ch fr.id fr.ext = none →
      Becomes (.canFrameReceived t ch fr) s v)
  ∧ (v = u.takeFrame ch fr → u.hears ch fr = true → fr.full = false → u.isTx ch fr.id fr.ext = false → u.standby = false →
      u.objIdx ch fr.id fr.ext = some idx → Becomes (.canFrameReceived t ch fr) s ((State.framePoints u ch idx fr.sof v).frameCall ch fr))
  ∧ (Becomes (.backoffExpiry t ch id) s (u.modCan ch fun c => { c with txObjs := c.txObjs.map fun o =>
      if o.id = id then { o with until0 := o.until0.filter fun x => decide (u.time.now < x) } else o }))
  ∧ (∀ r, ((u.recs Cfg.CanRxObj.sec).find? fun r => Cfg.CanRxObj.CH r == ch
        && u.objIdx ch (Cfg.CanRxObj.ID r % 2 ^ 29) (bit (Cfg.CanRxObj.ID r) 30) == some idx) = some r → Cfg.CanRxObj.STALET r ≠ 0 →
      bit (c.obj idx).flags 0 = true → (c.obj idx).stamp + Cfg.CanRxObj.STALET r * 1000000 ≤ u.time.now →
      Becomes (.staletExpiry t ch idx) s ((u.modCan ch fun x => x.putObj { c.obj idx with flags := (c.obj idx).flags ||| 128 }).feedObj ch
        { c.obj idx with flags := (c.obj idx).flags ||| 128 }))
  ∧ (∀ f x, c.winner u.time.now = some f → c.st.sends = true → u.standby = false →
      v = (u.modCan ch fun x =>
        { x.putTx { x.tx f.id f.ext with last := some (f.dlc, f.data) } with
          txq := x.txq.filter fun g => g != f, txFr := wrapAdd 32 x.txFr 1, tec := x.tec - 1 }) →
      x = (if c.st = .passive ∧ c.tec - 1 < 128 ∧ c.recv < 128 then v.setCan ch .active else v) →
      (∀ q, f.kind = .sync q → Becomes (.canTransmitDone t ch sof tries) s (x.queueTx ch (x.follow ch q sof)))
      ∧ ((∀ q, f.kind ≠ .sync q) → Becomes (.canTransmitDone t ch sof tries) s x))
  ∧ (Becomes (.canExpire t ch id) s (u.modCan ch fun x => { x with
      txq := x.txq.filter fun f => !(c.txq.filter fun g => g.id == id && g.expire != 0 && decide (g.expire ≤ u.time.now)).contains f }))
  ∧ ((u.refOf ch).en = true → u.time.tb ≠ .unset → u.standby = false → c.st = .active ∨ c.st = .passive ∨ c.st = .busOff ∨ c.st = .verify ∨ c.st = .detect →
      v = (u.modCan ch fun x => { x with refDue := u.time.now + (u.refOf ch).period * 1000000 }) →
      (0 < (c.tx (u.refOf ch).id (u.refOf ch).ext).skip → Becomes (.referenceDue t ch) s
        (v.modCan ch fun x => x.putTx { c.tx (u.refOf ch).id (u.refOf ch).ext with skip := (c.tx (u.refOf ch).id (u.refOf ch).ext).skip - 1 }))
      ∧ ((c.tx (u.refOf ch).id (u.refOf ch).ext).skip = 0 → Becomes (.referenceDue t ch) s
        ((v.modCan ch fun x => { x with seq8 := wrapAdd 8 c.seq8 1, txq := x.txq.filter fun f => !(f.id == (u.refOf ch).id + 1 && f.ext == (u.refOf ch).ext) }).queueTx ch
          { id := (u.refOf ch).id, ext := (u.refOf ch).ext, fd := (u.refOf ch).fd, dlc := 1, data := le 1 (wrapAdd 8 c.seq8 1), kind := .sync (wrapAdd 8 c.seq8 1) })))
  ∧ (∀ tr, c.sleeping = some tr → Becomes (.sleepEntry t ch) s ((u.modCan ch fun x => { x with sleeping := none, txq := [] }).setCan ch .asleep))
  ∧ (∀ tr, u.wakeHolds ch w = true → c.sleeping = some tr → Becomes (.canWake t ch w) s (u.modCan ch fun x => { x with sleeping := none }))
  ∧ (u.wakeHolds ch none = true → c.sleeping = none → c.st = .asleep → v = u.wakeCan ch 0xFFFFFFFF →
      Becomes (.canWake t ch none) s (if bit (Cfg.Start.WAKECAN (u.one Cfg.Start.sec Cfg.Start.dflt)) ch then v.wakeUp 1 else v))
  ∧ (∀ x, Cfg.CanCh.WAKEMODE (u.canRec ch) ≠ 0 → u.wakeHolds ch (some fr) = true → c.sleeping = none → c.st = .asleep →
      x = (match u.objIdx ch fr.id fr.ext with | some i => u.storeFrame ch i fr true | none => u) → v = x.wakeCan ch fr.id →
      Becomes (.canWake t ch (some fr)) s (if bit (Cfg.Start.WAKECAN (u.one Cfg.Start.sec Cfg.Start.dflt)) ch then v.wakeUp 1 else v))

/-- R326, R330, R334-R336, R340: the rows of a device that meters. The first upward zero crossing of V1 begins a cycle, each later one ends one; a brown-out warning accrues
the part tick and commits; a pulse output gives the next pulse owed; a meter's pulse counts; a comparison window ends against the meter's
pulses, told with 0xA4 where it is off; SAGHOLD after a sag the derating ends; half-cycle values set sag, swell and interruption. -/
def Obligations.MeteringRows : Prop :=
  ∀ (s u : State) (t n : Nat), u = s.advance t →
    (u.meters = true → u.meter.cycStart = none → 2 ≤ u.meter.samples.length →
      (u.meter.samples.getD (u.meter.samples.length - 2) []).getD 0 0 < 0 → 0 ≤ (u.meter.samples.getD (u.meter.samples.length - 1) []).getD 0 0 →
      GoesOnWith (.cycleEnd t) s fun x => x.meter.cycStart.isSome = true ∧ x.meter.prevSamp = u.meter.samples.dropLast
        ∧ x.meter.samples = u.meter.samples.drop (u.meter.samples.length - 1))
  ∧ (∀ t0, u.meters = true → u.meter.cycStart = some t0 → 2 ≤ u.meter.samples.length →
      (u.meter.samples.getD (u.meter.samples.length - 2) []).getD 0 0 < 0 → 0 ≤ (u.meter.samples.getD (u.meter.samples.length - 1) []).getD 0 0 →
      GoesOnWith (.cycleEnd t) s fun x => x.meter.cycStart.isSome = true ∧ x.meter.cyc.isSome = true
        ∧ x.meter.samples = u.meter.samples.drop (u.meter.samples.length - 1))
  ∧ (∀ ns, u.meters = true → ns = 125000 - min 125000 (u.time.nextTick - u.time.now) - u.meter.part →
      Becomes (.brownOutWarning t) s (u.modMeter fun m => { (m.accrue (Cfg.Meter.NOLOAD u.meterCfg) ns).commitAt u.time.now with part := m.part + ns }))
  ∧ (∀ pw, pw = ((u.pulseRec n).map Cfg.PulseCh.PW).getD 32 → u.meters = true → n < 2 → 0 < u.owed n → u.meter.lastPulse.getD n 0 + 2000000 * pw ≤ u.time.now →
      Becomes (.pulseOutput t n) s ((u.modMeter fun m => { m with
        ep := m.ep.modify n fun x => wrapAdd 32 x 1
        lastPulse := (if m.lastPulse.isEmpty then [0, 0] else m.lastPulse).set n u.time.now }).backlog n))
  ∧ (u.meters = true → n < 2 → Becomes (.meterPulse t n) s (u.modMeter fun m => { m with mp := m.mp.modify n fun x => wrapAdd 32 x 1 }))
  ∧ (∀ r t0 reg0 cnt0 reg cnt off, u.pulseRec (2 + n) = some r → u.meter.mpBase[n]? = some (t0, reg0, cnt0) → u.meters = true → n < 2 →
      t0 + 1000000000 * Cfg.PulseCh.CMPWIN r ≤ u.time.now → reg = u.meter.regs.getD (Cfg.PulseCh.SRC r) 0 → cnt = u.meter.mp.getD n 0 →
      off = windowOff r ((reg + 2 ^ 80 - reg0) % 2 ^ 80) ((cnt + 2 ^ 32 - cnt0) % 2 ^ 32) →
      Becomes (.cmpwinExpiry t n) s (u.modMeter fun m => { m with mpBase := m.mpBase.set n (u.time.now, reg, cnt), mpDev := off }))
  ∧ (∀ t0, u.meter.sagHold = some t0 → t0 + 1000000 * Cfg.Meter.SAGHOLD u.meterCfg ≤ u.time.now →
      Becomes (.sagholdExpiry t) s (u.modMeter fun m => { m with sagHold := none, derate := false, sagDue := none }))
  ∧ (u.meters = false → Becomes (.halfCycle t) s u ∧ Becomes (.cycleEnd t) s u ∧ Becomes (.meterPulse t n) s u ∧ Becomes (.brownOutWarning t) s u)
  ∧ (∀ k n all us, k = u.meterCfg → n = (u.meter.periods.head?.getD (1000000000 / max 1 (Cfg.Meter.FNOM k)) + 62500) / 125000 →
      all = u.meter.prevSamp ++ u.meter.samples → u.meters = true → n ≤ all.length →
      us = [0, 1, 2].map (fun c => rmsOf (colOf (u.corrected all (all.length - n) n) c)) →
      GoesOnWith (.halfCycle t) s fun y => y.meter.samples = u.meter.samples
        ∧ (u.meter.sag = none → y.meter.sag.isSome = us.any fun v => decide (100 * v < Cfg.Meter.SAGTH k * Cfg.Meter.UNOM k * 1000000))
        ∧ (u.meter.swell = none → y.meter.swell.isSome = us.any fun v => decide (Cfg.Meter.SWELLTH k * Cfg.Meter.UNOM k * 1000000 < 100 * v))
        ∧ (u.meter.intr = none → y.meter.intr.isSome = us.all fun v => decide (100 * v < Cfg.Meter.INTTH k * Cfg.Meter.UNOM k * 1000000)))

/-- R345-R348, R355, R357, R359: the Pennant line. A hold not refreshed for 100 us (less 5 %) falls; in stage 3 a paired unit claims a free line, unit 1 10 ms later than
unit 0; of two units that rise within 2 us unit 1 drops; both lines high are a latched fault, told with 0xB7; a READY standby takes hot, with
its outputs 80 us later, a STALE or ORPHAN one cold, at once, with every car's trust UNKNOWN and fault 0x17; a proving swap whose partner
does not take ends ABORTED with 0xB020; a proof older than PROVEWARN is told with 0xB6. -/
def Obligations.PennantRows : Prop :=
  ∀ (s u v : State) (t : Nat), u = s.advance t →
    (u.pair.pntOut = true → u.pair.refresh + 95000 ≤ u.time.now → Becomes (.pennantHoldExpiry t) s u.dropHold)
  ∧ (u.pair.pntOut = true → (u.dropHold.pair.pntOut = false ∧ u.dropHold.pair.st = .stale ∧ u.dropHold.pair.held = true))
  ∧ (u.pair.pntOut = false ∨ u.time.now < u.pair.refresh + 95000 → Becomes (.pennantHoldExpiry t) s u)
  ∧ (u.boot.stage = 3 → u.pair.st ≠ .unpaired → u.pair.pntOut = false → u.pair.pntIn = false →
      u.pair.pntInAt + 10000000 * (1 + u.boot.unit) ≤ u.time.now → Becomes (.pennantClaim t) s (u.claimLine.setPair u.claimLine.holderState))
  ∧ (v = (u.modPr fun x => { x with pntIn := true, pntInAt := u.time.now }) →
      (u.pair.pntOut = true → u.time.now ≤ u.pair.raisedAt + 2000 → u.boot.unit = 1 →
        Becomes (.pntInRise t) s (v.dropHold.modPr fun x => { x with held := false }))
      ∧ (u.pair.pntOut = true → u.boot.unit ≠ 1 ∨ u.pair.raisedAt + 2000 < u.time.now → Becomes (.pntInRise t) s v)
      ∧ (u.pair.pntOut = false → u.pair.held = true → exec (.pntInRise t) s = .next v.partnerTook.flush)
      ∧ (u.pair.pntOut = false → u.pair.held = false → Becomes (.pntInRise t) s v))
  ∧ (u.pair.pntOut = true → u.pair.pntIn = true → u.pair.pfault = false → u.boot.unit = 0 → u.swapping = false →
      BecomesTelling (.pennantLineFault t) s (u.modPr fun x => { x with pfault := true }) 0xB7 0 0 ((u.modPr fun x => { x with pfault := true }).pairItems))
  ∧ (∀ w, u.pair.pntOut = true → u.pair.pntIn = true → v = (if u.pair.pfault then u else (u.modPr fun x => { x with pfault := true }).pairFire 0xB7) →
      w = (if u.boot.unit = 1 then v.dropHold else v) →
      Becomes (.pennantLineFault t) s (if w.swapping then w.modPr fun x => { x with prove := none } else w))
  ∧ (u.pair.st = .ready → v = (u.claimLine.modPr fun x => { x with takeAt := some (u.time.now + 80000), cold := false }).setPair .taking →
      Becomes (.hotTake t) s (v.recordTake 1))
  ∧ (u.pair.st ≠ .ready → Becomes (.hotTake t) s u)
  ∧ (u.pair.st = .stale ∨ u.pair.st = .orphan → u.swapping = false →
      GoesOnWith (.coldTake t) s fun x => x.pair.st = .taking ∧ x.pair.takeAt = some u.time.now ∧ x.pair.cold = true ∧ x.pair.pntOut = true)
  ∧ (∀ p, u.pair.prove = some p → p.step = 3 → u.pair.pntIn = false → p.taken + 500000 ≤ u.time.now →
      v = (u.modPr fun x => { x with pntOut := true, raisedAt := u.time.now, refresh := u.time.now, partner := 3, held := false }) →
      Becomes (.proveTakeTimeout t) s ((v.setPair v.holderState).modPr fun x => { x with prove := none }))
  ∧ (u.pair.st ≠ .unpaired → u.pair.warned = false → Cfg.PairCfg.PROVEWARN u.pairCfg0 ≠ 0 → Cfg.PairCfg.PROVEWARN u.pairCfg0 ≤ u.proveAge →
      BecomesTelling (.provewarnReached t) s (u.modPr fun x => { x with warned := true }) 0xB6 0 0 ((u.modPr fun x => { x with warned := true }).pairItems))

/-- R349-R352, R359: the two paths between the units. A heartbeat lost, or a link of two ticks without an image or an acknowledgement, is told with 0xB1 and makes a
holder ALONE, and a standby without any path ORPHAN; a heartbeat heard again makes an ORPHAN STALE; an acknowledgement tells the holder its
partner's state; a valid image is applied in a standby; the full transfer complete makes a SYNCING standby READY where it is current, else
STALE. -/
def Obligations.PairPathRows : Prop :=
  ∀ (s u v : State) (t st : Nat) (cfgOk fwOk : Bool) (img : PairImg), u = s.advance t →
    (u.pair.hbLine = true → Becomes (.heartbeatLoss t) s (u.modPr fun x => { x with hbLine := false }).pathLost)
  ∧ (u.pair.hbLine = false → Becomes (.heartbeatLoss t) s u)
  ∧ (u.pair.hbLine = false → u.pair.st = .orphan →
      Becomes (.heartbeatRestore t) s (((u.modPr fun x => { x with hbLine := true }).pairFire 0xB1).setPair .stale))
  ∧ (u.pair.hbLine = false → u.pair.st ≠ .orphan →
      Becomes (.heartbeatRestore t) s ((u.modPr fun x => { x with hbLine := true }).pairFire 0xB1).settleHolder)
  ∧ (u.pair.hbLine = true → Becomes (.heartbeatRestore t) s u)
  ∧ (u.holds = true → u.pair.link = true → 2 ≤ u.pair.ackMiss → Becomes (.pairLinkLoss t) s (u.modPr fun x => { x with link := false }).pathLost)
  ∧ (u.holds = false → u.pair.link = true → u.pair.imageAt + 250000 ≤ u.time.now →
      Becomes (.pairLinkLoss t) s (u.modPr fun x => { x with link := false }).pathLost)
  ∧ (u.holds = true → u.pair.linkSess = true → Becomes (.pairImageAck t st cfgOk fwOk) s
      ((u.modPr fun x => { x with ackMiss := 0, partner := st % 256, cfgMatch := cfgOk, fwMatch := fwOk }).linkHeard.settleHolder))
  ∧ (u.holds = false ∨ u.pair.linkSess = false → Becomes (.pairImageAck t st cfgOk fwOk) s u)
  ∧ (u.standby = true → u.pair.st ≠ .taking → u.imageValid img = true →
      v = ((u.forwarded img).linkHeard.modPr fun x => { x with
        image := some img, imageAt := img.bound, iseq := img.iseq % 2 ^ 32, partner := img.pstate % 256
        cfgMatch := img.cfgCrc == (u.forwarded img).cfgCrc, fwMatch := img.fwOk
        defers := if bit img.iflg 3 then wrapAdd 16 x.defers 1 else x.defers, imgMax := max x.imgMax img.ilen }) →
      Becomes (.pairImage t img) s (((v.takeImage img).setTb (tbOfCode img.tbst)).imageState))
  ∧ (u.standby = false ∨ u.pair.st = .taking ∨ u.imageValid img = false → Becomes (.pairImage t img) s u)
  ∧ (u.pair.st = .syncing → u.pair.image.isSome = true → Becomes (.syncComplete t) s (u.setPair (if u.current then .ready else .stale)))
end

