-- ==== Sys2Proof/Laws/State.lean ====
section
/-! SUPPORT. One lemma per field per update of the state: what an update writes, and that it leaves every other field as it
was. -/

namespace Sys2Proof.Machine

/-! ## advance -/

@[simp] theorem State.advance_power (t : Nat) (s : State) : (s.advance t).power = s.power := rfl
@[simp] theorem State.advance_ecc (t : Nat) (s : State) : (s.advance t).ecc = s.ecc := rfl
@[simp] theorem State.advance_rings (t : Nat) (s : State) : (s.advance t).rings = s.rings := rfl
@[simp] theorem State.advance_ev (t : Nat) (s : State) : (s.advance t).ev = s.ev := rfl
@[simp] theorem State.advance_msix (t : Nat) (s : State) : (s.advance t).msix = s.msix := rfl
@[simp] theorem State.advance_prot (t : Nat) (s : State) : (s.advance t).prot = s.prot := rfl
@[simp] theorem State.advance_launchQ (t : Nat) (s : State) : (s.advance t).launchQ = s.launchQ := rfl
@[simp] theorem State.advance_miles (t : Nat) (s : State) : (s.advance t).miles = s.miles := rfl
@[simp] theorem State.advance_cfg (t : Nat) (s : State) : (s.advance t).cfg = s.cfg := rfl
@[simp] theorem State.advance_chk (t : Nat) (s : State) : (s.advance t).chk = s.chk := rfl
@[simp] theorem State.advance_pts (t : Nat) (s : State) : (s.advance t).pts = s.pts := rfl
@[simp] theorem State.advance_trunks (t : Nat) (s : State) : (s.advance t).trunks = s.trunks := rfl
@[simp] theorem State.advance_segs (t : Nat) (s : State) : (s.advance t).segs = s.segs := rfl
@[simp] theorem State.advance_enumRun (t : Nat) (s : State) : (s.advance t).enumRun = s.enumRun := rfl
@[simp] theorem State.advance_chans (t : Nat) (s : State) : (s.advance t).chans = s.chans := rfl
@[simp] theorem State.advance_caps (t : Nat) (s : State) : (s.advance t).caps = s.caps := rfl
@[simp] theorem State.advance_auth (t : Nat) (s : State) : (s.advance t).auth = s.auth := rfl
@[simp] theorem State.advance_disp (t : Nat) (s : State) : (s.advance t).disp = s.disp := rfl
@[simp] theorem State.advance_doors (t : Nat) (s : State) : (s.advance t).doors = s.doors := rfl
@[simp] theorem State.advance_crole (t : Nat) (s : State) : (s.advance t).crole = s.crole := rfl
@[simp] theorem State.advance_safe (t : Nat) (s : State) : (s.advance t).safe = s.safe := rfl
@[simp] theorem State.advance_field (t : Nat) (s : State) : (s.advance t).field = s.field := rfl
@[simp] theorem State.advance_can (t : Nat) (s : State) : (s.advance t).can = s.can := rfl
@[simp] theorem State.advance_meter (t : Nat) (s : State) : (s.advance t).meter = s.meter := rfl
@[simp] theorem State.advance_pair (t : Nat) (s : State) : (s.advance t).pair = s.pair := rfl
@[simp] theorem State.advance_vault (t : Nat) (s : State) : (s.advance t).vault = s.vault := rfl
@[simp] theorem State.advance_sec (t : Nat) (s : State) : (s.advance t).sec = s.sec := rfl
@[simp] theorem State.advance_led (t : Nat) (s : State) : (s.advance t).led = s.led := rfl
@[simp] theorem State.advance_jrn (t : Nat) (s : State) : (s.advance t).jrn = s.jrn := rfl
@[simp] theorem State.advance_free (t : Nat) (s : State) : (s.advance t).free = s.free := rfl
@[simp] theorem State.advance_pending (t : Nat) (s : State) : (s.advance t).pending = s.pending := rfl

/-! ## modRing -/

@[simp] theorem State.modRing_boot (p : Nat) (f : Ring → Ring) (s : State) : (s.modRing p f).boot = s.boot := rfl
@[simp] theorem State.modRing_power (p : Nat) (f : Ring → Ring) (s : State) : (s.modRing p f).power = s.power := rfl
@[simp] theorem State.modRing_ecc (p : Nat) (f : Ring → Ring) (s : State) : (s.modRing p f).ecc = s.ecc := rfl
@[simp] theorem State.modRing_time (p : Nat) (f : Ring → Ring) (s : State) : (s.modRing p f).time = s.time := rfl
@[simp] theorem State.modRing_rings (p : Nat) (f : Ring → Ring) (s : State) : (s.modRing p f).rings = s.rings.modify p f := rfl
@[simp] theorem State.modRing_ev (p : Nat) (f : Ring → Ring) (s : State) : (s.modRing p f).ev = s.ev := rfl
@[simp] theorem State.modRing_msix (p : Nat) (f : Ring → Ring) (s : State) : (s.modRing p f).msix = s.msix := rfl
@[simp] theorem State.modRing_prot (p : Nat) (f : Ring → Ring) (s : State) : (s.modRing p f).prot = s.prot := rfl
@[simp] theorem State.modRing_launchQ (p : Nat) (f : Ring → Ring) (s : State) : (s.modRing p f).launchQ = s.launchQ := rfl
@[simp] theorem State.modRing_miles (p : Nat) (f : Ring → Ring) (s : State) : (s.modRing p f).miles = s.miles := rfl
@[simp] theorem State.modRing_cfg (p : Nat) (f : Ring → Ring) (s : State) : (s.modRing p f).cfg = s.cfg := rfl
@[simp] theorem State.modRing_chk (p : Nat) (f : Ring → Ring) (s : State) : (s.modRing p f).chk = s.chk := rfl
@[simp] theorem State.modRing_pts (p : Nat) (f : Ring → Ring) (s : State) : (s.modRing p f).pts = s.pts := rfl
@[simp] theorem State.modRing_cars (p : Nat) (f : Ring → Ring) (s : State) : (s.modRing p f).cars = s.cars := rfl
@[simp] theorem State.modRing_trunks (p : Nat) (f : Ring → Ring) (s : State) : (s.modRing p f).trunks = s.trunks := rfl
@[simp] theorem State.modRing_segs (p : Nat) (f : Ring → Ring) (s : State) : (s.modRing p f).segs = s.segs := rfl
@[simp] theorem State.modRing_enumRun (p : Nat) (f : Ring → Ring) (s : State) : (s.modRing p f).enumRun = s.enumRun := rfl
@[simp] theorem State.modRing_chans (p : Nat) (f : Ring → Ring) (s : State) : (s.modRing p f).chans = s.chans := rfl
@[simp] theorem State.modRing_caps (p : Nat) (f : Ring → Ring) (s : State) : (s.modRing p f).caps = s.caps := rfl
@[simp] theorem State.modRing_auth (p : Nat) (f : Ring → Ring) (s : State) : (s.modRing p f).auth = s.auth := rfl
@[simp] theorem State.modRing_disp (p : Nat) (f : Ring → Ring) (s : State) : (s.modRing p f).disp = s.disp := rfl
@[simp] theorem State.modRing_axes (p : Nat) (f : Ring → Ring) (s : State) : (s.modRing p f).axes = s.axes := rfl
@[simp] theorem State.modRing_doors (p : Nat) (f : Ring → Ring) (s : State) : (s.modRing p f).doors = s.doors := rfl
@[simp] theorem State.modRing_crole (p : Nat) (f : Ring → Ring) (s : State) : (s.modRing p f).crole = s.crole := rfl
@[simp] theorem State.modRing_safe (p : Nat) (f : Ring → Ring) (s : State) : (s.modRing p f).safe = s.safe := rfl
@[simp] theorem State.modRing_field (p : Nat) (f : Ring → Ring) (s : State) : (s.modRing p f).field = s.field := rfl
@[simp] theorem State.modRing_can (p : Nat) (f : Ring → Ring) (s : State) : (s.modRing p f).can = s.can := rfl
@[simp] theorem State.modRing_meter (p : Nat) (f : Ring → Ring) (s : State) : (s.modRing p f).meter = s.meter := rfl
@[simp] theorem State.modRing_pair (p : Nat) (f : Ring → Ring) (s : State) : (s.modRing p f).pair = s.pair := rfl
@[simp] theorem State.modRing_vault (p : Nat) (f : Ring → Ring) (s : State) : (s.modRing p f).vault = s.vault := rfl
@[simp] theorem State.modRing_sec (p : Nat) (f : Ring → Ring) (s : State) : (s.modRing p f).sec = s.sec := rfl
@[simp] theorem State.modRing_led (p : Nat) (f : Ring → Ring) (s : State) : (s.modRing p f).led = s.led := rfl
@[simp] theorem State.modRing_jrn (p : Nat) (f : Ring → Ring) (s : State) : (s.modRing p f).jrn = s.jrn := rfl
@[simp] theorem State.modRing_free (p : Nat) (f : Ring → Ring) (s : State) : (s.modRing p f).free = s.free := rfl
@[simp] theorem State.modRing_pending (p : Nat) (f : Ring → Ring) (s : State) : (s.modRing p f).pending = s.pending := rfl

/-! ## modCar -/

@[simp] theorem State.modCar_boot (c : Nat) (f : Car → Car) (s : State) : (s.modCar c f).boot = s.boot := rfl
@[simp] theorem State.modCar_power (c : Nat) (f : Car → Car) (s : State) : (s.modCar c f).power = s.power := rfl
@[simp] theorem State.modCar_ecc (c : Nat) (f : Car → Car) (s : State) : (s.modCar c f).ecc = s.ecc := rfl
@[simp] theorem State.modCar_time (c : Nat) (f : Car → Car) (s : State) : (s.modCar c f).time = s.time := rfl
@[simp] theorem State.modCar_rings (c : Nat) (f : Car → Car) (s : State) : (s.modCar c f).rings = s.rings := rfl
@[simp] theorem State.modCar_ev (c : Nat) (f : Car → Car) (s : State) : (s.modCar c f).ev = s.ev := rfl
@[simp] theorem State.modCar_msix (c : Nat) (f : Car → Car) (s : State) : (s.modCar c f).msix = s.msix := rfl
@[simp] theorem State.modCar_prot (c : Nat) (f : Car → Car) (s : State) : (s.modCar c f).prot = s.prot := rfl
@[simp] theorem State.modCar_launchQ (c : Nat) (f : Car → Car) (s : State) : (s.modCar c f).launchQ = s.launchQ := rfl
@[simp] theorem State.modCar_miles (c : Nat) (f : Car → Car) (s : State) : (s.modCar c f).miles = s.miles := rfl
@[simp] theorem State.modCar_cfg (c : Nat) (f : Car → Car) (s : State) : (s.modCar c f).cfg = s.cfg := rfl
@[simp] theorem State.modCar_chk (c : Nat) (f : Car → Car) (s : State) : (s.modCar c f).chk = s.chk := rfl
@[simp] theorem State.modCar_pts (c : Nat) (f : Car → Car) (s : State) : (s.modCar c f).pts = s.pts := rfl
@[simp] theorem State.modCar_cars (c : Nat) (f : Car → Car) (s : State) : (s.modCar c f).cars = s.cars.modify c f := rfl
@[simp] theorem State.modCar_trunks (c : Nat) (f : Car → Car) (s : State) : (s.modCar c f).trunks = s.trunks := rfl
@[simp] theorem State.modCar_segs (c : Nat) (f : Car → Car) (s : State) : (s.modCar c f).segs = s.segs := rfl
@[simp] theorem State.modCar_enumRun (c : Nat) (f : Car → Car) (s : State) : (s.modCar c f).enumRun = s.enumRun := rfl
@[simp] theorem State.modCar_chans (c : Nat) (f : Car → Car) (s : State) : (s.modCar c f).chans = s.chans := rfl
@[simp] theorem State.modCar_caps (c : Nat) (f : Car → Car) (s : State) : (s.modCar c f).caps = s.caps := rfl
@[simp] theorem State.modCar_auth (c : Nat) (f : Car → Car) (s : State) : (s.modCar c f).auth = s.auth := rfl
@[simp] theorem State.modCar_disp (c : Nat) (f : Car → Car) (s : State) : (s.modCar c f).disp = s.disp := rfl
@[simp] theorem State.modCar_axes (c : Nat) (f : Car → Car) (s : State) : (s.modCar c f).axes = s.axes := rfl
@[simp] theorem State.modCar_doors (c : Nat) (f : Car → Car) (s : State) : (s.modCar c f).doors = s.doors := rfl
@[simp] theorem State.modCar_crole (c : Nat) (f : Car → Car) (s : State) : (s.modCar c f).crole = s.crole := rfl
@[simp] theorem State.modCar_safe (c : Nat) (f : Car → Car) (s : State) : (s.modCar c f).safe = s.safe := rfl
@[simp] theorem State.modCar_field (c : Nat) (f : Car → Car) (s : State) : (s.modCar c f).field = s.field := rfl
@[simp] theorem State.modCar_can (c : Nat) (f : Car → Car) (s : State) : (s.modCar c f).can = s.can := rfl
@[simp] theorem State.modCar_meter (c : Nat) (f : Car → Car) (s : State) : (s.modCar c f).meter = s.meter := rfl
@[simp] theorem State.modCar_pair (c : Nat) (f : Car → Car) (s : State) : (s.modCar c f).pair = s.pair := rfl
@[simp] theorem State.modCar_vault (c : Nat) (f : Car → Car) (s : State) : (s.modCar c f).vault = s.vault := rfl
@[simp] theorem State.modCar_sec (c : Nat) (f : Car → Car) (s : State) : (s.modCar c f).sec = s.sec := rfl
@[simp] theorem State.modCar_led (c : Nat) (f : Car → Car) (s : State) : (s.modCar c f).led = s.led := rfl
@[simp] theorem State.modCar_jrn (c : Nat) (f : Car → Car) (s : State) : (s.modCar c f).jrn = s.jrn := rfl
@[simp] theorem State.modCar_free (c : Nat) (f : Car → Car) (s : State) : (s.modCar c f).free = s.free := rfl
@[simp] theorem State.modCar_pending (c : Nat) (f : Car → Car) (s : State) : (s.modCar c f).pending = s.pending := rfl

/-! ## modTrunk -/

@[simp] theorem State.modTrunk_boot (t : Nat) (f : Trunk → Trunk) (s : State) : (s.modTrunk t f).boot = s.boot := rfl
@[simp] theorem State.modTrunk_power (t : Nat) (f : Trunk → Trunk) (s : State) : (s.modTrunk t f).power = s.power := rfl
@[simp] theorem State.modTrunk_ecc (t : Nat) (f : Trunk → Trunk) (s : State) : (s.modTrunk t f).ecc = s.ecc := rfl
@[simp] theorem State.modTrunk_time (t : Nat) (f : Trunk → Trunk) (s : State) : (s.modTrunk t f).time = s.time := rfl
@[simp] theorem State.modTrunk_rings (t : Nat) (f : Trunk → Trunk) (s : State) : (s.modTrunk t f).rings = s.rings := rfl
@[simp] theorem State.modTrunk_ev (t : Nat) (f : Trunk → Trunk) (s : State) : (s.modTrunk t f).ev = s.ev := rfl
@[simp] theorem State.modTrunk_msix (t : Nat) (f : Trunk → Trunk) (s : State) : (s.modTrunk t f).msix = s.msix := rfl
@[simp] theorem State.modTrunk_prot (t : Nat) (f : Trunk → Trunk) (s : State) : (s.modTrunk t f).prot = s.prot := rfl
@[simp] theorem State.modTrunk_launchQ (t : Nat) (f : Trunk → Trunk) (s : State) : (s.modTrunk t f).launchQ = s.launchQ := rfl
@[simp] theorem State.modTrunk_miles (t : Nat) (f : Trunk → Trunk) (s : State) : (s.modTrunk t f).miles = s.miles := rfl
@[simp] theorem State.modTrunk_cfg (t : Nat) (f : Trunk → Trunk) (s : State) : (s.modTrunk t f).cfg = s.cfg := rfl
@[simp] theorem State.modTrunk_chk (t : Nat) (f : Trunk → Trunk) (s : State) : (s.modTrunk t f).chk = s.chk := rfl
@[simp] theorem State.modTrunk_pts (t : Nat) (f : Trunk → Trunk) (s : State) : (s.modTrunk t f).pts = s.pts := rfl
@[simp] theorem State.modTrunk_cars (t : Nat) (f : Trunk → Trunk) (s : State) : (s.modTrunk t f).cars = s.cars := rfl
@[simp] theorem State.modTrunk_trunks (t : Nat) (f : Trunk → Trunk) (s : State) : (s.modTrunk t f).trunks = s.trunks.modify t f := rfl
@[simp] theorem State.modTrunk_segs (t : Nat) (f : Trunk → Trunk) (s : State) : (s.modTrunk t f).segs = s.segs := rfl
@[simp] theorem State.modTrunk_enumRun (t : Nat) (f : Trunk → Trunk) (s : State) : (s.modTrunk t f).enumRun = s.enumRun := rfl
@[simp] theorem State.modTrunk_chans (t : Nat) (f : Trunk → Trunk) (s : State) : (s.modTrunk t f).chans = s.chans := rfl
@[simp] theorem State.modTrunk_caps (t : Nat) (f : Trunk → Trunk) (s : State) : (s.modTrunk t f).caps = s.caps := rfl
@[simp] theorem State.modTrunk_auth (t : Nat) (f : Trunk → Trunk) (s : State) : (s.modTrunk t f).auth = s.auth := rfl
@[simp] theorem State.modTrunk_disp (t : Nat) (f : Trunk → Trunk) (s : State) : (s.modTrunk t f).disp = s.disp := rfl
@[simp] theorem State.modTrunk_axes (t : Nat) (f : Trunk → Trunk) (s : State) : (s.modTrunk t f).axes = s.axes := rfl
@[simp] theorem State.modTrunk_doors (t : Nat) (f : Trunk → Trunk) (s : State) : (s.modTrunk t f).doors = s.doors := rfl
@[simp] theorem State.modTrunk_crole (t : Nat) (f : Trunk → Trunk) (s : State) : (s.modTrunk t f).crole = s.crole := rfl
@[simp] theorem State.modTrunk_safe (t : Nat) (f : Trunk → Trunk) (s : State) : (s.modTrunk t f).safe = s.safe := rfl
@[simp] theorem State.modTrunk_field (t : Nat) (f : Trunk → Trunk) (s : State) : (s.modTrunk t f).field = s.field := rfl
@[simp] theorem State.modTrunk_can (t : Nat) (f : Trunk → Trunk) (s : State) : (s.modTrunk t f).can = s.can := rfl
@[simp] theorem State.modTrunk_meter (t : Nat) (f : Trunk → Trunk) (s : State) : (s.modTrunk t f).meter = s.meter := rfl
@[simp] theorem State.modTrunk_pair (t : Nat) (f : Trunk → Trunk) (s : State) : (s.modTrunk t f).pair = s.pair := rfl
@[simp] theorem State.modTrunk_vault (t : Nat) (f : Trunk → Trunk) (s : State) : (s.modTrunk t f).vault = s.vault := rfl
@[simp] theorem State.modTrunk_sec (t : Nat) (f : Trunk → Trunk) (s : State) : (s.modTrunk t f).sec = s.sec := rfl
@[simp] theorem State.modTrunk_led (t : Nat) (f : Trunk → Trunk) (s : State) : (s.modTrunk t f).led = s.led := rfl
@[simp] theorem State.modTrunk_jrn (t : Nat) (f : Trunk → Trunk) (s : State) : (s.modTrunk t f).jrn = s.jrn := rfl
@[simp] theorem State.modTrunk_free (t : Nat) (f : Trunk → Trunk) (s : State) : (s.modTrunk t f).free = s.free := rfl
@[simp] theorem State.modTrunk_pending (t : Nat) (f : Trunk → Trunk) (s : State) : (s.modTrunk t f).pending = s.pending := rfl

/-! ## modChan -/

@[simp] theorem State.modChan_boot (c : Nat) (f : Chan → Chan) (s : State) : (s.modChan c f).boot = s.boot := rfl
@[simp] theorem State.modChan_power (c : Nat) (f : Chan → Chan) (s : State) : (s.modChan c f).power = s.power := rfl
@[simp] theorem State.modChan_ecc (c : Nat) (f : Chan → Chan) (s : State) : (s.modChan c f).ecc = s.ecc := rfl
@[simp] theorem State.modChan_time (c : Nat) (f : Chan → Chan) (s : State) : (s.modChan c f).time = s.time := rfl
@[simp] theorem State.modChan_rings (c : Nat) (f : Chan → Chan) (s : State) : (s.modChan c f).rings = s.rings := rfl
@[simp] theorem State.modChan_ev (c : Nat) (f : Chan → Chan) (s : State) : (s.modChan c f).ev = s.ev := rfl
@[simp] theorem State.modChan_msix (c : Nat) (f : Chan → Chan) (s : State) : (s.modChan c f).msix = s.msix := rfl
@[simp] theorem State.modChan_prot (c : Nat) (f : Chan → Chan) (s : State) : (s.modChan c f).prot = s.prot := rfl
@[simp] theorem State.modChan_launchQ (c : Nat) (f : Chan → Chan) (s : State) : (s.modChan c f).launchQ = s.launchQ := rfl
@[simp] theorem State.modChan_miles (c : Nat) (f : Chan → Chan) (s : State) : (s.modChan c f).miles = s.miles := rfl
@[simp] theorem State.modChan_cfg (c : Nat) (f : Chan → Chan) (s : State) : (s.modChan c f).cfg = s.cfg := rfl
@[simp] theorem State.modChan_chk (c : Nat) (f : Chan → Chan) (s : State) : (s.modChan c f).chk = s.chk := rfl
@[simp] theorem State.modChan_pts (c : Nat) (f : Chan → Chan) (s : State) : (s.modChan c f).pts = s.pts := rfl
@[simp] theorem State.modChan_cars (c : Nat) (f : Chan → Chan) (s : State) : (s.modChan c f).cars = s.cars := rfl
@[simp] theorem State.modChan_trunks (c : Nat) (f : Chan → Chan) (s : State) : (s.modChan c f).trunks = s.trunks := rfl
@[simp] theorem State.modChan_segs (c : Nat) (f : Chan → Chan) (s : State) : (s.modChan c f).segs = s.segs := rfl
@[simp] theorem State.modChan_enumRun (c : Nat) (f : Chan → Chan) (s : State) : (s.modChan c f).enumRun = s.enumRun := rfl
@[simp] theorem State.modChan_chans (c : Nat) (f : Chan → Chan) (s : State) : (s.modChan c f).chans = s.chans.modify c f := rfl
@[simp] theorem State.modChan_caps (c : Nat) (f : Chan → Chan) (s : State) : (s.modChan c f).caps = s.caps := rfl
@[simp] theorem State.modChan_auth (c : Nat) (f : Chan → Chan) (s : State) : (s.modChan c f).auth = s.auth := rfl
@[simp] theorem State.modChan_disp (c : Nat) (f : Chan → Chan) (s : State) : (s.modChan c f).disp = s.disp := rfl
@[simp] theorem State.modChan_axes (c : Nat) (f : Chan → Chan) (s : State) : (s.modChan c f).axes = s.axes := rfl
@[simp] theorem State.modChan_doors (c : Nat) (f : Chan → Chan) (s : State) : (s.modChan c f).doors = s.doors := rfl
@[simp] theorem State.modChan_crole (c : Nat) (f : Chan → Chan) (s : State) : (s.modChan c f).crole = s.crole := rfl
@[simp] theorem State.modChan_safe (c : Nat) (f : Chan → Chan) (s : State) : (s.modChan c f).safe = s.safe := rfl
@[simp] theorem State.modChan_field (c : Nat) (f : Chan → Chan) (s : State) : (s.modChan c f).field = s.field := rfl
@[simp] theorem State.modChan_can (c : Nat) (f : Chan → Chan) (s : State) : (s.modChan c f).can = s.can := rfl
@[simp] theorem State.modChan_meter (c : Nat) (f : Chan → Chan) (s : State) : (s.modChan c f).meter = s.meter := rfl
@[simp] theorem State.modChan_pair (c : Nat) (f : Chan → Chan) (s : State) : (s.modChan c f).pair = s.pair := rfl
@[simp] theorem State.modChan_vault (c : Nat) (f : Chan → Chan) (s : State) : (s.modChan c f).vault = s.vault := rfl
@[simp] theorem State.modChan_sec (c : Nat) (f : Chan → Chan) (s : State) : (s.modChan c f).sec = s.sec := rfl
@[simp] theorem State.modChan_led (c : Nat) (f : Chan → Chan) (s : State) : (s.modChan c f).led = s.led := rfl
@[simp] theorem State.modChan_jrn (c : Nat) (f : Chan → Chan) (s : State) : (s.modChan c f).jrn = s.jrn := rfl
@[simp] theorem State.modChan_free (c : Nat) (f : Chan → Chan) (s : State) : (s.modChan c f).free = s.free := rfl
@[simp] theorem State.modChan_pending (c : Nat) (f : Chan → Chan) (s : State) : (s.modChan c f).pending = s.pending := rfl

/-! ## modAxis -/

@[simp] theorem State.modAxis_boot (a : Nat) (f : Axis → Axis) (s : State) : (s.modAxis a f).boot = s.boot := rfl
@[simp] theorem State.modAxis_power (a : Nat) (f : Axis → Axis) (s : State) : (s.modAxis a f).power = s.power := rfl
@[simp] theorem State.modAxis_ecc (a : Nat) (f : Axis → Axis) (s : State) : (s.modAxis a f).ecc = s.ecc := rfl
@[simp] theorem State.modAxis_time (a : Nat) (f : Axis → Axis) (s : State) : (s.modAxis a f).time = s.time := rfl
@[simp] theorem State.modAxis_rings (a : Nat) (f : Axis → Axis) (s : State) : (s.modAxis a f).rings = s.rings := rfl
@[simp] theorem State.modAxis_ev (a : Nat) (f : Axis → Axis) (s : State) : (s.modAxis a f).ev = s.ev := rfl
@[simp] theorem State.modAxis_msix (a : Nat) (f : Axis → Axis) (s : State) : (s.modAxis a f).msix = s.msix := rfl
@[simp] theorem State.modAxis_prot (a : Nat) (f : Axis → Axis) (s : State) : (s.modAxis a f).prot = s.prot := rfl
@[simp] theorem State.modAxis_launchQ (a : Nat) (f : Axis → Axis) (s : State) : (s.modAxis a f).launchQ = s.launchQ := rfl
@[simp] theorem State.modAxis_miles (a : Nat) (f : Axis → Axis) (s : State) : (s.modAxis a f).miles = s.miles := rfl
@[simp] theorem State.modAxis_cfg (a : Nat) (f : Axis → Axis) (s : State) : (s.modAxis a f).cfg = s.cfg := rfl
@[simp] theorem State.modAxis_chk (a : Nat) (f : Axis → Axis) (s : State) : (s.modAxis a f).chk = s.chk := rfl
@[simp] theorem State.modAxis_pts (a : Nat) (f : Axis → Axis) (s : State) : (s.modAxis a f).pts = s.pts := rfl
@[simp] theorem State.modAxis_cars (a : Nat) (f : Axis → Axis) (s : State) : (s.modAxis a f).cars = s.cars := rfl
@[simp] theorem State.modAxis_trunks (a : Nat) (f : Axis → Axis) (s : State) : (s.modAxis a f).trunks = s.trunks := rfl
@[simp] theorem State.modAxis_segs (a : Nat) (f : Axis → Axis) (s : State) : (s.modAxis a f).segs = s.segs := rfl
@[simp] theorem State.modAxis_enumRun (a : Nat) (f : Axis → Axis) (s : State) : (s.modAxis a f).enumRun = s.enumRun := rfl
@[simp] theorem State.modAxis_chans (a : Nat) (f : Axis → Axis) (s : State) : (s.modAxis a f).chans = s.chans := rfl
@[simp] theorem State.modAxis_caps (a : Nat) (f : Axis → Axis) (s : State) : (s.modAxis a f).caps = s.caps := rfl
@[simp] theorem State.modAxis_auth (a : Nat) (f : Axis → Axis) (s : State) : (s.modAxis a f).auth = s.auth := rfl
@[simp] theorem State.modAxis_disp (a : Nat) (f : Axis → Axis) (s : State) : (s.modAxis a f).disp = s.disp := rfl
@[simp] theorem State.modAxis_axes (a : Nat) (f : Axis → Axis) (s : State) : (s.modAxis a f).axes = s.axes.modify a f := rfl
@[simp] theorem State.modAxis_doors (a : Nat) (f : Axis → Axis) (s : State) : (s.modAxis a f).doors = s.doors := rfl
@[simp] theorem State.modAxis_crole (a : Nat) (f : Axis → Axis) (s : State) : (s.modAxis a f).crole = s.crole := rfl
@[simp] theorem State.modAxis_safe (a : Nat) (f : Axis → Axis) (s : State) : (s.modAxis a f).safe = s.safe := rfl
@[simp] theorem State.modAxis_field (a : Nat) (f : Axis → Axis) (s : State) : (s.modAxis a f).field = s.field := rfl
@[simp] theorem State.modAxis_can (a : Nat) (f : Axis → Axis) (s : State) : (s.modAxis a f).can = s.can := rfl
@[simp] theorem State.modAxis_meter (a : Nat) (f : Axis → Axis) (s : State) : (s.modAxis a f).meter = s.meter := rfl
@[simp] theorem State.modAxis_pair (a : Nat) (f : Axis → Axis) (s : State) : (s.modAxis a f).pair = s.pair := rfl
@[simp] theorem State.modAxis_vault (a : Nat) (f : Axis → Axis) (s : State) : (s.modAxis a f).vault = s.vault := rfl
@[simp] theorem State.modAxis_sec (a : Nat) (f : Axis → Axis) (s : State) : (s.modAxis a f).sec = s.sec := rfl
@[simp] theorem State.modAxis_led (a : Nat) (f : Axis → Axis) (s : State) : (s.modAxis a f).led = s.led := rfl
@[simp] theorem State.modAxis_jrn (a : Nat) (f : Axis → Axis) (s : State) : (s.modAxis a f).jrn = s.jrn := rfl
@[simp] theorem State.modAxis_free (a : Nat) (f : Axis → Axis) (s : State) : (s.modAxis a f).free = s.free := rfl
@[simp] theorem State.modAxis_pending (a : Nat) (f : Axis → Axis) (s : State) : (s.modAxis a f).pending = s.pending := rfl

/-! ## modDoor -/

@[simp] theorem State.modDoor_boot (d : Nat) (f : Door → Door) (s : State) : (s.modDoor d f).boot = s.boot := rfl
@[simp] theorem State.modDoor_power (d : Nat) (f : Door → Door) (s : State) : (s.modDoor d f).power = s.power := rfl
@[simp] theorem State.modDoor_ecc (d : Nat) (f : Door → Door) (s : State) : (s.modDoor d f).ecc = s.ecc := rfl
@[simp] theorem State.modDoor_time (d : Nat) (f : Door → Door) (s : State) : (s.modDoor d f).time = s.time := rfl
@[simp] theorem State.modDoor_rings (d : Nat) (f : Door → Door) (s : State) : (s.modDoor d f).rings = s.rings := rfl
@[simp] theorem State.modDoor_ev (d : Nat) (f : Door → Door) (s : State) : (s.modDoor d f).ev = s.ev := rfl
@[simp] theorem State.modDoor_msix (d : Nat) (f : Door → Door) (s : State) : (s.modDoor d f).msix = s.msix := rfl
@[simp] theorem State.modDoor_prot (d : Nat) (f : Door → Door) (s : State) : (s.modDoor d f).prot = s.prot := rfl
@[simp] theorem State.modDoor_launchQ (d : Nat) (f : Door → Door) (s : State) : (s.modDoor d f).launchQ = s.launchQ := rfl
@[simp] theorem State.modDoor_miles (d : Nat) (f : Door → Door) (s : State) : (s.modDoor d f).miles = s.miles := rfl
@[simp] theorem State.modDoor_cfg (d : Nat) (f : Door → Door) (s : State) : (s.modDoor d f).cfg = s.cfg := rfl
@[simp] theorem State.modDoor_chk (d : Nat) (f : Door → Door) (s : State) : (s.modDoor d f).chk = s.chk := rfl
@[simp] theorem State.modDoor_pts (d : Nat) (f : Door → Door) (s : State) : (s.modDoor d f).pts = s.pts := rfl
@[simp] theorem State.modDoor_cars (d : Nat) (f : Door → Door) (s : State) : (s.modDoor d f).cars = s.cars := rfl
@[simp] theorem State.modDoor_trunks (d : Nat) (f : Door → Door) (s : State) : (s.modDoor d f).trunks = s.trunks := rfl
@[simp] theorem State.modDoor_segs (d : Nat) (f : Door → Door) (s : State) : (s.modDoor d f).segs = s.segs := rfl
@[simp] theorem State.modDoor_enumRun (d : Nat) (f : Door → Door) (s : State) : (s.modDoor d f).enumRun = s.enumRun := rfl
@[simp] theorem State.modDoor_chans (d : Nat) (f : Door → Door) (s : State) : (s.modDoor d f).chans = s.chans := rfl
@[simp] theorem State.modDoor_caps (d : Nat) (f : Door → Door) (s : State) : (s.modDoor d f).caps = s.caps := rfl
@[simp] theorem State.modDoor_auth (d : Nat) (f : Door → Door) (s : State) : (s.modDoor d f).auth = s.auth := rfl
@[simp] theorem State.modDoor_disp (d : Nat) (f : Door → Door) (s : State) : (s.modDoor d f).disp = s.disp := rfl
@[simp] theorem State.modDoor_axes (d : Nat) (f : Door → Door) (s : State) : (s.modDoor d f).axes = s.axes := rfl
@[simp] theorem State.modDoor_doors (d : Nat) (f : Door → Door) (s : State) : (s.modDoor d f).doors = s.doors.modify d f := rfl
@[simp] theorem State.modDoor_crole (d : Nat) (f : Door → Door) (s : State) : (s.modDoor d f).crole = s.crole := rfl
@[simp] theorem State.modDoor_safe (d : Nat) (f : Door → Door) (s : State) : (s.modDoor d f).safe = s.safe := rfl
@[simp] theorem State.modDoor_field (d : Nat) (f : Door → Door) (s : State) : (s.modDoor d f).field = s.field := rfl
@[simp] theorem State.modDoor_can (d : Nat) (f : Door → Door) (s : State) : (s.modDoor d f).can = s.can := rfl
@[simp] theorem State.modDoor_meter (d : Nat) (f : Door → Door) (s : State) : (s.modDoor d f).meter = s.meter := rfl
@[simp] theorem State.modDoor_pair (d : Nat) (f : Door → Door) (s : State) : (s.modDoor d f).pair = s.pair := rfl
@[simp] theorem State.modDoor_vault (d : Nat) (f : Door → Door) (s : State) : (s.modDoor d f).vault = s.vault := rfl
@[simp] theorem State.modDoor_sec (d : Nat) (f : Door → Door) (s : State) : (s.modDoor d f).sec = s.sec := rfl
@[simp] theorem State.modDoor_led (d : Nat) (f : Door → Door) (s : State) : (s.modDoor d f).led = s.led := rfl
@[simp] theorem State.modDoor_jrn (d : Nat) (f : Door → Door) (s : State) : (s.modDoor d f).jrn = s.jrn := rfl
@[simp] theorem State.modDoor_free (d : Nat) (f : Door → Door) (s : State) : (s.modDoor d f).free = s.free := rfl
@[simp] theorem State.modDoor_pending (d : Nat) (f : Door → Door) (s : State) : (s.modDoor d f).pending = s.pending := rfl

/-! ## modCan -/

@[simp] theorem State.modCan_boot (c : Nat) (f : Can → Can) (s : State) : (s.modCan c f).boot = s.boot := rfl
@[simp] theorem State.modCan_power (c : Nat) (f : Can → Can) (s : State) : (s.modCan c f).power = s.power := rfl
@[simp] theorem State.modCan_ecc (c : Nat) (f : Can → Can) (s : State) : (s.modCan c f).ecc = s.ecc := rfl
@[simp] theorem State.modCan_time (c : Nat) (f : Can → Can) (s : State) : (s.modCan c f).time = s.time := rfl
@[simp] theorem State.modCan_rings (c : Nat) (f : Can → Can) (s : State) : (s.modCan c f).rings = s.rings := rfl
@[simp] theorem State.modCan_ev (c : Nat) (f : Can → Can) (s : State) : (s.modCan c f).ev = s.ev := rfl
@[simp] theorem State.modCan_msix (c : Nat) (f : Can → Can) (s : State) : (s.modCan c f).msix = s.msix := rfl
@[simp] theorem State.modCan_prot (c : Nat) (f : Can → Can) (s : State) : (s.modCan c f).prot = s.prot := rfl
@[simp] theorem State.modCan_launchQ (c : Nat) (f : Can → Can) (s : State) : (s.modCan c f).launchQ = s.launchQ := rfl
@[simp] theorem State.modCan_miles (c : Nat) (f : Can → Can) (s : State) : (s.modCan c f).miles = s.miles := rfl
@[simp] theorem State.modCan_cfg (c : Nat) (f : Can → Can) (s : State) : (s.modCan c f).cfg = s.cfg := rfl
@[simp] theorem State.modCan_chk (c : Nat) (f : Can → Can) (s : State) : (s.modCan c f).chk = s.chk := rfl
@[simp] theorem State.modCan_pts (c : Nat) (f : Can → Can) (s : State) : (s.modCan c f).pts = s.pts := rfl
@[simp] theorem State.modCan_cars (c : Nat) (f : Can → Can) (s : State) : (s.modCan c f).cars = s.cars := rfl
@[simp] theorem State.modCan_trunks (c : Nat) (f : Can → Can) (s : State) : (s.modCan c f).trunks = s.trunks := rfl
@[simp] theorem State.modCan_segs (c : Nat) (f : Can → Can) (s : State) : (s.modCan c f).segs = s.segs := rfl
@[simp] theorem State.modCan_enumRun (c : Nat) (f : Can → Can) (s : State) : (s.modCan c f).enumRun = s.enumRun := rfl
@[simp] theorem State.modCan_chans (c : Nat) (f : Can → Can) (s : State) : (s.modCan c f).chans = s.chans := rfl
@[simp] theorem State.modCan_caps (c : Nat) (f : Can → Can) (s : State) : (s.modCan c f).caps = s.caps := rfl
@[simp] theorem State.modCan_auth (c : Nat) (f : Can → Can) (s : State) : (s.modCan c f).auth = s.auth := rfl
@[simp] theorem State.modCan_disp (c : Nat) (f : Can → Can) (s : State) : (s.modCan c f).disp = s.disp := rfl
@[simp] theorem State.modCan_axes (c : Nat) (f : Can → Can) (s : State) : (s.modCan c f).axes = s.axes := rfl
@[simp] theorem State.modCan_doors (c : Nat) (f : Can → Can) (s : State) : (s.modCan c f).doors = s.doors := rfl
@[simp] theorem State.modCan_crole (c : Nat) (f : Can → Can) (s : State) : (s.modCan c f).crole = s.crole := rfl
@[simp] theorem State.modCan_safe (c : Nat) (f : Can → Can) (s : State) : (s.modCan c f).safe = s.safe := rfl
@[simp] theorem State.modCan_field (c : Nat) (f : Can → Can) (s : State) : (s.modCan c f).field = s.field := rfl
@[simp] theorem State.modCan_can (c : Nat) (f : Can → Can) (s : State) : (s.modCan c f).can = s.can.modify c f := rfl
@[simp] theorem State.modCan_meter (c : Nat) (f : Can → Can) (s : State) : (s.modCan c f).meter = s.meter := rfl
@[simp] theorem State.modCan_pair (c : Nat) (f : Can → Can) (s : State) : (s.modCan c f).pair = s.pair := rfl
@[simp] theorem State.modCan_vault (c : Nat) (f : Can → Can) (s : State) : (s.modCan c f).vault = s.vault := rfl
@[simp] theorem State.modCan_sec (c : Nat) (f : Can → Can) (s : State) : (s.modCan c f).sec = s.sec := rfl
@[simp] theorem State.modCan_led (c : Nat) (f : Can → Can) (s : State) : (s.modCan c f).led = s.led := rfl
@[simp] theorem State.modCan_jrn (c : Nat) (f : Can → Can) (s : State) : (s.modCan c f).jrn = s.jrn := rfl
@[simp] theorem State.modCan_free (c : Nat) (f : Can → Can) (s : State) : (s.modCan c f).free = s.free := rfl
@[simp] theorem State.modCan_pending (c : Nat) (f : Can → Can) (s : State) : (s.modCan c f).pending = s.pending := rfl

/-! ## modMeter -/

@[simp] theorem State.modMeter_boot (f : Meter → Meter) (s : State) : (s.modMeter f).boot = s.boot := rfl
@[simp] theorem State.modMeter_power (f : Meter → Meter) (s : State) : (s.modMeter f).power = s.power := rfl
@[simp] theorem State.modMeter_ecc (f : Meter → Meter) (s : State) : (s.modMeter f).ecc = s.ecc := rfl
@[simp] theorem State.modMeter_time (f : Meter → Meter) (s : State) : (s.modMeter f).time = s.time := rfl
@[simp] theorem State.modMeter_rings (f : Meter → Meter) (s : State) : (s.modMeter f).rings = s.rings := rfl
@[simp] theorem State.modMeter_ev (f : Meter → Meter) (s : State) : (s.modMeter f).ev = s.ev := rfl
@[simp] theorem State.modMeter_msix (f : Meter → Meter) (s : State) : (s.modMeter f).msix = s.msix := rfl
@[simp] theorem State.modMeter_prot (f : Meter → Meter) (s : State) : (s.modMeter f).prot = s.prot := rfl
@[simp] theorem State.modMeter_launchQ (f : Meter → Meter) (s : State) : (s.modMeter f).launchQ = s.launchQ := rfl
@[simp] theorem State.modMeter_miles (f : Meter → Meter) (s : State) : (s.modMeter f).miles = s.miles := rfl
@[simp] theorem State.modMeter_cfg (f : Meter → Meter) (s : State) : (s.modMeter f).cfg = s.cfg := rfl
@[simp] theorem State.modMeter_chk (f : Meter → Meter) (s : State) : (s.modMeter f).chk = s.chk := rfl
@[simp] theorem State.modMeter_pts (f : Meter → Meter) (s : State) : (s.modMeter f).pts = s.pts := rfl
@[simp] theorem State.modMeter_cars (f : Meter → Meter) (s : State) : (s.modMeter f).cars = s.cars := rfl
@[simp] theorem State.modMeter_trunks (f : Meter → Meter) (s : State) : (s.modMeter f).trunks = s.trunks := rfl
@[simp] theorem State.modMeter_segs (f : Meter → Meter) (s : State) : (s.modMeter f).segs = s.segs := rfl
@[simp] theorem State.modMeter_enumRun (f : Meter → Meter) (s : State) : (s.modMeter f).enumRun = s.enumRun := rfl
@[simp] theorem State.modMeter_chans (f : Meter → Meter) (s : State) : (s.modMeter f).chans = s.chans := rfl
@[simp] theorem State.modMeter_caps (f : Meter → Meter) (s : State) : (s.modMeter f).caps = s.caps := rfl
@[simp] theorem State.modMeter_auth (f : Meter → Meter) (s : State) : (s.modMeter f).auth = s.auth := rfl
@[simp] theorem State.modMeter_disp (f : Meter → Meter) (s : State) : (s.modMeter f).disp = s.disp := rfl
@[simp] theorem State.modMeter_axes (f : Meter → Meter) (s : State) : (s.modMeter f).axes = s.axes := rfl
@[simp] theorem State.modMeter_doors (f : Meter → Meter) (s : State) : (s.modMeter f).doors = s.doors := rfl
@[simp] theorem State.modMeter_crole (f : Meter → Meter) (s : State) : (s.modMeter f).crole = s.crole := rfl
@[simp] theorem State.modMeter_safe (f : Meter → Meter) (s : State) : (s.modMeter f).safe = s.safe := rfl
@[simp] theorem State.modMeter_field (f : Meter → Meter) (s : State) : (s.modMeter f).field = s.field := rfl
@[simp] theorem State.modMeter_can (f : Meter → Meter) (s : State) : (s.modMeter f).can = s.can := rfl
@[simp] theorem State.modMeter_meter (f : Meter → Meter) (s : State) : (s.modMeter f).meter = f s.meter := rfl
@[simp] theorem State.modMeter_pair (f : Meter → Meter) (s : State) : (s.modMeter f).pair = s.pair := rfl
@[simp] theorem State.modMeter_vault (f : Meter → Meter) (s : State) : (s.modMeter f).vault = s.vault := rfl
@[simp] theorem State.modMeter_sec (f : Meter → Meter) (s : State) : (s.modMeter f).sec = s.sec := rfl
@[simp] theorem State.modMeter_led (f : Meter → Meter) (s : State) : (s.modMeter f).led = s.led := rfl
@[simp] theorem State.modMeter_jrn (f : Meter → Meter) (s : State) : (s.modMeter f).jrn = s.jrn := rfl
@[simp] theorem State.modMeter_free (f : Meter → Meter) (s : State) : (s.modMeter f).free = s.free := rfl
@[simp] theorem State.modMeter_pending (f : Meter → Meter) (s : State) : (s.modMeter f).pending = s.pending := rfl

/-! ## modPr -/

@[simp] theorem State.modPr_boot (f : Pair → Pair) (s : State) : (s.modPr f).boot = s.boot := rfl
@[simp] theorem State.modPr_power (f : Pair → Pair) (s : State) : (s.modPr f).power = s.power := rfl
@[simp] theorem State.modPr_ecc (f : Pair → Pair) (s : State) : (s.modPr f).ecc = s.ecc := rfl
@[simp] theorem State.modPr_time (f : Pair → Pair) (s : State) : (s.modPr f).time = s.time := rfl
@[simp] theorem State.modPr_rings (f : Pair → Pair) (s : State) : (s.modPr f).rings = s.rings := rfl
@[simp] theorem State.modPr_ev (f : Pair → Pair) (s : State) : (s.modPr f).ev = s.ev := rfl
@[simp] theorem State.modPr_msix (f : Pair → Pair) (s : State) : (s.modPr f).msix = s.msix := rfl
@[simp] theorem State.modPr_prot (f : Pair → Pair) (s : State) : (s.modPr f).prot = s.prot := rfl
@[simp] theorem State.modPr_launchQ (f : Pair → Pair) (s : State) : (s.modPr f).launchQ = s.launchQ := rfl
@[simp] theorem State.modPr_miles (f : Pair → Pair) (s : State) : (s.modPr f).miles = s.miles := rfl
@[simp] theorem State.modPr_cfg (f : Pair → Pair) (s : State) : (s.modPr f).cfg = s.cfg := rfl
@[simp] theorem State.modPr_chk (f : Pair → Pair) (s : State) : (s.modPr f).chk = s.chk := rfl
@[simp] theorem State.modPr_pts (f : Pair → Pair) (s : State) : (s.modPr f).pts = s.pts := rfl
@[simp] theorem State.modPr_cars (f : Pair → Pair) (s : State) : (s.modPr f).cars = s.cars := rfl
@[simp] theorem State.modPr_trunks (f : Pair → Pair) (s : State) : (s.modPr f).trunks = s.trunks := rfl
@[simp] theorem State.modPr_segs (f : Pair → Pair) (s : State) : (s.modPr f).segs = s.segs := rfl
@[simp] theorem State.modPr_enumRun (f : Pair → Pair) (s : State) : (s.modPr f).enumRun = s.enumRun := rfl
@[simp] theorem State.modPr_chans (f : Pair → Pair) (s : State) : (s.modPr f).chans = s.chans := rfl
@[simp] theorem State.modPr_caps (f : Pair → Pair) (s : State) : (s.modPr f).caps = s.caps := rfl
@[simp] theorem State.modPr_auth (f : Pair → Pair) (s : State) : (s.modPr f).auth = s.auth := rfl
@[simp] theorem State.modPr_disp (f : Pair → Pair) (s : State) : (s.modPr f).disp = s.disp := rfl
@[simp] theorem State.modPr_axes (f : Pair → Pair) (s : State) : (s.modPr f).axes = s.axes := rfl
@[simp] theorem State.modPr_doors (f : Pair → Pair) (s : State) : (s.modPr f).doors = s.doors := rfl
@[simp] theorem State.modPr_crole (f : Pair → Pair) (s : State) : (s.modPr f).crole = s.crole := rfl
@[simp] theorem State.modPr_safe (f : Pair → Pair) (s : State) : (s.modPr f).safe = s.safe := rfl
@[simp] theorem State.modPr_field (f : Pair → Pair) (s : State) : (s.modPr f).field = s.field := rfl
@[simp] theorem State.modPr_can (f : Pair → Pair) (s : State) : (s.modPr f).can = s.can := rfl
@[simp] theorem State.modPr_meter (f : Pair → Pair) (s : State) : (s.modPr f).meter = s.meter := rfl
@[simp] theorem State.modPr_pair (f : Pair → Pair) (s : State) : (s.modPr f).pair = f s.pair := rfl
@[simp] theorem State.modPr_vault (f : Pair → Pair) (s : State) : (s.modPr f).vault = s.vault := rfl
@[simp] theorem State.modPr_sec (f : Pair → Pair) (s : State) : (s.modPr f).sec = s.sec := rfl
@[simp] theorem State.modPr_led (f : Pair → Pair) (s : State) : (s.modPr f).led = s.led := rfl
@[simp] theorem State.modPr_jrn (f : Pair → Pair) (s : State) : (s.modPr f).jrn = s.jrn := rfl
@[simp] theorem State.modPr_free (f : Pair → Pair) (s : State) : (s.modPr f).free = s.free := rfl
@[simp] theorem State.modPr_pending (f : Pair → Pair) (s : State) : (s.modPr f).pending = s.pending := rfl

/-! ## modSec -/

@[simp] theorem State.modSec_boot (f : Sec → Sec) (s : State) : (s.modSec f).boot = s.boot := rfl
@[simp] theorem State.modSec_power (f : Sec → Sec) (s : State) : (s.modSec f).power = s.power := rfl
@[simp] theorem State.modSec_ecc (f : Sec → Sec) (s : State) : (s.modSec f).ecc = s.ecc := rfl
@[simp] theorem State.modSec_time (f : Sec → Sec) (s : State) : (s.modSec f).time = s.time := rfl
@[simp] theorem State.modSec_rings (f : Sec → Sec) (s : State) : (s.modSec f).rings = s.rings := rfl
@[simp] theorem State.modSec_ev (f : Sec → Sec) (s : State) : (s.modSec f).ev = s.ev := rfl
@[simp] theorem State.modSec_msix (f : Sec → Sec) (s : State) : (s.modSec f).msix = s.msix := rfl
@[simp] theorem State.modSec_prot (f : Sec → Sec) (s : State) : (s.modSec f).prot = s.prot := rfl
@[simp] theorem State.modSec_launchQ (f : Sec → Sec) (s : State) : (s.modSec f).launchQ = s.launchQ := rfl
@[simp] theorem State.modSec_miles (f : Sec → Sec) (s : State) : (s.modSec f).miles = s.miles := rfl
@[simp] theorem State.modSec_cfg (f : Sec → Sec) (s : State) : (s.modSec f).cfg = s.cfg := rfl
@[simp] theorem State.modSec_chk (f : Sec → Sec) (s : State) : (s.modSec f).chk = s.chk := rfl
@[simp] theorem State.modSec_pts (f : Sec → Sec) (s : State) : (s.modSec f).pts = s.pts := rfl
@[simp] theorem State.modSec_cars (f : Sec → Sec) (s : State) : (s.modSec f).cars = s.cars := rfl
@[simp] theorem State.modSec_trunks (f : Sec → Sec) (s : State) : (s.modSec f).trunks = s.trunks := rfl
@[simp] theorem State.modSec_segs (f : Sec → Sec) (s : State) : (s.modSec f).segs = s.segs := rfl
@[simp] theorem State.modSec_enumRun (f : Sec → Sec) (s : State) : (s.modSec f).enumRun = s.enumRun := rfl
@[simp] theorem State.modSec_chans (f : Sec → Sec) (s : State) : (s.modSec f).chans = s.chans := rfl
@[simp] theorem State.modSec_caps (f : Sec → Sec) (s : State) : (s.modSec f).caps = s.caps := rfl
@[simp] theorem State.modSec_auth (f : Sec → Sec) (s : State) : (s.modSec f).auth = s.auth := rfl
@[simp] theorem State.modSec_disp (f : Sec → Sec) (s : State) : (s.modSec f).disp = s.disp := rfl
@[simp] theorem State.modSec_axes (f : Sec → Sec) (s : State) : (s.modSec f).axes = s.axes := rfl
@[simp] theorem State.modSec_doors (f : Sec → Sec) (s : State) : (s.modSec f).doors = s.doors := rfl
@[simp] theorem State.modSec_crole (f : Sec → Sec) (s : State) : (s.modSec f).crole = s.crole := rfl
@[simp] theorem State.modSec_safe (f : Sec → Sec) (s : State) : (s.modSec f).safe = s.safe := rfl
@[simp] theorem State.modSec_field (f : Sec → Sec) (s : State) : (s.modSec f).field = s.field := rfl
@[simp] theorem State.modSec_can (f : Sec → Sec) (s : State) : (s.modSec f).can = s.can := rfl
@[simp] theorem State.modSec_meter (f : Sec → Sec) (s : State) : (s.modSec f).meter = s.meter := rfl
@[simp] theorem State.modSec_pair (f : Sec → Sec) (s : State) : (s.modSec f).pair = s.pair := rfl
@[simp] theorem State.modSec_vault (f : Sec → Sec) (s : State) : (s.modSec f).vault = s.vault := rfl
@[simp] theorem State.modSec_sec (f : Sec → Sec) (s : State) : (s.modSec f).sec = f s.sec := rfl
@[simp] theorem State.modSec_led (f : Sec → Sec) (s : State) : (s.modSec f).led = s.led := rfl
@[simp] theorem State.modSec_jrn (f : Sec → Sec) (s : State) : (s.modSec f).jrn = s.jrn := rfl
@[simp] theorem State.modSec_free (f : Sec → Sec) (s : State) : (s.modSec f).free = s.free := rfl
@[simp] theorem State.modSec_pending (f : Sec → Sec) (s : State) : (s.modSec f).pending = s.pending := rfl

/-! ## modVault -/

@[simp] theorem State.modVault_boot (f : Vault → Vault) (s : State) : (s.modVault f).boot = s.boot := rfl
@[simp] theorem State.modVault_power (f : Vault → Vault) (s : State) : (s.modVault f).power = s.power := rfl
@[simp] theorem State.modVault_ecc (f : Vault → Vault) (s : State) : (s.modVault f).ecc = s.ecc := rfl
@[simp] theorem State.modVault_time (f : Vault → Vault) (s : State) : (s.modVault f).time = s.time := rfl
@[simp] theorem State.modVault_rings (f : Vault → Vault) (s : State) : (s.modVault f).rings = s.rings := rfl
@[simp] theorem State.modVault_ev (f : Vault → Vault) (s : State) : (s.modVault f).ev = s.ev := rfl
@[simp] theorem State.modVault_msix (f : Vault → Vault) (s : State) : (s.modVault f).msix = s.msix := rfl
@[simp] theorem State.modVault_prot (f : Vault → Vault) (s : State) : (s.modVault f).prot = s.prot := rfl
@[simp] theorem State.modVault_launchQ (f : Vault → Vault) (s : State) : (s.modVault f).launchQ = s.launchQ := rfl
@[simp] theorem State.modVault_miles (f : Vault → Vault) (s : State) : (s.modVault f).miles = s.miles := rfl
@[simp] theorem State.modVault_cfg (f : Vault → Vault) (s : State) : (s.modVault f).cfg = s.cfg := rfl
@[simp] theorem State.modVault_chk (f : Vault → Vault) (s : State) : (s.modVault f).chk = s.chk := rfl
@[simp] theorem State.modVault_pts (f : Vault → Vault) (s : State) : (s.modVault f).pts = s.pts := rfl
@[simp] theorem State.modVault_cars (f : Vault → Vault) (s : State) : (s.modVault f).cars = s.cars := rfl
@[simp] theorem State.modVault_trunks (f : Vault → Vault) (s : State) : (s.modVault f).trunks = s.trunks := rfl
@[simp] theorem State.modVault_segs (f : Vault → Vault) (s : State) : (s.modVault f).segs = s.segs := rfl
@[simp] theorem State.modVault_enumRun (f : Vault → Vault) (s : State) : (s.modVault f).enumRun = s.enumRun := rfl
@[simp] theorem State.modVault_chans (f : Vault → Vault) (s : State) : (s.modVault f).chans = s.chans := rfl
@[simp] theorem State.modVault_caps (f : Vault → Vault) (s : State) : (s.modVault f).caps = s.caps := rfl
@[simp] theorem State.modVault_auth (f : Vault → Vault) (s : State) : (s.modVault f).auth = s.auth := rfl
@[simp] theorem State.modVault_disp (f : Vault → Vault) (s : State) : (s.modVault f).disp = s.disp := rfl
@[simp] theorem State.modVault_axes (f : Vault → Vault) (s : State) : (s.modVault f).axes = s.axes := rfl
@[simp] theorem State.modVault_doors (f : Vault → Vault) (s : State) : (s.modVault f).doors = s.doors := rfl
@[simp] theorem State.modVault_crole (f : Vault → Vault) (s : State) : (s.modVault f).crole = s.crole := rfl
@[simp] theorem State.modVault_safe (f : Vault → Vault) (s : State) : (s.modVault f).safe = s.safe := rfl
@[simp] theorem State.modVault_field (f : Vault → Vault) (s : State) : (s.modVault f).field = s.field := rfl
@[simp] theorem State.modVault_can (f : Vault → Vault) (s : State) : (s.modVault f).can = s.can := rfl
@[simp] theorem State.modVault_meter (f : Vault → Vault) (s : State) : (s.modVault f).meter = s.meter := rfl
@[simp] theorem State.modVault_pair (f : Vault → Vault) (s : State) : (s.modVault f).pair = s.pair := rfl
@[simp] theorem State.modVault_vault (f : Vault → Vault) (s : State) : (s.modVault f).vault = f s.vault := rfl
@[simp] theorem State.modVault_sec (f : Vault → Vault) (s : State) : (s.modVault f).sec = s.sec := rfl
@[simp] theorem State.modVault_led (f : Vault → Vault) (s : State) : (s.modVault f).led = s.led := rfl
@[simp] theorem State.modVault_jrn (f : Vault → Vault) (s : State) : (s.modVault f).jrn = s.jrn := rfl
@[simp] theorem State.modVault_free (f : Vault → Vault) (s : State) : (s.modVault f).free = s.free := rfl
@[simp] theorem State.modVault_pending (f : Vault → Vault) (s : State) : (s.modVault f).pending = s.pending := rfl

/-! ## modBoot -/

@[simp] theorem State.modBoot_boot (f : Boot → Boot) (s : State) : (s.modBoot f).boot = f s.boot := rfl
@[simp] theorem State.modBoot_power (f : Boot → Boot) (s : State) : (s.modBoot f).power = s.power := rfl
@[simp] theorem State.modBoot_ecc (f : Boot → Boot) (s : State) : (s.modBoot f).ecc = s.ecc := rfl
@[simp] theorem State.modBoot_time (f : Boot → Boot) (s : State) : (s.modBoot f).time = s.time := rfl
@[simp] theorem State.modBoot_rings (f : Boot → Boot) (s : State) : (s.modBoot f).rings = s.rings := rfl
@[simp] theorem State.modBoot_ev (f : Boot → Boot) (s : State) : (s.modBoot f).ev = s.ev := rfl
@[simp] theorem State.modBoot_msix (f : Boot → Boot) (s : State) : (s.modBoot f).msix = s.msix := rfl
@[simp] theorem State.modBoot_prot (f : Boot → Boot) (s : State) : (s.modBoot f).prot = s.prot := rfl
@[simp] theorem State.modBoot_launchQ (f : Boot → Boot) (s : State) : (s.modBoot f).launchQ = s.launchQ := rfl
@[simp] theorem State.modBoot_miles (f : Boot → Boot) (s : State) : (s.modBoot f).miles = s.miles := rfl
@[simp] theorem State.modBoot_cfg (f : Boot → Boot) (s : State) : (s.modBoot f).cfg = s.cfg := rfl
@[simp] theorem State.modBoot_chk (f : Boot → Boot) (s : State) : (s.modBoot f).chk = s.chk := rfl
@[simp] theorem State.modBoot_pts (f : Boot → Boot) (s : State) : (s.modBoot f).pts = s.pts := rfl
@[simp] theorem State.modBoot_cars (f : Boot → Boot) (s : State) : (s.modBoot f).cars = s.cars := rfl
@[simp] theorem State.modBoot_trunks (f : Boot → Boot) (s : State) : (s.modBoot f).trunks = s.trunks := rfl
@[simp] theorem State.modBoot_segs (f : Boot → Boot) (s : State) : (s.modBoot f).segs = s.segs := rfl
@[simp] theorem State.modBoot_enumRun (f : Boot → Boot) (s : State) : (s.modBoot f).enumRun = s.enumRun := rfl
@[simp] theorem State.modBoot_chans (f : Boot → Boot) (s : State) : (s.modBoot f).chans = s.chans := rfl
@[simp] theorem State.modBoot_caps (f : Boot → Boot) (s : State) : (s.modBoot f).caps = s.caps := rfl
@[simp] theorem State.modBoot_auth (f : Boot → Boot) (s : State) : (s.modBoot f).auth = s.auth := rfl
@[simp] theorem State.modBoot_disp (f : Boot → Boot) (s : State) : (s.modBoot f).disp = s.disp := rfl
@[simp] theorem State.modBoot_axes (f : Boot → Boot) (s : State) : (s.modBoot f).axes = s.axes := rfl
@[simp] theorem State.modBoot_doors (f : Boot → Boot) (s : State) : (s.modBoot f).doors = s.doors := rfl
@[simp] theorem State.modBoot_crole (f : Boot → Boot) (s : State) : (s.modBoot f).crole = s.crole := rfl
@[simp] theorem State.modBoot_safe (f : Boot → Boot) (s : State) : (s.modBoot f).safe = s.safe := rfl
@[simp] theorem State.modBoot_field (f : Boot → Boot) (s : State) : (s.modBoot f).field = s.field := rfl
@[simp] theorem State.modBoot_can (f : Boot → Boot) (s : State) : (s.modBoot f).can = s.can := rfl
@[simp] theorem State.modBoot_meter (f : Boot → Boot) (s : State) : (s.modBoot f).meter = s.meter := rfl
@[simp] theorem State.modBoot_pair (f : Boot → Boot) (s : State) : (s.modBoot f).pair = s.pair := rfl
@[simp] theorem State.modBoot_vault (f : Boot → Boot) (s : State) : (s.modBoot f).vault = s.vault := rfl
@[simp] theorem State.modBoot_sec (f : Boot → Boot) (s : State) : (s.modBoot f).sec = s.sec := rfl
@[simp] theorem State.modBoot_led (f : Boot → Boot) (s : State) : (s.modBoot f).led = s.led := rfl
@[simp] theorem State.modBoot_jrn (f : Boot → Boot) (s : State) : (s.modBoot f).jrn = s.jrn := rfl
@[simp] theorem State.modBoot_free (f : Boot → Boot) (s : State) : (s.modBoot f).free = s.free := rfl
@[simp] theorem State.modBoot_pending (f : Boot → Boot) (s : State) : (s.modBoot f).pending = s.pending := rfl

/-! ## modPower -/

@[simp] theorem State.modPower_boot (f : Power → Power) (s : State) : (s.modPower f).boot = s.boot := rfl
@[simp] theorem State.modPower_power (f : Power → Power) (s : State) : (s.modPower f).power = f s.power := rfl
@[simp] theorem State.modPower_ecc (f : Power → Power) (s : State) : (s.modPower f).ecc = s.ecc := rfl
@[simp] theorem State.modPower_time (f : Power → Power) (s : State) : (s.modPower f).time = s.time := rfl
@[simp] theorem State.modPower_rings (f : Power → Power) (s : State) : (s.modPower f).rings = s.rings := rfl
@[simp] theorem State.modPower_ev (f : Power → Power) (s : State) : (s.modPower f).ev = s.ev := rfl
@[simp] theorem State.modPower_msix (f : Power → Power) (s : State) : (s.modPower f).msix = s.msix := rfl
@[simp] theorem State.modPower_prot (f : Power → Power) (s : State) : (s.modPower f).prot = s.prot := rfl
@[simp] theorem State.modPower_launchQ (f : Power → Power) (s : State) : (s.modPower f).launchQ = s.launchQ := rfl
@[simp] theorem State.modPower_miles (f : Power → Power) (s : State) : (s.modPower f).miles = s.miles := rfl
@[simp] theorem State.modPower_cfg (f : Power → Power) (s : State) : (s.modPower f).cfg = s.cfg := rfl
@[simp] theorem State.modPower_chk (f : Power → Power) (s : State) : (s.modPower f).chk = s.chk := rfl
@[simp] theorem State.modPower_pts (f : Power → Power) (s : State) : (s.modPower f).pts = s.pts := rfl
@[simp] theorem State.modPower_cars (f : Power → Power) (s : State) : (s.modPower f).cars = s.cars := rfl
@[simp] theorem State.modPower_trunks (f : Power → Power) (s : State) : (s.modPower f).trunks = s.trunks := rfl
@[simp] theorem State.modPower_segs (f : Power → Power) (s : State) : (s.modPower f).segs = s.segs := rfl
@[simp] theorem State.modPower_enumRun (f : Power → Power) (s : State) : (s.modPower f).enumRun = s.enumRun := rfl
@[simp] theorem State.modPower_chans (f : Power → Power) (s : State) : (s.modPower f).chans = s.chans := rfl
@[simp] theorem State.modPower_caps (f : Power → Power) (s : State) : (s.modPower f).caps = s.caps := rfl
@[simp] theorem State.modPower_auth (f : Power → Power) (s : State) : (s.modPower f).auth = s.auth := rfl
@[simp] theorem State.modPower_disp (f : Power → Power) (s : State) : (s.modPower f).disp = s.disp := rfl
@[simp] theorem State.modPower_axes (f : Power → Power) (s : State) : (s.modPower f).axes = s.axes := rfl
@[simp] theorem State.modPower_doors (f : Power → Power) (s : State) : (s.modPower f).doors = s.doors := rfl
@[simp] theorem State.modPower_crole (f : Power → Power) (s : State) : (s.modPower f).crole = s.crole := rfl
@[simp] theorem State.modPower_safe (f : Power → Power) (s : State) : (s.modPower f).safe = s.safe := rfl
@[simp] theorem State.modPower_field (f : Power → Power) (s : State) : (s.modPower f).field = s.field := rfl
@[simp] theorem State.modPower_can (f : Power → Power) (s : State) : (s.modPower f).can = s.can := rfl
@[simp] theorem State.modPower_meter (f : Power → Power) (s : State) : (s.modPower f).meter = s.meter := rfl
@[simp] theorem State.modPower_pair (f : Power → Power) (s : State) : (s.modPower f).pair = s.pair := rfl
@[simp] theorem State.modPower_vault (f : Power → Power) (s : State) : (s.modPower f).vault = s.vault := rfl
@[simp] theorem State.modPower_sec (f : Power → Power) (s : State) : (s.modPower f).sec = s.sec := rfl
@[simp] theorem State.modPower_led (f : Power → Power) (s : State) : (s.modPower f).led = s.led := rfl
@[simp] theorem State.modPower_jrn (f : Power → Power) (s : State) : (s.modPower f).jrn = s.jrn := rfl
@[simp] theorem State.modPower_free (f : Power → Power) (s : State) : (s.modPower f).free = s.free := rfl
@[simp] theorem State.modPower_pending (f : Power → Power) (s : State) : (s.modPower f).pending = s.pending := rfl

/-! ## addTag -/

@[simp] theorem State.addTag_boot (tr : TagRec) (s : State) : (s.addTag tr).boot = s.boot := rfl
@[simp] theorem State.addTag_power (tr : TagRec) (s : State) : (s.addTag tr).power = { s.power with idleSince := none } := rfl
@[simp] theorem State.addTag_ecc (tr : TagRec) (s : State) : (s.addTag tr).ecc = s.ecc := rfl
@[simp] theorem State.addTag_time (tr : TagRec) (s : State) : (s.addTag tr).time = s.time := rfl
@[simp] theorem State.addTag_rings (tr : TagRec) (s : State) : (s.addTag tr).rings = s.rings.modify tr.pair fun r => { r with tags := r.tags ++ [tr] } := rfl
@[simp] theorem State.addTag_ev (tr : TagRec) (s : State) : (s.addTag tr).ev = s.ev := rfl
@[simp] theorem State.addTag_msix (tr : TagRec) (s : State) : (s.addTag tr).msix = s.msix := rfl
@[simp] theorem State.addTag_prot (tr : TagRec) (s : State) : (s.addTag tr).prot = s.prot := rfl
@[simp] theorem State.addTag_launchQ (tr : TagRec) (s : State) : (s.addTag tr).launchQ = s.launchQ := rfl
@[simp] theorem State.addTag_miles (tr : TagRec) (s : State) : (s.addTag tr).miles = s.miles := rfl
@[simp] theorem State.addTag_cfg (tr : TagRec) (s : State) : (s.addTag tr).cfg = s.cfg := rfl
@[simp] theorem State.addTag_chk (tr : TagRec) (s : State) : (s.addTag tr).chk = s.chk := rfl
@[simp] theorem State.addTag_pts (tr : TagRec) (s : State) : (s.addTag tr).pts = s.pts := rfl
@[simp] theorem State.addTag_cars (tr : TagRec) (s : State) : (s.addTag tr).cars = s.cars := rfl
@[simp] theorem State.addTag_trunks (tr : TagRec) (s : State) : (s.addTag tr).trunks = s.trunks := rfl
@[simp] theorem State.addTag_segs (tr : TagRec) (s : State) : (s.addTag tr).segs = s.segs := rfl
@[simp] theorem State.addTag_enumRun (tr : TagRec) (s : State) : (s.addTag tr).enumRun = s.enumRun := rfl
@[simp] theorem State.addTag_chans (tr : TagRec) (s : State) : (s.addTag tr).chans = s.chans := rfl
@[simp] theorem State.addTag_caps (tr : TagRec) (s : State) : (s.addTag tr).caps = s.caps := rfl
@[simp] theorem State.addTag_auth (tr : TagRec) (s : State) : (s.addTag tr).auth = s.auth := rfl
@[simp] theorem State.addTag_disp (tr : TagRec) (s : State) : (s.addTag tr).disp = s.disp := rfl
@[simp] theorem State.addTag_axes (tr : TagRec) (s : State) : (s.addTag tr).axes = s.axes := rfl
@[simp] theorem State.addTag_doors (tr : TagRec) (s : State) : (s.addTag tr).doors = s.doors := rfl
@[simp] theorem State.addTag_crole (tr : TagRec) (s : State) : (s.addTag tr).crole = s.crole := rfl
@[simp] theorem State.addTag_safe (tr : TagRec) (s : State) : (s.addTag tr).safe = s.safe := rfl
@[simp] theorem State.addTag_field (tr : TagRec) (s : State) : (s.addTag tr).field = s.field := rfl
@[simp] theorem State.addTag_can (tr : TagRec) (s : State) : (s.addTag tr).can = s.can := rfl
@[simp] theorem State.addTag_meter (tr : TagRec) (s : State) : (s.addTag tr).meter = s.meter := rfl
@[simp] theorem State.addTag_pair (tr : TagRec) (s : State) : (s.addTag tr).pair = s.pair := rfl
@[simp] theorem State.addTag_vault (tr : TagRec) (s : State) : (s.addTag tr).vault = s.vault := rfl
@[simp] theorem State.addTag_sec (tr : TagRec) (s : State) : (s.addTag tr).sec = s.sec := rfl
@[simp] theorem State.addTag_led (tr : TagRec) (s : State) : (s.addTag tr).led = s.led := rfl
@[simp] theorem State.addTag_jrn (tr : TagRec) (s : State) : (s.addTag tr).jrn = s.jrn := rfl
@[simp] theorem State.addTag_free (tr : TagRec) (s : State) : (s.addTag tr).free = s.free := rfl
@[simp] theorem State.addTag_pending (tr : TagRec) (s : State) : (s.addTag tr).pending = s.pending := rfl

/-! ## queue -/

@[simp] theorem State.queue_boot (tr : TagRec) (x : Rec) (s : State) : (s.queue tr x).boot = s.boot := rfl
@[simp] theorem State.queue_power (tr : TagRec) (x : Rec) (s : State) : (s.queue tr x).power = s.power := rfl
@[simp] theorem State.queue_ecc (tr : TagRec) (x : Rec) (s : State) : (s.queue tr x).ecc = s.ecc := rfl
@[simp] theorem State.queue_time (tr : TagRec) (x : Rec) (s : State) : (s.queue tr x).time = s.time := rfl
@[simp] theorem State.queue_rings (tr : TagRec) (x : Rec) (s : State) : (s.queue tr x).rings = s.rings.modify tr.pair fun r => { r.note tr.seq x with held := r.held ++ [x] } := rfl
@[simp] theorem State.queue_ev (tr : TagRec) (x : Rec) (s : State) : (s.queue tr x).ev = s.ev := rfl
@[simp] theorem State.queue_msix (tr : TagRec) (x : Rec) (s : State) : (s.queue tr x).msix = s.msix := rfl
@[simp] theorem State.queue_prot (tr : TagRec) (x : Rec) (s : State) : (s.queue tr x).prot = s.prot := rfl
@[simp] theorem State.queue_launchQ (tr : TagRec) (x : Rec) (s : State) : (s.queue tr x).launchQ = s.launchQ := rfl
@[simp] theorem State.queue_miles (tr : TagRec) (x : Rec) (s : State) : (s.queue tr x).miles = s.miles := rfl
@[simp] theorem State.queue_cfg (tr : TagRec) (x : Rec) (s : State) : (s.queue tr x).cfg = s.cfg := rfl
@[simp] theorem State.queue_chk (tr : TagRec) (x : Rec) (s : State) : (s.queue tr x).chk = s.chk := rfl
@[simp] theorem State.queue_pts (tr : TagRec) (x : Rec) (s : State) : (s.queue tr x).pts = s.pts := rfl
@[simp] theorem State.queue_cars (tr : TagRec) (x : Rec) (s : State) : (s.queue tr x).cars = s.cars := rfl
@[simp] theorem State.queue_trunks (tr : TagRec) (x : Rec) (s : State) : (s.queue tr x).trunks = s.trunks := rfl
@[simp] theorem State.queue_segs (tr : TagRec) (x : Rec) (s : State) : (s.queue tr x).segs = s.segs := rfl
@[simp] theorem State.queue_enumRun (tr : TagRec) (x : Rec) (s : State) : (s.queue tr x).enumRun = s.enumRun := rfl
@[simp] theorem State.queue_chans (tr : TagRec) (x : Rec) (s : State) : (s.queue tr x).chans = s.chans := rfl
@[simp] theorem State.queue_caps (tr : TagRec) (x : Rec) (s : State) : (s.queue tr x).caps = s.caps := rfl
@[simp] theorem State.queue_auth (tr : TagRec) (x : Rec) (s : State) : (s.queue tr x).auth = s.auth := rfl
@[simp] theorem State.queue_disp (tr : TagRec) (x : Rec) (s : State) : (s.queue tr x).disp = s.disp := rfl
@[simp] theorem State.queue_axes (tr : TagRec) (x : Rec) (s : State) : (s.queue tr x).axes = s.axes := rfl
@[simp] theorem State.queue_doors (tr : TagRec) (x : Rec) (s : State) : (s.queue tr x).doors = s.doors := rfl
@[simp] theorem State.queue_crole (tr : TagRec) (x : Rec) (s : State) : (s.queue tr x).crole = s.crole := rfl
@[simp] theorem State.queue_safe (tr : TagRec) (x : Rec) (s : State) : (s.queue tr x).safe = s.safe := rfl
@[simp] theorem State.queue_field (tr : TagRec) (x : Rec) (s : State) : (s.queue tr x).field = s.field := rfl
@[simp] theorem State.queue_can (tr : TagRec) (x : Rec) (s : State) : (s.queue tr x).can = s.can := rfl
@[simp] theorem State.queue_meter (tr : TagRec) (x : Rec) (s : State) : (s.queue tr x).meter = s.meter := rfl
@[simp] theorem State.queue_pair (tr : TagRec) (x : Rec) (s : State) : (s.queue tr x).pair = s.pair := rfl
@[simp] theorem State.queue_vault (tr : TagRec) (x : Rec) (s : State) : (s.queue tr x).vault = s.vault := rfl
@[simp] theorem State.queue_sec (tr : TagRec) (x : Rec) (s : State) : (s.queue tr x).sec = s.sec := rfl
@[simp] theorem State.queue_led (tr : TagRec) (x : Rec) (s : State) : (s.queue tr x).led = s.led := rfl
@[simp] theorem State.queue_jrn (tr : TagRec) (x : Rec) (s : State) : (s.queue tr x).jrn = s.jrn := rfl
@[simp] theorem State.queue_free (tr : TagRec) (x : Rec) (s : State) : (s.queue tr x).free = s.free := rfl
@[simp] theorem State.queue_pending (tr : TagRec) (x : Rec) (s : State) : (s.queue tr x).pending = s.pending := rfl

/-! ## fire -/

@[simp] theorem State.fire_boot (src tgt reason : Nat) (items : List Byte) (s : State) : (s.fire src tgt reason items).boot = s.boot := rfl
@[simp] theorem State.fire_power (src tgt reason : Nat) (items : List Byte) (s : State) : (s.fire src tgt reason items).power = s.power := rfl
@[simp] theorem State.fire_ecc (src tgt reason : Nat) (items : List Byte) (s : State) : (s.fire src tgt reason items).ecc = s.ecc := rfl
@[simp] theorem State.fire_time (src tgt reason : Nat) (items : List Byte) (s : State) : (s.fire src tgt reason items).time = s.time := rfl
@[simp] theorem State.fire_msix (src tgt reason : Nat) (items : List Byte) (s : State) : (s.fire src tgt reason items).msix = s.msix := rfl
@[simp] theorem State.fire_prot (src tgt reason : Nat) (items : List Byte) (s : State) : (s.fire src tgt reason items).prot = s.prot := rfl
@[simp] theorem State.fire_launchQ (src tgt reason : Nat) (items : List Byte) (s : State) : (s.fire src tgt reason items).launchQ = s.launchQ := rfl
@[simp] theorem State.fire_miles (src tgt reason : Nat) (items : List Byte) (s : State) : (s.fire src tgt reason items).miles = s.miles := rfl
@[simp] theorem State.fire_cfg (src tgt reason : Nat) (items : List Byte) (s : State) : (s.fire src tgt reason items).cfg = s.cfg := rfl
@[simp] theorem State.fire_chk (src tgt reason : Nat) (items : List Byte) (s : State) : (s.fire src tgt reason items).chk = s.chk := rfl
@[simp] theorem State.fire_pts (src tgt reason : Nat) (items : List Byte) (s : State) : (s.fire src tgt reason items).pts = s.pts := rfl
@[simp] theorem State.fire_cars (src tgt reason : Nat) (items : List Byte) (s : State) : (s.fire src tgt reason items).cars = s.cars := rfl
@[simp] theorem State.fire_trunks (src tgt reason : Nat) (items : List Byte) (s : State) : (s.fire src tgt reason items).trunks = s.trunks := rfl
@[simp] theorem State.fire_segs (src tgt reason : Nat) (items : List Byte) (s : State) : (s.fire src tgt reason items).segs = s.segs := rfl
@[simp] theorem State.fire_enumRun (src tgt reason : Nat) (items : List Byte) (s : State) : (s.fire src tgt reason items).enumRun = s.enumRun := rfl
@[simp] theorem State.fire_chans (src tgt reason : Nat) (items : List Byte) (s : State) : (s.fire src tgt reason items).chans = s.chans := rfl
@[simp] theorem State.fire_caps (src tgt reason : Nat) (items : List Byte) (s : State) : (s.fire src tgt reason items).caps = s.caps := rfl
@[simp] theorem State.fire_auth (src tgt reason : Nat) (items : List Byte) (s : State) : (s.fire src tgt reason items).auth = s.auth := rfl
@[simp] theorem State.fire_disp (src tgt reason : Nat) (items : List Byte) (s : State) : (s.fire src tgt reason items).disp = s.disp := rfl
@[simp] theorem State.fire_axes (src tgt reason : Nat) (items : List Byte) (s : State) : (s.fire src tgt reason items).axes = s.axes := rfl
@[simp] theorem State.fire_doors (src tgt reason : Nat) (items : List Byte) (s : State) : (s.fire src tgt reason items).doors = s.doors := rfl
@[simp] theorem State.fire_crole (src tgt reason : Nat) (items : List Byte) (s : State) : (s.fire src tgt reason items).crole = s.crole := rfl
@[simp] theorem State.fire_safe (src tgt reason : Nat) (items : List Byte) (s : State) : (s.fire src tgt reason items).safe = s.safe := rfl
@[simp] theorem State.fire_field (src tgt reason : Nat) (items : List Byte) (s : State) : (s.fire src tgt reason items).field = s.field := rfl
@[simp] theorem State.fire_can (src tgt reason : Nat) (items : List Byte) (s : State) : (s.fire src tgt reason items).can = s.can := rfl
@[simp] theorem State.fire_meter (src tgt reason : Nat) (items : List Byte) (s : State) : (s.fire src tgt reason items).meter = s.meter := rfl
@[simp] theorem State.fire_pair (src tgt reason : Nat) (items : List Byte) (s : State) : (s.fire src tgt reason items).pair = s.pair := rfl
@[simp] theorem State.fire_vault (src tgt reason : Nat) (items : List Byte) (s : State) : (s.fire src tgt reason items).vault = s.vault := rfl
@[simp] theorem State.fire_sec (src tgt reason : Nat) (items : List Byte) (s : State) : (s.fire src tgt reason items).sec = s.sec := rfl
@[simp] theorem State.fire_jrn (src tgt reason : Nat) (items : List Byte) (s : State) : (s.fire src tgt reason items).jrn = s.jrn := rfl
@[simp] theorem State.fire_free (src tgt reason : Nat) (items : List Byte) (s : State) : (s.fire src tgt reason items).free = s.free := rfl
@[simp] theorem State.fire_pending (src tgt reason : Nat) (items : List Byte) (s : State) : (s.fire src tgt reason items).pending = s.pending := rfl

/-! ## ledger -/

@[simp] theorem State.ledger_boot (type code reason node : Nat) (data : List Byte) (s : State) : (s.ledger type code reason node data).boot = s.boot := rfl
@[simp] theorem State.ledger_power (type code reason node : Nat) (data : List Byte) (s : State) : (s.ledger type code reason node data).power = s.power := rfl
@[simp] theorem State.ledger_ecc (type code reason node : Nat) (data : List Byte) (s : State) : (s.ledger type code reason node data).ecc = s.ecc := rfl
@[simp] theorem State.ledger_time (type code reason node : Nat) (data : List Byte) (s : State) : (s.ledger type code reason node data).time = s.time := rfl
@[simp] theorem State.ledger_rings (type code reason node : Nat) (data : List Byte) (s : State) : (s.ledger type code reason node data).rings = s.rings := rfl
@[simp] theorem State.ledger_ev (type code reason node : Nat) (data : List Byte) (s : State) : (s.ledger type code reason node data).ev = s.ev := rfl
@[simp] theorem State.ledger_msix (type code reason node : Nat) (data : List Byte) (s : State) : (s.ledger type code reason node data).msix = s.msix := rfl
@[simp] theorem State.ledger_prot (type code reason node : Nat) (data : List Byte) (s : State) : (s.ledger type code reason node data).prot = s.prot := rfl
@[simp] theorem State.ledger_launchQ (type code reason node : Nat) (data : List Byte) (s : State) : (s.ledger type code reason node data).launchQ = s.launchQ := rfl
@[simp] theorem State.ledger_miles (type code reason node : Nat) (data : List Byte) (s : State) : (s.ledger type code reason node data).miles = s.miles := rfl
@[simp] theorem State.ledger_cfg (type code reason node : Nat) (data : List Byte) (s : State) : (s.ledger type code reason node data).cfg = s.cfg := rfl
@[simp] theorem State.ledger_chk (type code reason node : Nat) (data : List Byte) (s : State) : (s.ledger type code reason node data).chk = s.chk := rfl
@[simp] theorem State.ledger_pts (type code reason node : Nat) (data : List Byte) (s : State) : (s.ledger type code reason node data).pts = s.pts := rfl
@[simp] theorem State.ledger_cars (type code reason node : Nat) (data : List Byte) (s : State) : (s.ledger type code reason node data).cars = s.cars := rfl
@[simp] theorem State.ledger_trunks (type code reason node : Nat) (data : List Byte) (s : State) : (s.ledger type code reason node data).trunks = s.trunks := rfl
@[simp] theorem State.ledger_segs (type code reason node : Nat) (data : List Byte) (s : State) : (s.ledger type code reason node data).segs = s.segs := rfl
@[simp] theorem State.ledger_enumRun (type code reason node : Nat) (data : List Byte) (s : State) : (s.ledger type code reason node data).enumRun = s.enumRun := rfl
@[simp] theorem State.ledger_chans (type code reason node : Nat) (data : List Byte) (s : State) : (s.ledger type code reason node data).chans = s.chans := rfl
@[simp] theorem State.ledger_caps (type code reason node : Nat) (data : List Byte) (s : State) : (s.ledger type code reason node data).caps = s.caps := rfl
@[simp] theorem State.ledger_auth (type code reason node : Nat) (data : List Byte) (s : State) : (s.ledger type code reason node data).auth = s.auth := rfl
@[simp] theorem State.ledger_disp (type code reason node : Nat) (data : List Byte) (s : State) : (s.ledger type code reason node data).disp = s.disp := rfl
@[simp] theorem State.ledger_axes (type code reason node : Nat) (data : List Byte) (s : State) : (s.ledger type code reason node data).axes = s.axes := rfl
@[simp] theorem State.ledger_doors (type code reason node : Nat) (data : List Byte) (s : State) : (s.ledger type code reason node data).doors = s.doors := rfl
@[simp] theorem State.ledger_crole (type code reason node : Nat) (data : List Byte) (s : State) : (s.ledger type code reason node data).crole = s.crole := rfl
@[simp] theorem State.ledger_safe (type code reason node : Nat) (data : List Byte) (s : State) : (s.ledger type code reason node data).safe = s.safe := rfl
@[simp] theorem State.ledger_field (type code reason node : Nat) (data : List Byte) (s : State) : (s.ledger type code reason node data).field = s.field := rfl
@[simp] theorem State.ledger_can (type code reason node : Nat) (data : List Byte) (s : State) : (s.ledger type code reason node data).can = s.can := rfl
@[simp] theorem State.ledger_meter (type code reason node : Nat) (data : List Byte) (s : State) : (s.ledger type code reason node data).meter = s.meter := rfl
@[simp] theorem State.ledger_pair (type code reason node : Nat) (data : List Byte) (s : State) : (s.ledger type code reason node data).pair = s.pair := rfl
@[simp] theorem State.ledger_vault (type code reason node : Nat) (data : List Byte) (s : State) : (s.ledger type code reason node data).vault = s.vault := rfl
@[simp] theorem State.ledger_sec (type code reason node : Nat) (data : List Byte) (s : State) : (s.ledger type code reason node data).sec = s.sec := rfl
@[simp] theorem State.ledger_led (type code reason node : Nat) (data : List Byte) (s : State) : (s.ledger type code reason node data).led = s.led.stage ⟨s.time.now, type, code, reason, node, data⟩ := rfl
@[simp] theorem State.ledger_jrn (type code reason node : Nat) (data : List Byte) (s : State) : (s.ledger type code reason node data).jrn = s.jrn := rfl
@[simp] theorem State.ledger_free (type code reason node : Nat) (data : List Byte) (s : State) : (s.ledger type code reason node data).free = s.free := rfl
@[simp] theorem State.ledger_pending (type code reason node : Nat) (data : List Byte) (s : State) : (s.ledger type code reason node data).pending = s.pending := rfl

/-! ## unflag -/

@[simp] theorem State.unflag_boot (src : Nat) (s : State) : (s.unflag src).boot = s.boot := rfl
@[simp] theorem State.unflag_power (src : Nat) (s : State) : (s.unflag src).power = s.power := rfl
@[simp] theorem State.unflag_ecc (src : Nat) (s : State) : (s.unflag src).ecc = s.ecc := rfl
@[simp] theorem State.unflag_time (src : Nat) (s : State) : (s.unflag src).time = s.time := rfl
@[simp] theorem State.unflag_rings (src : Nat) (s : State) : (s.unflag src).rings = s.rings := rfl
@[simp] theorem State.unflag_ev (src : Nat) (s : State) : (s.unflag src).ev = { s.ev with src := s.ev.src.modify src fun e => { e with flag := false } } := rfl
@[simp] theorem State.unflag_msix (src : Nat) (s : State) : (s.unflag src).msix = s.msix := rfl
@[simp] theorem State.unflag_prot (src : Nat) (s : State) : (s.unflag src).prot = s.prot := rfl
@[simp] theorem State.unflag_launchQ (src : Nat) (s : State) : (s.unflag src).launchQ = s.launchQ := rfl
@[simp] theorem State.unflag_miles (src : Nat) (s : State) : (s.unflag src).miles = s.miles := rfl
@[simp] theorem State.unflag_cfg (src : Nat) (s : State) : (s.unflag src).cfg = s.cfg := rfl
@[simp] theorem State.unflag_chk (src : Nat) (s : State) : (s.unflag src).chk = s.chk := rfl
@[simp] theorem State.unflag_pts (src : Nat) (s : State) : (s.unflag src).pts = s.pts := rfl
@[simp] theorem State.unflag_cars (src : Nat) (s : State) : (s.unflag src).cars = s.cars := rfl
@[simp] theorem State.unflag_trunks (src : Nat) (s : State) : (s.unflag src).trunks = s.trunks := rfl
@[simp] theorem State.unflag_segs (src : Nat) (s : State) : (s.unflag src).segs = s.segs := rfl
@[simp] theorem State.unflag_enumRun (src : Nat) (s : State) : (s.unflag src).enumRun = s.enumRun := rfl
@[simp] theorem State.unflag_chans (src : Nat) (s : State) : (s.unflag src).chans = s.chans := rfl
@[simp] theorem State.unflag_caps (src : Nat) (s : State) : (s.unflag src).caps = s.caps := rfl
@[simp] theorem State.unflag_auth (src : Nat) (s : State) : (s.unflag src).auth = s.auth := rfl
@[simp] theorem State.unflag_disp (src : Nat) (s : State) : (s.unflag src).disp = s.disp := rfl
@[simp] theorem State.unflag_axes (src : Nat) (s : State) : (s.unflag src).axes = s.axes := rfl
@[simp] theorem State.unflag_doors (src : Nat) (s : State) : (s.unflag src).doors = s.doors := rfl
@[simp] theorem State.unflag_crole (src : Nat) (s : State) : (s.unflag src).crole = s.crole := rfl
@[simp] theorem State.unflag_safe (src : Nat) (s : State) : (s.unflag src).safe = s.safe := rfl
@[simp] theorem State.unflag_field (src : Nat) (s : State) : (s.unflag src).field = s.field := rfl
@[simp] theorem State.unflag_can (src : Nat) (s : State) : (s.unflag src).can = s.can := rfl
@[simp] theorem State.unflag_meter (src : Nat) (s : State) : (s.unflag src).meter = s.meter := rfl
@[simp] theorem State.unflag_pair (src : Nat) (s : State) : (s.unflag src).pair = s.pair := rfl
@[simp] theorem State.unflag_vault (src : Nat) (s : State) : (s.unflag src).vault = s.vault := rfl
@[simp] theorem State.unflag_sec (src : Nat) (s : State) : (s.unflag src).sec = s.sec := rfl
@[simp] theorem State.unflag_led (src : Nat) (s : State) : (s.unflag src).led = s.led := rfl
@[simp] theorem State.unflag_jrn (src : Nat) (s : State) : (s.unflag src).jrn = s.jrn := rfl
@[simp] theorem State.unflag_free (src : Nat) (s : State) : (s.unflag src).free = s.free := rfl
@[simp] theorem State.unflag_pending (src : Nat) (s : State) : (s.unflag src).pending = s.pending := rfl

end Sys2Proof.Machine
end

