-- ==== Sys2Proof/Laws/Flush.lean ====
section
/-! SUPPORT. What placing records, telling events and replying leave alone: everything that `Safety.device` holds; and that
a pair's list of latest replies survives the placing of records. -/

namespace Sys2Proof.Machine

open Sys2Proof.Safety

/-! ## Lists of rings -/

theorem map_modify_same {α β : Type} (g : α → β) (f : α → α) (h : ∀ x, g (f x) = g x) (l : List α) (n : Nat) :
    (l.modify n f).map g = l.map g := by
  apply List.ext_getElem?
  intro i
  simp only [List.getElem?_map, List.getElem?_modify]
  cases l[i]? with
  | none => rfl
  | some x => by_cases hi : n = i <;> simp [hi, h]

theorem map_set_same {α β : Type} (g : α → β) (l : List α) (n : Nat) (x d : α) (h : g x = g (l.getD n d)) :
    (l.set n x).map g = l.map g := by
  apply List.ext_getElem?
  intro i
  simp only [List.getElem?_map, List.getElem?_set]
  by_cases hi : n = i
  · subst hi
    by_cases hl : n < l.length
    · simp [hl, h, List.getD]
    · simp [hl]
  · simp [hi]

/-! ## The settings of a ring -/

@[simp] theorem ringSettings_note (q : Nat) (x : Rec) (r : Ring) : ringSettings (r.note q x) = ringSettings r := rfl
@[simp] theorem ringSettings_fold (src : Nat) (r : Ring) : ringSettings (r.fold src) = ringSettings r := rfl
@[simp] theorem ringSettings_takeSeq (q : Nat) (r : Ring) : ringSettings (r.takeSeq q) = ringSettings r := rfl
@[simp] theorem ringSettings_rekeyed (r : Ring) : ringSettings r.rekeyed = ringSettings r := rfl
@[simp] theorem ringSettings_held (r : Ring) (x : List Rec) : ringSettings { r with held := x } = ringSettings r := rfl

@[simp] theorem ringSettings_place (r : Ring) (x : Rec) : ringSettings (r.place x) = ringSettings r := by
  unfold Ring.place; dsimp only; split <;> rfl

theorem ringSettings_pumpList : ∀ (l : List Rec) (r : Ring), ringSettings (r.pumpList l).1 = ringSettings r
  | [], _ => rfl
  | x :: xs, r => by
    unfold Ring.pumpList
    split
    · rw [ringSettings_pumpList xs]; rfl
    · split
      · simp
      · split
        · simp only; rw [ringSettings_pumpList xs, ringSettings_place]
        · rfl

theorem ringSettings_pumpAll : ∀ (n : Nat) (r : Ring), ringSettings (r.pumpAll n).1 = ringSettings r
  | 0, _ => rfl
  | n + 1, r => by
    have h := ringSettings_pumpList r.held { r with held := [] }
    unfold Ring.pumpAll
    dsimp only
    split
    · rw [ringSettings_pumpAll n, h]; rfl
    · rw [h]; rfl

theorem ringSettings_pump (now : Nat) (r : Ring) : ringSettings (r.pump now).1 = ringSettings r :=
  (rfl : ringSettings (r.pump now).1 = ringSettings (r.pumpAll (r.held.length + 1)).1).trans (ringSettings_pumpAll _ r)

/-! ## The device -/

theorem device_modRing (p : Nat) (f : Ring → Ring) (h : ∀ r, ringSettings (f r) = ringSettings r) (s : State) :
    device (s.modRing p f) = device s := by
  unfold device State.modRing
  simp only [map_modify_same ringSettings f h]

@[simp] theorem device_unflag (src : Nat) (s : State) : device (s.unflag src) = device s := by
  unfold device State.unflag
  simp only [map_modify_same (fun e : EvSrc => { e with flag := false }) (fun e => { e with flag := false }) (fun _ => rfl)]

@[simp] theorem device_ledger (type code reason node : Nat) (data : List Byte) (s : State) :
    device (s.ledger type code reason node data) = device s := by
  unfold device State.ledger Ledger.stage
  dsimp only
  split <;> rfl

/-- Telling an event changes nothing that `device` holds. -/
@[simp] theorem device_fire (src tgt reason : Nat) (items : List Byte) (s : State) : device (s.fire src tgt reason items) = device s := by
  have hev : (s.ev.src.modify src fun e : EvSrc => { e with flag := true }).map (fun e : EvSrc => { e with flag := false })
      = s.ev.src.map fun e => { e with flag := false } :=
    map_modify_same (fun e : EvSrc => { e with flag := false }) (fun e : EvSrc => { e with flag := true }) (fun _ => rfl) s.ev.src src
  have hled : ∀ (l : Ledger) (r : LRec), ({ l.stage r with staged := [], dropped := 0, dropNew := 0, dropFirst := 0, dropLast := 0 } : Ledger)
      = { l with staged := [], dropped := 0, dropNew := 0, dropFirst := 0, dropLast := 0 } := by
    intro l r; unfold Ledger.stage; split <;> rfl
  have hr : (if s.folds src = true then s.rings.map (Ring.fold src)
      else if s.queues src = true then
        s.rings.modify (s.ev.src.getD src {}).eq fun r =>
          { r with held := r.held ++ [Rec.event (r.owner.getD 0) src tgt reason s.time.now (pad4 items)] }
      else s.rings).map ringSettings = s.rings.map ringSettings := by
    split
    · simp [List.map_map, Function.comp_def]
    · split
      · apply map_modify_same ringSettings; intro r; rfl
      · rfl
  unfold device State.fire
  dsimp only
  rw [hev, hr]
  by_cases hl : s.logged src = true
  · simp only [hl, if_true, hled]
  · simp only [hl]; rfl

@[simp] theorem device_placedRec (tr : Transport) (src : Option Nat) (s : State) : device (s.placedRec tr src) = device s := by
  unfold State.placedRec
  cases src with
  | none => rfl
  | some n =>
    cases tr with
    | ethernet => exact device_unflag n s
    | spi => rfl
    | pcie =>
      dsimp only
      split
      · unfold device Msix.signal; dsimp only
        split
        · rfl
        · split
          · split <;> rfl
          · rfl
      · rfl

theorem device_foldl {α : Type} (f : State → α → State) (h : ∀ s x, device (f s x) = device s) :
    ∀ (l : List α) (s : State), device (l.foldl f s) = device s
  | [], _ => rfl
  | x :: xs, s => by rw [List.foldl_cons, device_foldl f h xs, h]

@[simp] theorem device_pumpRing (p : Nat) (s : State) : device (s.pumpRing p) = device s := by
  unfold State.pumpRing
  dsimp only
  rw [device_foldl _ (fun s x => device_placedRec _ _ s)]
  unfold device
  dsimp only
  have h : ringSettings (Ring.pump s.time.now (s.ring p)).1 = ringSettings (s.rings.getD p {}) := ringSettings_pump _ _
  rw [map_set_same ringSettings s.rings p _ {} h]

@[simp] theorem device_nearLimit (p : Nat) (s : State) : device (s.nearLimit p) = device s := by
  unfold State.nearLimit
  dsimp only
  split
  · rw [device_fire]; apply device_modRing; intro r; rfl
  · rfl

/-- The end of every meaning changes nothing that `device` holds. -/
@[simp] theorem device_flush (s : State) : device s.flush = device s := by
  unfold State.flush
  dsimp only
  split
  · rw [device_foldl _ (fun s p => device_pumpRing p s), device_foldl _ (fun s p => device_nearLimit p s), device_foldl _ (fun s p => device_pumpRing p s)]
  · rw [device_foldl _ (fun s p => device_pumpRing p s)]

/-! ## Fields that the end of a meaning leaves alone -/

theorem device_boot (s : State) : (device s).boot = s.boot := rfl
theorem device_power (s : State) : (device s).power = s.power := rfl
theorem device_time (s : State) : (device s).time = s.time := rfl
theorem device_prot (s : State) : (device s).prot = s.prot := rfl
theorem device_launchQ (s : State) : (device s).launchQ = s.launchQ := rfl
theorem device_miles (s : State) : (device s).miles = s.miles := rfl
theorem device_cfg (s : State) : (device s).cfg = s.cfg := rfl
theorem device_chk (s : State) : (device s).chk = s.chk := rfl
theorem device_pts (s : State) : (device s).pts = s.pts := rfl
theorem device_cars (s : State) : (device s).cars = s.cars := rfl
theorem device_trunks (s : State) : (device s).trunks = s.trunks := rfl
theorem device_segs (s : State) : (device s).segs = s.segs := rfl
theorem device_chans (s : State) : (device s).chans = s.chans := rfl
theorem device_caps (s : State) : (device s).caps = s.caps := rfl
theorem device_auth (s : State) : (device s).auth = s.auth := rfl
theorem device_disp (s : State) : (device s).disp = s.disp := rfl
theorem device_axes (s : State) : (device s).axes = s.axes := rfl
theorem device_doors (s : State) : (device s).doors = s.doors := rfl
theorem device_crole (s : State) : (device s).crole = s.crole := rfl
theorem device_safe (s : State) : (device s).safe = s.safe := rfl
theorem device_field (s : State) : (device s).field = s.field := rfl
theorem device_can (s : State) : (device s).can = s.can := rfl
theorem device_meter (s : State) : (device s).meter = s.meter := rfl
theorem device_pair (s : State) : (device s).pair = s.pair := rfl
theorem device_vault (s : State) : (device s).vault = s.vault := rfl
theorem device_sec (s : State) : (device s).sec = s.sec := rfl
theorem device_jrn (s : State) : (device s).jrn = s.jrn := rfl
theorem device_free (s : State) : (device s).free = s.free := rfl
theorem device_pending (s : State) : (device s).pending = s.pending := rfl

@[simp] theorem State.flush_boot (s : State) : s.flush.boot = s.boot := by rw [← device_boot s.flush, device_flush, device_boot]
@[simp] theorem State.flush_power (s : State) : s.flush.power = s.power := by rw [← device_power s.flush, device_flush, device_power]
@[simp] theorem State.flush_time (s : State) : s.flush.time = s.time := by rw [← device_time s.flush, device_flush, device_time]
@[simp] theorem State.flush_prot (s : State) : s.flush.prot = s.prot := by rw [← device_prot s.flush, device_flush, device_prot]
@[simp] theorem State.flush_launchQ (s : State) : s.flush.launchQ = s.launchQ := by rw [← device_launchQ s.flush, device_flush, device_launchQ]
@[simp] theorem State.flush_miles (s : State) : s.flush.miles = s.miles := by rw [← device_miles s.flush, device_flush, device_miles]
@[simp] theorem State.flush_cfg (s : State) : s.flush.cfg = s.cfg := by rw [← device_cfg s.flush, device_flush, device_cfg]
@[simp] theorem State.flush_chk (s : State) : s.flush.chk = s.chk := by rw [← device_chk s.flush, device_flush, device_chk]
@[simp] theorem State.flush_pts (s : State) : s.flush.pts = s.pts := by rw [← device_pts s.flush, device_flush, device_pts]
@[simp] theorem State.flush_cars (s : State) : s.flush.cars = s.cars := by rw [← device_cars s.flush, device_flush, device_cars]
@[simp] theorem State.flush_trunks (s : State) : s.flush.trunks = s.trunks := by rw [← device_trunks s.flush, device_flush, device_trunks]
@[simp] theorem State.flush_segs (s : State) : s.flush.segs = s.segs := by rw [← device_segs s.flush, device_flush, device_segs]
@[simp] theorem State.flush_chans (s : State) : s.flush.chans = s.chans := by rw [← device_chans s.flush, device_flush, device_chans]
@[simp] theorem State.flush_caps (s : State) : s.flush.caps = s.caps := by rw [← device_caps s.flush, device_flush, device_caps]
@[simp] theorem State.flush_auth (s : State) : s.flush.auth = s.auth := by rw [← device_auth s.flush, device_flush, device_auth]
@[simp] theorem State.flush_disp (s : State) : s.flush.disp = s.disp := by rw [← device_disp s.flush, device_flush, device_disp]
@[simp] theorem State.flush_axes (s : State) : s.flush.axes = s.axes := by rw [← device_axes s.flush, device_flush, device_axes]
@[simp] theorem State.flush_doors (s : State) : s.flush.doors = s.doors := by rw [← device_doors s.flush, device_flush, device_doors]
@[simp] theorem State.flush_crole (s : State) : s.flush.crole = s.crole := by rw [← device_crole s.flush, device_flush, device_crole]
@[simp] theorem State.flush_safe (s : State) : s.flush.safe = s.safe := by rw [← device_safe s.flush, device_flush, device_safe]
@[simp] theorem State.flush_field (s : State) : s.flush.field = s.field := by rw [← device_field s.flush, device_flush, device_field]
@[simp] theorem State.flush_can (s : State) : s.flush.can = s.can := by rw [← device_can s.flush, device_flush, device_can]
@[simp] theorem State.flush_meter (s : State) : s.flush.meter = s.meter := by rw [← device_meter s.flush, device_flush, device_meter]
@[simp] theorem State.flush_pair (s : State) : s.flush.pair = s.pair := by rw [← device_pair s.flush, device_flush, device_pair]
@[simp] theorem State.flush_vault (s : State) : s.flush.vault = s.vault := by rw [← device_vault s.flush, device_flush, device_vault]
@[simp] theorem State.flush_sec (s : State) : s.flush.sec = s.sec := by rw [← device_sec s.flush, device_flush, device_sec]
@[simp] theorem State.flush_jrn (s : State) : s.flush.jrn = s.jrn := by rw [← device_jrn s.flush, device_flush, device_jrn]
@[simp] theorem State.flush_free (s : State) : s.flush.free = s.free := by rw [← device_free s.flush, device_flush, device_free]
@[simp] theorem State.flush_pending (s : State) : s.flush.pending = s.pending := by rw [← device_pending s.flush, device_flush, device_pending]

end Sys2Proof.Machine
end

