-- ==== Sys2Proof/Laws/Replies.lean ====
section
/-! SUPPORT. A pair's list of latest replies (R45) and its tags in flight survive telling events and placing records, as long
as no reply waits in the pair that ends its epoch. -/

namespace Sys2Proof.Machine

open Sys2Proof.Safety

/-- No reply waits that ends the epoch (R382). -/
def Ring.Steady (r : Ring) : Prop := ∀ x ∈ r.held, x.rekeys = false

/-- `b` follows `a` in a step that ends no epoch: the same latest replies and tags, and still no such reply waits. -/
def Ring.Follows (a b : Ring) : Prop := b.recent = a.recent ∧ b.tags = a.tags ∧ b.Steady

theorem Ring.Follows.refl {a : Ring} (h : a.Steady) : a.Follows a := ⟨rfl, rfl, h⟩

theorem Ring.Follows.trans {a b c : Ring} (h : a.Follows b) (k : b.Follows c) : a.Follows c :=
  ⟨k.1.trans h.1, k.2.1.trans h.2.1, k.2.2⟩

/-! ## Placing -/

@[simp] theorem Ring.place_recent (r : Ring) (x : Rec) : (r.place x).recent = r.recent := by
  unfold Ring.place; dsimp only; split <;> rfl
@[simp] theorem Ring.place_tags (r : Ring) (x : Rec) : (r.place x).tags = r.tags := by
  unfold Ring.place; dsimp only; split <;> rfl
@[simp] theorem Ring.place_held (r : Ring) (x : Rec) : (r.place x).held = r.held := by
  unfold Ring.place; dsimp only; split <;> rfl

/-- One round over records none of which ends the epoch. -/
theorem Ring.pumpList_steady : ∀ (l : List Rec) (r : Ring), (∀ x ∈ l, x.rekeys = false) →
    (r.pumpList l).1.recent = r.recent ∧ (r.pumpList l).1.tags = r.tags ∧ (∀ y ∈ (r.pumpList l).1.held, y ∈ r.held ∨ y ∈ l)
      ∧ ∀ y ∈ (r.pumpList l).2, y ∈ l
  | [], r, _ => ⟨rfl, rfl, fun _ h => .inl h, fun _ h => h⟩
  | x :: xs, r, h => by
    have hx := h x (by simp)
    have hxs : ∀ y ∈ xs, y.rekeys = false := fun y hy => h y (by simp [hy])
    unfold Ring.pumpList
    split
    · obtain ⟨a, b, c, d⟩ := Ring.pumpList_steady xs { r with held := r.held ++ [x] } hxs
      refine ⟨a, b, fun y hy => ?_, fun y hy => by simp [d y hy]⟩
      have := c y hy
      simp only [List.mem_append, List.mem_singleton, List.mem_cons] at this ⊢
      grind
    · rw [if_neg (by simp [hx])]
      split
      · obtain ⟨a, b, c, d⟩ := Ring.pumpList_steady xs (r.place x) hxs
        refine ⟨by simpa using a, by simpa using b, fun y hy => ?_, fun y hy => ?_⟩
        · have := c y hy
          simp only [Ring.place_held, List.mem_cons] at this ⊢
          grind
        · simp only [List.mem_cons] at hy ⊢
          rcases hy with hy | hy
          · exact .inl hy
          · exact .inr (d y hy)
      · refine ⟨rfl, rfl, fun y hy => ?_, fun y hy => by simp at hy⟩
        simpa using hy

theorem Ring.pumpAll_steady : ∀ (n : Nat) (r : Ring), r.Steady → r.Follows (r.pumpAll n).1
  | 0, r, h => .refl h
  | n + 1, r, h => by
    obtain ⟨a, b, c, d⟩ := Ring.pumpList_steady r.held { r with held := [] } h
    have hn : (Ring.pumpList { r with held := [] } r.held).2.any Rec.rekeys = false := by
      rw [List.any_eq_false]
      intro y hy
      simp [h y (d y hy)]
    unfold Ring.pumpAll
    simp only [hn, Bool.false_eq_true, if_false]
    refine ⟨a, b, fun y hy => ?_⟩
    rcases c y hy with hy | hy
    · simp at hy
    · exact h y hy

theorem Ring.pump_steady (now : Nat) (r : Ring) (h : r.Steady) : r.Follows (r.pump now).1 :=
  have k := Ring.pumpAll_steady (r.held.length + 1) r h
  ⟨k.1, k.2.1, k.2.2⟩

/-! ## Events -/

@[simp] theorem Rec.fold_rekeys (src : Nat) (x : Rec) : (x.fold src).rekeys = x.rekeys := by
  unfold Rec.fold; split <;> rfl

theorem Ring.fold_steady (src : Nat) (r : Ring) (h : r.Steady) : r.Follows (r.fold src) := by
  refine ⟨rfl, rfl, fun x hx => ?_⟩
  simp only [Ring.fold, List.mem_map] at hx
  obtain ⟨y, hy, rfl⟩ := hx
  simp [h y hy]

theorem ring_modRing (p q : Nat) (f : Ring → Ring) (s : State) :
    (s.modRing p f).ring q = if p = q ∧ q < s.rings.length then f (s.ring q) else s.ring q := by
  unfold State.ring
  simp only [State.modRing_rings, List.getD_eq_getElem?_getD, List.getElem?_modify]
  by_cases hq : q < s.rings.length
  · simp only [hq, List.getElem?_eq_getElem, Option.map_some, Option.getD_some]
    by_cases hp : p = q <;> simp [hp]
  · simp [hq]

/-- Telling an event keeps latest replies and tags. -/
theorem ring_fire_steady (src tgt reason : Nat) (items : List Byte) (s : State) (q : Nat) (h : (s.ring q).Steady) :
    (s.ring q).Follows ((s.fire src tgt reason items).ring q) := by
  have hs : (s.fire src tgt reason items).rings = (if s.folds src = true then s.rings.map (Ring.fold src)
      else if s.queues src = true then
        s.rings.modify (s.ev.src.getD src {}).eq fun r =>
          { r with held := r.held ++ [Rec.event (r.owner.getD 0) src tgt reason s.time.now (pad4 items)] }
      else s.rings) := rfl
  have hev : ∀ r : Ring, r.Steady → r.Follows { r with held := r.held ++ [Rec.event (r.owner.getD 0) src tgt reason s.time.now (pad4 items)] } := by
    intro r hr
    refine ⟨rfl, rfl, fun x hx => ?_⟩
    simp only [List.mem_append, List.mem_singleton] at hx
    rcases hx with hx | rfl
    · exact hr x hx
    · rfl
  unfold State.ring at h ⊢
  rw [hs]
  simp only [List.getD_eq_getElem?_getD] at h ⊢
  by_cases hf : s.folds src = true
  · simp only [hf, if_true, List.getElem?_map]
    cases hq : s.rings[q]? with
    | none => simpa [hq] using Ring.Follows.refl (by simpa [hq] using h)
    | some r => simpa [hq] using Ring.fold_steady src r (by simpa [hq] using h)
  · simp only [hf]
    by_cases hu : s.queues src = true
    · simp only [hu, if_true, Bool.false_eq_true, if_false, List.getElem?_modify]
      cases hq : s.rings[q]? with
      | none => simpa [hq] using Ring.Follows.refl (by simpa [hq] using h)
      | some r =>
        have hr : r.Steady := by simpa [hq] using h
        simp only [Option.map_some, Option.getD_some]
        split
        · exact hev r hr
        · exact .refl hr
    · simpa [hu] using Ring.Follows.refl (by simpa using h)

/-! ## The end of a meaning -/

@[simp] theorem State.placedRec_rings (tr : Transport) (src : Option Nat) (s : State) : (s.placedRec tr src).rings = s.rings := by
  unfold State.placedRec
  cases src with
  | none => rfl
  | some n => cases tr <;> rfl

theorem foldl_rings {α : Type} (f : State → α → State) (h : ∀ s x, (f s x).rings = s.rings) :
    ∀ (l : List α) (s : State), (l.foldl f s).rings = s.rings
  | [], _ => rfl
  | x :: xs, s => by rw [List.foldl_cons, foldl_rings f h xs, h]

theorem State.pumpRing_rings (p : Nat) (s : State) : (s.pumpRing p).rings = s.rings.set p ((s.ring p).pump s.time.now).1 := by
  unfold State.pumpRing
  dsimp only
  rw [foldl_rings _ (fun s x => State.placedRec_rings _ _ s)]

theorem ring_pumpRing_steady (p : Nat) (s : State) (q : Nat) (h : (s.ring q).Steady) : (s.ring q).Follows ((s.pumpRing p).ring q) := by
  have e : (s.pumpRing p).ring q = (s.rings.set p ((s.ring p).pump s.time.now).1).getD q {} := by
    rw [← State.pumpRing_rings]; rfl
  rw [e, List.getD_eq_getElem?_getD, List.getElem?_set]
  by_cases hp : p = q
  · subst hp
    by_cases hl : p < s.rings.length
    · simpa [hl] using Ring.pump_steady s.time.now _ h
    · have : s.ring p = {} := by unfold State.ring; simp [List.getD, hl]
      simpa [hl, this] using Ring.Follows.refl (by simpa [this] using h)
  · simp only [hp, if_false]
    exact Ring.Follows.refl h

theorem ring_nearLimit_steady (p : Nat) (s : State) (q : Nat) (h : (s.ring q).Steady) : (s.ring q).Follows ((s.nearLimit p).ring q) := by
  unfold State.nearLimit
  dsimp only
  split
  · refine Ring.Follows.trans ?_ (ring_fire_steady 0x04 0 0 [] _ q ?_)
    · rw [ring_modRing]; split
      · exact ⟨rfl, rfl, h⟩
      · exact .refl h
    · rw [ring_modRing]; split <;> exact h
  · exact .refl h

theorem ring_foldl_steady {α : Type} (f : State → α → State) (q : Nat) (hf : ∀ (s : State) x, (s.ring q).Steady → (s.ring q).Follows ((f s x).ring q)) :
    ∀ (l : List α) (s : State), (s.ring q).Steady → (s.ring q).Follows ((l.foldl f s).ring q)
  | [], _, h => .refl h
  | x :: xs, s, h => by
    rw [List.foldl_cons]
    have k := hf s x h
    exact k.trans (ring_foldl_steady f q hf xs (f s x) k.2.2)

/-- The end of a meaning keeps a pair's latest replies and tags. -/
theorem ring_flush_steady (s : State) (q : Nat) (h : (s.ring q).Steady) : (s.ring q).Follows (s.flush.ring q) := by
  have k := ring_foldl_steady (fun s p => s.pumpRing p) q (fun s p => ring_pumpRing_steady p s q) pairNums s h
  unfold State.flush
  dsimp only
  split
  · have k1 := ring_foldl_steady (fun s p => s.nearLimit p) q (fun s p => ring_nearLimit_steady p s q) pairNums _ k.2.2
    exact (k.trans k1).trans (ring_foldl_steady (fun s p => s.pumpRing p) q (fun s p => ring_pumpRing_steady p s q) pairNums _ k1.2.2)
  · exact k

end Sys2Proof.Machine
end

