-- ==== Sys2Proof/Laws/Accept.lean ====
section
/-! SUPPORT. What a packet does that meets the conditions of R57: its card's checks and effect run on a state whose ring has
taken the SEQ and the tag; and what a final or an ACCEPTED reply leaves behind. -/

namespace Sys2Proof.Machine

open Sys2Proof.Safety

theorem ring_of_sess {u : State} {p : Nat} {se : Session} (h : (u.ring p).sess = some se) : p < u.rings.length := by
  apply Classical.byContradiction
  intro hp
  unfold State.ring at h
  simp [List.getD, hp] at h

theorem State.advance_now (t : Nat) (s : State) : (s.advance t).time.now = max s.time.now t := rfl

/-- The ring of a packet once its SEQ is taken. -/
theorem ring_taking {h : Hdr} {s : State} {se : Session} (hs : ((s.advance h.t).ring h.pair).sess = some se) :
    (taking h s).ring h.pair = ((s.advance h.t).ring h.pair).takeSeq h.seq := by
  unfold taking
  rw [ring_modRing, if_pos ⟨rfl, ring_of_sess hs⟩]

/-- R57: a packet that meets the conditions is admitted. -/
theorem admit_none {k : Card} {lenOk : Bool} {h : Hdr} {s : State} {se : Session} (hA : Admits k lenOk (s.advance h.t) h se)
    (hl : h.launch = 0 ∨ ((s.advance h.t).launchBad k h.launch) = none) :
    (taking h s).passes k (tagOf k.opc h s) lenOk h.launch = none := by
  have hr := ring_taking hA.sess
  have hring : (taking h s).admitRing (tagOf k.opc h s) = none := by
    unfold State.admitRing
    simp only [tagOf, hdrTag, hr, Ring.takeSeq, hA.sess, Option.getD_some]
    have ho : Ring.ownerFor { (s.advance h.t).ring h.pair with rxSeq := h.seq + 1, recent := ((h.seq, none) :: ((s.advance h.t).ring h.pair).recent).take 64 } se
        = some h.dom := hA.owner
    have h1 := hA.dom
    have h2 := hA.tag
    have h3 := hA.credit
    have h4 : ((s.advance h.t).ring h.pair).tags.any (fun x => x.tag == h.tag) = false := by
      rw [List.any_eq_false]; intro x hx; simp [hA.free x hx]
    rw [if_neg, if_neg, if_neg, if_neg]
    · exact Nat.not_le.mpr h3
    · simp [h4]
    · exact Nat.not_lt.mpr h2
    · simp only [not_or, Decidable.not_not, ne_eq]; exact ⟨ho, h1⟩
  have hlaunch : ∀ l, (taking h s).launchBad k l = (s.advance h.t).launchBad k l := fun _ => rfl
  have hcard : (taking h s).admitCard k (tagOf k.opc h s) lenOk h.launch = none := by
    have hsess : (((taking h s).ring h.pair).sess.getD {}).prov = se.prov := by rw [hr]; simp [Ring.takeSeq, hA.sess]
    unfold State.admitCard
    simp only [tagOf, hdrTag, hsess]
    have e1 : ((taking h s).boot.role) = (s.advance h.t).boot.role := rfl
    have c1 : (!bit k.role (roleCode (taking h s).boot.role - 1) || (taking h s).boot.role == .none) = false := by
      rw [e1]
      rcases hA.role with ⟨hr1, hr2⟩ | ⟨hr1, hr2⟩ <;> rw [hr1] <;> simp [roleCode, hr2]
    have c3 : kindInRole (taking h s).boot.role (tgtKind h.tgt) = true := hA.kind
    have c4 : (taking h s).defines h.tgt = true := hA.node
    have c5 : k.addresses (taking h s).boot.role (tgtKind h.tgt) = true := hA.addressed
    have c6 : stageAdmits (taking h s).boot.stage h.dom k.cls se.prov = true := hA.stage
    have c7 : (taking h s).power.shutDown = false := hA.up
    have c8 : (se.prov && !(taking h s).provAdmits k) = false := by
      cases hp : se.prov with
      | false => rfl
      | true => have : (taking h s).provAdmits k = true := hA.prov hp
                simp [this]
    have c9 : ((taking h s).standby && !k.query && !([0x0, 0xB, 0xC, 0xD, 0xE] : List Nat).contains k.cls) = false := by
      rcases hA.pair with hp | hp | hp
      · have : (taking h s).standby = false := hp
        simp only [this, Bool.false_and]
      · simp only [hp, Bool.not_true, Bool.and_false, Bool.false_and]
      · simp only [hp, Bool.not_true, Bool.and_false]
    have c10 : (taking h s).rightsOk k (hdrTag h k.opc (s.advance h.t).time.now 0) se.prov = true := hA.rights
    have c11 : (k.enabled && (taking h s).boot.stage != 6) = false := by
      cases hk : k.enabled with
      | false => rfl
      | true => have : (taking h s).boot.stage = 6 := hA.enabled hk
                simp [this]
    simp only [hdrTag] at c10
    rw [hlaunch]
    simp only [c1, hA.len, c3, c4, c5, c6, c7, c8, c9, c10, c11, Bool.not_true, Bool.false_eq_true, if_false]
    rcases hl with hl | hl
    · simp [State.launchBad, hl]
    · simp [hl]
  unfold State.passes
  rw [hring]
  exact hcard

/-- R57: a packet that meets the conditions up to its launch time is heard. -/
theorem runCard_hears {d : CardDef} {h : Hdr} {data : List Byte} {s : State} {se : Session}
    (hA : Hears d.k (s.advance h.t) h se) :
    runCard d h data s = (taking h s).accept d (tagOf d.k.opc h s) h.launch data := by
  have harr : (s.advance h.t).arrival h.pair = some (s.advance h.t) := by
    unfold State.arrival
    have hw : ∀ x, (s.advance h.t).wakeUp x = s.advance h.t := by
      intro x
      unfold State.wakeUp
      rw [if_neg hA.awake]
      split
      · next tr hp => exact absurd hp (hA.noEntry tr)
      · rfl
    rw [hw, if_neg hA.awake]
    split <;> rfl
  have hhear : ((s.advance h.t).ring h.pair).hear d.k.opc h.seq = .next := by
    unfold Ring.hear
    rw [hA.sess]
    dsimp only
    have hl : (((s.advance h.t).ring h.pair).rekeyOnly && !rekeyOpc d.k.opc) = false := by
      cases hk : ((s.advance h.t).ring h.pair).rekeyOnly with
      | false => rfl
      | true => simp [hA.limit hk]
    rw [if_neg (by rintro ⟨a, b⟩; simp [hA.reads a] at b), hl, if_neg (by simp), if_pos hA.seq]
  unfold runCard
  simp only [harr]
  unfold State.receive State.heard
  simp only [hhear]
  rfl

/-- A packet that meets the conditions of R57 is heard. -/
theorem admits_hears {k : Card} {lenOk : Bool} {u : State} {h : Hdr} {se : Session} (hA : Admits k lenOk u h se) : Hears k u h se :=
  ⟨hA.awake, hA.noEntry, hA.sess, hA.reads, hA.limit, hA.epoch, hA.seq⟩

theorem runCard_accept {d : CardDef} {h : Hdr} {data : List Byte} {s : State} {se : Session}
    (hA : Admits d.k (d.lenOk data) (s.advance h.t) h se) :
    runCard d h data s = (taking h s).accept d (tagOf d.k.opc h s) h.launch data := runCard_hears (admits_hears hA)

/-- R57: an immediate packet that meets the conditions, and whose card's own checks pass, has its card's effect. -/
theorem runCard_now {d : CardDef} {h : Hdr} {data : List Byte} {s : State} {se : Session}
    (hA : Admits d.k (d.lenOk data) (s.advance h.t) h se) (hl : h.launch = 0)
    (ho : d.own (taking h s) (tagOf d.k.opc h s) data = none) :
    runCard d h data s
      = (d.eff (tagOf d.k.opc h s) data (begun d.k.opc h s)).accepted (tagOf d.k.opc h s)
          (d.acc (d.eff (tagOf d.k.opc h s) data (begun d.k.opc h s)) (tagOf d.k.opc h s)) := by
  rw [runCard_accept hA]
  unfold State.accept
  rw [admit_none hA (.inl hl), if_pos hl]
  unfold runNow
  rw [ho]
  rfl

/-- R57: a packet whose card's own check refuses it ends REFUSED, with the card's reason. -/
theorem runCard_own {d : CardDef} {h : Hdr} {data : List Byte} {s : State} {se : Session} {reason : Nat} {body : List Byte}
    (hA : Admits d.k (d.lenOk data) (s.advance h.t) h se) (hl : h.launch = 0)
    (ho : d.own (taking h s) (tagOf d.k.opc h s) data = some (reason, body)) :
    runCard d h data s = (begun d.k.opc h s).finish (tagOf d.k.opc h s) 3 reason (taking h s).time.now body := by
  rw [runCard_accept hA]
  unfold State.accept
  rw [admit_none hA (.inl hl), if_pos hl]
  unfold runNow
  rw [ho]
  rfl

/-! ## The state a card's effect starts from -/

/-- A state in which the command is in flight on a pair whose latest list it heads, and no epoch is about to end. -/
structure InHand (opc : Nat) (h : Hdr) (s x : State) : Prop where
  flying : x.flying (tagOf opc h s) = true
  head : ∃ o l, (x.ring h.pair).recent = (h.seq, o) :: l
  steady : (x.ring h.pair).Steady

theorem ring_begun {opc : Nat} {h : Hdr} {s : State} {se : Session} (hs : ((s.advance h.t).ring h.pair).sess = some se) :
    (begun opc h s).ring h.pair
      = { ((s.advance h.t).ring h.pair).takeSeq h.seq with tags := ((s.advance h.t).ring h.pair).tags ++ [tagOf opc h s] } := by
  have hr := ring_taking hs
  have hl : h.pair < (taking h s).rings.length := by
    have := ring_of_sess hs
    simpa [taking] using this
  have hg : (taking h s).rings[h.pair]? = some ((taking h s).ring h.pair) := by
    unfold State.ring
    rw [List.getD_eq_getElem?_getD, List.getElem?_eq_getElem hl]
    rfl
  show ((taking h s).rings.modify h.pair fun r => { r with tags := r.tags ++ [tagOf opc h s] }).getD h.pair {} = _
  rw [List.getD_eq_getElem?_getD, List.getElem?_modify, hg, hr]
  simp only [if_true, Option.map_some, Option.getD_some]
  rfl

theorem inHand_begun {k : Card} {lenOk : Bool} {h : Hdr} {s : State} {se : Session} (hA : Admits k lenOk (s.advance h.t) h se) :
    InHand k.opc h s (begun k.opc h s) where
  flying := by
    unfold State.flying Ring.inFlight
    have : (tagOf k.opc h s).pair = h.pair := rfl
    rw [this, ring_begun hA.sess]
    simp
  head := by
    rw [ring_begun hA.sess]
    exact ⟨none, _, rfl⟩
  steady := by
    rw [ring_begun hA.sess]
    exact hA.epoch

/-- Another state with the same rings has the command in hand too. -/
theorem InHand.of_rings {opc : Nat} {h : Hdr} {s x y : State} (hx : InHand opc h s x) (e : y.rings = x.rings) : InHand opc h s y where
  flying := by
    have := hx.flying
    unfold State.flying State.ring at *
    rw [e]; exact this
  head := by
    obtain ⟨o, l, hh⟩ := hx.head
    exact ⟨o, l, by unfold State.ring at *; rw [e]; exact hh⟩
  steady := by
    have := hx.steady
    unfold State.ring at *
    rw [e]; exact this

theorem InHand.of_follows {opc : Nat} {h : Hdr} {s x y : State} (hx : InHand opc h s x) (f : (x.ring h.pair).Follows (y.ring h.pair)) : InHand opc h s y where
  flying := by
    have := hx.flying
    unfold State.flying Ring.inFlight at *
    have e : (tagOf opc h s).pair = h.pair := rfl
    rw [e] at *
    rw [f.2.1]; exact this
  head := by rw [f.1]; exact hx.head
  steady := f.2.2

/-- Telling an event keeps the command in hand. -/
theorem InHand.fire {opc : Nat} {h : Hdr} {s x : State} (hx : InHand opc h s x) (src tgt reason : Nat) (items : List Byte) :
    InHand opc h s (x.fire src tgt reason items) := hx.of_follows (ring_fire_steady src tgt reason items x h.pair hx.steady)

theorem InHand.ledger {opc : Nat} {h : Hdr} {s x : State} (hx : InHand opc h s x) (type code reason node : Nat) (data : List Byte) :
    InHand opc h s (x.ledger type code reason node data) := hx.of_rings rfl

@[simp] theorem device_begun (opc : Nat) (h : Hdr) (s : State) : device (begun opc h s) = device (heard h s) := by
  have h1 : device (taking h s) = device (s.advance h.t) := by
    unfold taking; apply device_modRing; intro r; rfl
  have hr : ((taking h s).rings.modify h.pair fun r => { r with tags := r.tags ++ [tagOf opc h s] }).map ringSettings = (s.advance h.t).rings.map ringSettings := by
    rw [map_modify_same ringSettings (fun r : Ring => { r with tags := r.tags ++ [tagOf opc h s] }) (fun _ => rfl)]
    exact congrArg State.rings h1
  unfold device heard begun State.addTag
  simp only [tagOf, hdrTag] at hr ⊢
  rw [hr]
  rfl

/-! ## Replies -/

/-- A final reply changes nothing that `device` holds; a LATE one counts. -/
theorem device_finish (tr : TagRec) (status reason stamp : Nat) (data : List Byte) (hl : status ≠ 5) (s : State) :
    device (s.finish tr status reason stamp data) = device s := by
  unfold State.finish
  split
  · have hr : ∀ l : List Ring, (l.modify tr.pair fun r =>
        { r.note tr.seq (tr.reply 0x05 status reason (tr.stampFor stamp) data) with
          tags := r.tags.filter fun y => y != tr
          held := (r.held.filter fun y => !y.isAcc tr) ++ [tr.reply 0x05 status reason (tr.stampFor stamp) data] }).map ringSettings = l.map ringSettings := by
      intro l; apply map_modify_same ringSettings; intro r; rfl
    unfold device
    dsimp only
    rw [hr]
  · rfl

@[simp] theorem device_done (tr : TagRec) (data : List Byte) (s : State) : device (s.done tr data) = device s := device_finish tr 2 _ _ _ (by decide) s
@[simp] theorem device_refuse (tr : TagRec) (reason : Nat) (s : State) : device (s.refuse tr reason) = device s := device_finish tr 3 _ _ _ (by decide) s
@[simp] theorem device_abort (tr : TagRec) (reason : Nat) (s : State) : device (s.abort tr reason) = device s := device_finish tr 4 _ _ _ (by decide) s

@[simp] theorem device_queue (tr : TagRec) (x : Rec) (s : State) : device (s.queue tr x) = device s := by
  unfold State.queue; apply device_modRing; intro r; rfl

@[simp] theorem device_accepted (tr : TagRec) (data : List Byte) (s : State) : device (s.accepted tr data) = device s := by
  unfold State.accepted; split
  · simp
  · rfl

/-- After its final reply a command is no longer in flight. -/
theorem finish_not_flying (tr : TagRec) (status reason stamp : Nat) (data : List Byte) (s : State) :
    (s.finish tr status reason stamp data).flying tr = false := by
  unfold State.finish
  split
  · next hf =>
    unfold State.flying State.ring at *
    simp only [List.getD_eq_getElem?_getD, List.getElem?_modify] at *
    cases hq : s.rings[tr.pair]? with
    | none => simp [hq, Ring.inFlight] at hf
    | some r => simp [Ring.inFlight]
  · next hf => simpa using hf

theorem accepted_finish (tr : TagRec) (status reason stamp : Nat) (data acc : List Byte) (s : State) :
    (s.finish tr status reason stamp data).accepted tr acc = s.finish tr status reason stamp data := by
  unfold State.accepted
  rw [if_neg (by simp [finish_not_flying])]

/-- The final reply stands first among the pair's latest replies. -/
theorem replied_finish {opc : Nat} {h : Hdr} {s x : State} (hx : InHand opc h s x) (status reason stamp : Nat) (data : List Byte) (hs : (opc == 0xC030 && status == 2) = false) :
    Replied (x.finish (tagOf opc h s) status reason stamp data).flush h opc status reason data := by
  obtain ⟨o, l, hh⟩ := hx.head
  have hf := hx.flying
  have hst := hx.steady
  let tr := tagOf opc h s
  let y := tr.reply 0x05 status reason (tr.stampFor stamp) data
  have hy : y.rekeys = false := by
    show ((((none : Option Nat).isNone && opc == 0xC030) && status == 2) && _) = false
    simp [hs]
  have hin : h.pair < x.rings.length := by
    apply Classical.byContradiction
    intro hp
    unfold State.ring at hh
    simp [List.getD, hp] at hh
  have hr : (x.finish tr status reason stamp data).ring h.pair =
      { (x.ring h.pair).note h.seq y with
          tags := (x.ring h.pair).tags.filter fun z => z != tr
          held := ((x.ring h.pair).held.filter fun z => !z.isAcc tr) ++ [y] } := by
    unfold State.finish
    rw [if_pos hf]
    unfold State.ring
    simp only [List.getD_eq_getElem?_getD, List.getElem?_modify]
    simp [hin, tr, y, tagOf, hdrTag]
  have hsteady : ((x.finish tr status reason stamp data).ring h.pair).Steady := by
    rw [hr]
    intro z hz
    simp only [List.mem_append, List.mem_filter, List.mem_singleton] at hz
    rcases hz with hz | rfl
    · exact hst z hz.1
    · exact hy
  have hfl := ring_flush_steady (x.finish tr status reason stamp data) h.pair hsteady
  refine ⟨y, ?_, rfl, rfl, rfl, rfl, rfl, rfl⟩
  rw [hfl.1, hr]
  simp only [Ring.note, hh]
  simp

/-- A card whose effect ends in a final reply: the device is what the effect made of it, and the reply stands. -/
theorem ends_finish {i : Instr} {opc : Nat} {h : Hdr} {s x : State} {status reason stamp : Nat} {data acc : List Byte}
    (he : exec i s = ok ((x.finish (tagOf opc h s) status reason stamp data).accepted (tagOf opc h s) acc))
    (hx : InHand opc h s x) (h5 : status ≠ 5) (hs : (opc == 0xC030 && status == 2) = false) :
    Ends i s h opc status reason data x := by
  refine ⟨_, he, ?_, ?_⟩
  · rw [accepted_finish, device_flush, device_finish _ _ _ _ _ h5]
  · rw [accepted_finish]; exact replied_finish hx status reason stamp data hs

/-- A card whose effect leaves its command in flight: the device is what the effect made of it, and ACCEPTED is given. -/
theorem runs_accepted {i : Instr} {opc : Nat} {h : Hdr} {s x : State} {acc : List Byte}
    (he : exec i s = ok (x.accepted (tagOf opc h s) acc)) (hx : InHand opc h s x) : Runs i s h opc acc x := by
  have hf := hx.flying
  have hin : h.pair < x.rings.length := by
    apply Classical.byContradiction
    intro hp
    obtain ⟨o, l, hh⟩ := hx.head
    unfold State.ring at hh
    simp [List.getD, hp] at hh
  have htag : tagOf opc h s ∈ (x.ring h.pair).tags := by
    unfold State.flying Ring.inFlight at hf
    have e : (tagOf opc h s).pair = h.pair := rfl
    rw [e] at hf
    simpa using hf
  have hflg : (tagOf opc h s).flg = h.flg := rfl
  by_cases hb : bit h.flg 2 = false
  · have hq : x.accepted (tagOf opc h s) acc = x.queue (tagOf opc h s) ((tagOf opc h s).reply 0x01 1 0 x.time.now acc) := by
      unfold State.accepted
      rw [if_pos ⟨hf, by rw [hflg]; exact hb⟩]
    rw [hq] at he
    let y := (tagOf opc h s).reply 0x01 1 0 x.time.now acc
    have hr : (x.queue (tagOf opc h s) y).ring h.pair = { (x.ring h.pair).note h.seq y with held := (x.ring h.pair).held ++ [y] } := by
      unfold State.queue
      rw [ring_modRing]
      rw [if_pos ⟨rfl, hin⟩]
      rfl
    have hy : y.rekeys = false := by
      show ((((none : Option Nat).isNone && opc == 0xC030) && (1 : Nat) == 2) && _) = false
      simp
    have hst : ((x.queue (tagOf opc h s) y).ring h.pair).Steady := by
      rw [hr]; intro z hz
      simp only [List.mem_append, List.mem_singleton] at hz
      rcases hz with hz | rfl
      · exact hx.steady z hz
      · exact hy
    have hfl := ring_flush_steady _ h.pair hst
    refine ⟨_, he, by simp, fun _ => ⟨y, ?_, rfl, rfl, rfl, rfl, rfl, rfl⟩, ?_⟩
    · rw [hfl.1, hr]
      obtain ⟨o, l, hh⟩ := hx.head
      simp only [Ring.note, hh]
      simp
    · rw [hfl.2.1, hr]; exact htag
  · have hq : x.accepted (tagOf opc h s) acc = x := by
      unfold State.accepted
      rw [if_neg (by rw [hflg]; simp [hb])]
    rw [hq] at he
    have hfl := ring_flush_steady x h.pair hx.steady
    exact ⟨_, he, by simp, fun k => absurd k hb, by rw [hfl.2.1]; exact htag⟩

/-! ## Cards -/

/-- A card row runs its card. -/
theorem exec_cardOf {i : Instr} {d : CardDef} {h : Hdr} {data : List Byte} (hi : cardOf i = some (d, h, data)) (s : State) :
    exec i s = ok (runCard d h data s) := by
  cases i <;> simp only [cardOf, Option.some.injEq, Prod.mk.injEq, reduceCtorEq] at hi <;> obtain ⟨rfl, rfl, rfl⟩ := hi <;> rfl

theorem inHand_admitted {d : CardDef} {s : State} {h : Hdr} {data : List Byte} (hc : Admitted d s h data) : InHand d.k.opc h s (begun d.k.opc h s) := by
  obtain ⟨⟨_, se, hA⟩, _⟩ := hc
  exact inHand_begun hA

theorem runCard_admitted {d : CardDef} {s : State} {h : Hdr} {data : List Byte} (hc : Admitted d s h data) :
    runCard d h data s = (d.eff (tagOf d.k.opc h s) data (begun d.k.opc h s)).accepted (tagOf d.k.opc h s)
      (d.acc (d.eff (tagOf d.k.opc h s) data (begun d.k.opc h s)) (tagOf d.k.opc h s)) := by
  obtain ⟨⟨hl, se, hA⟩, ho⟩ := hc
  exact runCard_now hA hl ho

/-- A card whose effect ends its command at once. -/
theorem ends_card {i : Instr} {d : CardDef} {s x : State} {h : Hdr} {data reply : List Byte} {status reason stamp : Nat}
    (hi : cardOf i = some (d, h, data)) (hc : Admitted d s h data)
    (he : d.eff (tagOf d.k.opc h s) data (begun d.k.opc h s) = x.finish (tagOf d.k.opc h s) status reason stamp reply)
    (hx : InHand d.k.opc h s x) (h5 : status ≠ 5) (hs : (d.k.opc == 0xC030 && status == 2) = false) :
    Ends i s h d.k.opc status reason reply x := by
  refine ends_finish (stamp := stamp) (acc := d.acc (x.finish (tagOf d.k.opc h s) status reason stamp reply) (tagOf d.k.opc h s)) ?_ hx h5 hs
  rw [exec_cardOf hi, runCard_admitted hc, he]

/-- A card whose effect leaves its command in flight. -/
theorem runs_card {i : Instr} {d : CardDef} {s x : State} {h : Hdr} {data : List Byte}
    (hi : cardOf i = some (d, h, data)) (hc : Admitted d s h data)
    (he : d.eff (tagOf d.k.opc h s) data (begun d.k.opc h s) = x) (hx : InHand d.k.opc h s x) :
    Runs i s h d.k.opc (d.acc x (tagOf d.k.opc h s)) x := by
  refine runs_accepted ?_ hx
  rw [exec_cardOf hi, runCard_admitted hc, he]

/-- The device of an `Ends` may be given by any state with the same device. -/
theorem ends_of_device {i : Instr} {s : State} {h : Hdr} {opc st r : Nat} {d : List Byte} {x y : State} (e : Ends i s h opc st r d x) (hd : device x = device y) : Ends i s h opc st r d y := by
  obtain ⟨t, a, b, c⟩ := e
  exact ⟨t, a, b.trans hd, c⟩
/-- The device of a `Runs` may be given by any state with the same device. -/
theorem runs_of_device {i : Instr} {s : State} {h : Hdr} {opc : Nat} {d : List Byte} {x y : State} (e : Runs i s h opc d x) (hd : device x = device y) : Runs i s h opc d y := by
  obtain ⟨t, a, b, c⟩ := e
  exact ⟨t, a, b.trans hd, c⟩
/-- A card whose effect ends DONE. -/
theorem ends_done {i : Instr} {d : CardDef} {s x : State} {h : Hdr} {data reply : List Byte}
    (hi : cardOf i = some (d, h, data)) (hc : Admitted d s h data)
    (he : d.eff (tagOf d.k.opc h s) data (begun d.k.opc h s) = x.done (tagOf d.k.opc h s) reply)
    (hx : InHand d.k.opc h s x) (hs : (d.k.opc == 0xC030) = false) {y : State} (hd : device x = device y) :
    Ends i s h d.k.opc 2 0 reply y :=
  ends_of_device (ends_card hi hc he hx (by decide) (by simp [hs])) hd
/-- A card whose effect leaves its command in flight. -/
theorem runs_to {i : Instr} {d : CardDef} {s x : State} {h : Hdr} {data acc : List Byte}
    (hi : cardOf i = some (d, h, data)) (hc : Admitted d s h data)
    (he : d.eff (tagOf d.k.opc h s) data (begun d.k.opc h s) = x) (ha : d.acc x (tagOf d.k.opc h s) = acc) (hx : InHand d.k.opc h s x) {y : State} (hd : device x = device y) :
    Runs i s h d.k.opc acc y := by
  subst ha; exact runs_of_device (runs_card hi hc he hx) hd

/-- The pair's ring after the final reply. -/
theorem ring_finish {opc : Nat} {h : Hdr} {s x : State} (hx : InHand opc h s x) (status reason stamp : Nat) (data : List Byte) :
    (x.finish (tagOf opc h s) status reason stamp data).ring h.pair =
      { (x.ring h.pair).note h.seq ((tagOf opc h s).reply 0x05 status reason ((tagOf opc h s).stampFor stamp) data) with
          tags := (x.ring h.pair).tags.filter fun z => z != tagOf opc h s
          held := ((x.ring h.pair).held.filter fun z => !z.isAcc (tagOf opc h s)) ++ [(tagOf opc h s).reply 0x05 status reason ((tagOf opc h s).stampFor stamp) data] } := by
  obtain ⟨o, l, hh⟩ := hx.head
  have hin : h.pair < x.rings.length := by
    apply Classical.byContradiction
    intro hp
    unfold State.ring at hh
    simp [List.getD, hp] at hh
  unfold State.finish
  rw [if_pos hx.flying]
  unfold State.ring
  simp only [List.getD_eq_getElem?_getD, List.getElem?_modify]
  simp [hin, tagOf, hdrTag]

/-- No reply waits after a final reply that ends the epoch, unless this one does. -/
theorem finish_steady {opc : Nat} {h : Hdr} {s x : State} (hx : InHand opc h s x) (status reason stamp : Nat) (data : List Byte) (hs : (opc == 0xC030 && status == 2) = false) :
    ((x.finish (tagOf opc h s) status reason stamp data).ring h.pair).Steady := by
  rw [ring_finish hx]
  intro z hz
  simp only [List.mem_append, List.mem_filter, List.mem_singleton] at hz
  rcases hz with hz | rfl
  · exact hx.steady z hz.1
  · show ((((none : Option Nat).isNone && opc == 0xC030) && status == 2) && _) = false
    simp [hs]

/-- A meaning that gives the final reply, and then tells events. -/
theorem ends_follow {i : Instr} {opc : Nat} {h : Hdr} {s x y : State} {status reason stamp : Nat} {data acc : List Byte}
    (he : exec i s = ok (y.accepted (tagOf opc h s) acc)) (hx : InHand opc h s x)
    (hf : ((x.finish (tagOf opc h s) status reason stamp data).ring h.pair).Follows (y.ring h.pair)) :
    Ends i s h opc status reason data y := by
  have hr := ring_finish hx status reason stamp data
  have hfl : y.flying (tagOf opc h s) = false := by
    unfold State.flying Ring.inFlight
    have e : (tagOf opc h s).pair = h.pair := rfl
    rw [e, hf.2.1, hr]; simp
  have ha : y.accepted (tagOf opc h s) acc = y := by
    unfold State.accepted; rw [if_neg (by simp [hfl])]
  rw [ha] at he
  have k := ring_flush_steady y h.pair hf.2.2
  refine ⟨_, he, device_flush _, ?_⟩
  refine ⟨(tagOf opc h s).reply 0x05 status reason ((tagOf opc h s).stampFor stamp) data, ?_, rfl, rfl, rfl, rfl, rfl, rfl⟩
  · rw [k.1, hf.1, hr]
    obtain ⟨o, l, hh⟩ := hx.head
    simp only [Ring.note, hh]
    simp

/-- A card that gives its final reply, and then tells events. -/
theorem ends_card_then {i : Instr} {d : CardDef} {s x y : State} {h : Hdr} {data reply : List Byte} {status reason stamp : Nat}
    (hi : cardOf i = some (d, h, data)) (hc : Admitted d s h data)
    (he : d.eff (tagOf d.k.opc h s) data (begun d.k.opc h s) = y)
    (hx : InHand d.k.opc h s x)
    (hf : ((x.finish (tagOf d.k.opc h s) status reason stamp reply).ring h.pair).Follows (y.ring h.pair)) {z : State} (hd : device y = device z) :
    Ends i s h d.k.opc status reason reply z := by
  refine ends_of_device (ends_follow (acc := d.acc y (tagOf d.k.opc h s)) ?_ hx hf) hd
  rw [exec_cardOf hi, runCard_admitted hc, he]

/-- Another command's final reply keeps this one in hand. -/
theorem InHand.finish_other {opc : Nat} {h : Hdr} {s x : State} (hx : InHand opc h s x) (tr : TagRec) (status reason stamp : Nat) (data : List Byte)
    (hn : tr ≠ tagOf opc h s) (hs : (tr.opc == 0xC030 && status == 2) = false) : InHand opc h s (x.finish tr status reason stamp data) := by
  obtain ⟨o, l, hh⟩ := hx.head
  have hin : h.pair < x.rings.length := by
    apply Classical.byContradiction
    intro hp
    unfold State.ring at hh
    simp [List.getD, hp] at hh
  by_cases hf : x.flying tr
  · have e : (x.finish tr status reason stamp data).ring h.pair = if tr.pair = h.pair then
        { (x.ring h.pair).note tr.seq (tr.reply 0x05 status reason (tr.stampFor stamp) data) with
          tags := (x.ring h.pair).tags.filter fun z => z != tr
          held := ((x.ring h.pair).held.filter fun z => !z.isAcc tr) ++ [tr.reply 0x05 status reason (tr.stampFor stamp) data] } else x.ring h.pair := by
      unfold State.finish
      rw [if_pos hf]
      unfold State.ring
      simp only [List.getD_eq_getElem?_getD, List.getElem?_modify]
      by_cases hp : tr.pair = h.pair <;> simp [hin, hp]
    by_cases hp : tr.pair = h.pair
    · rw [if_pos hp] at e
      refine ⟨?_, ?_, ?_⟩
      · unfold State.flying Ring.inFlight
        have ep : (tagOf opc h s).pair = h.pair := rfl
        rw [ep, e]
        have := hx.flying
        unfold State.flying Ring.inFlight at this
        rw [ep] at this
        simp only [List.contains_eq_mem, List.mem_filter, decide_eq_true_eq] at this ⊢
        exact ⟨this, by simpa [bne_iff_ne] using fun k => hn k.symm⟩
      · rw [e]; simp only [Ring.note, hh, List.map_cons]
        split <;> exact ⟨_, _, rfl⟩
      · rw [e]; intro z hz
        simp only [List.mem_append, List.mem_filter, List.mem_singleton] at hz
        rcases hz with hz | rfl
        · exact hx.steady z hz.1
        · show ((((none : Option Nat).isNone && tr.opc == 0xC030) && status == 2) && _) = false
          simp [hs]
    · rw [if_neg hp] at e
      refine ⟨?_, ?_, ?_⟩
      · have := hx.flying
        unfold State.flying at this ⊢
        have ep : (tagOf opc h s).pair = h.pair := rfl
        rw [ep] at this ⊢; rw [e]; exact this
      · rw [e]; exact ⟨o, l, hh⟩
      · rw [e]; exact hx.steady
  · have : x.finish tr status reason stamp data = x := by unfold State.finish; rw [if_neg hf]
    rw [this]; exact hx
/-- The same change of a ring's settings, on a state in which the command is begun and on one that heard it. -/
theorem device_modRing_begun (opc : Nat) (h : Hdr) (s : State) (p : Nat) (f : Ring → Ring) (g : Ring → Ring) (hg : ∀ r, ringSettings (f r) = g (ringSettings r)) :
    device ((begun opc h s).modRing p f) = device ((heard h s).modRing p f) := by
  have e := device_begun opc h s
  have key : ∀ x : State, device (x.modRing p f) = { device x with rings := (device x).rings.modify p g } := by
    intro x
    unfold device State.modRing
    simp only [State.mk.injEq, true_and, and_true]
    apply List.ext_getElem?
    intro n
    simp only [List.getElem?_map, List.getElem?_modify]
    by_cases hp : p = n <;> cases x.rings[n]? <;> simp [hp, hg]
  rw [key, key, e]

theorem begun_rings (opc : Nat) (h : Hdr) (s : State) : (begun opc h s).rings.map ringSettings = (heard h s).rings.map ringSettings :=
  congrArg State.rings (device_begun opc h s)

/-- A state that differs from one which heard the packet in the command being in flight only has the same device: a change
that leaves the rings alone may start from `heard` instead of `begun`. -/
theorem device_swap (opc : Nat) (h : Hdr) (s : State) {X Y : State} (hY : Y = { X with rings := (begun opc h s).rings }) (hX : X.rings = (heard h s).rings) :
    device Y = device X := by
  subst hY
  unfold device
  simp only [begun_rings, hX]

end Sys2Proof.Machine
end

