-- ==== Sys2Proof/Laws/Memory.lean ====
section
/-! SUPPORT. The memory of the image regions: every operation keeps the canonical form, a write is read back, and a write
leaves every other byte alone. -/

namespace Sys2Proof.Machine

theorem Memory.wfFrom_mono {lo lo' : Nat} (h : lo ≤ lo') : ∀ m : Memory, Memory.wfFrom lo' m = true → Memory.wfFrom lo m = true
  | [], _ => rfl
  | c :: cs, hm => by
    simp only [Memory.wfFrom, Bool.and_eq_true, decide_eq_true_eq] at hm ⊢
    exact ⟨⟨Nat.le_trans h hm.1.1, hm.1.2⟩, hm.2⟩

/-- A write into a memory that is canonical from `lo` on, at or above `lo`, keeps it so. -/
theorem Memory.write_wfFrom (v : Byte) (a : Nat) : ∀ (m : Memory) (lo : Nat), lo ≤ a → Memory.wfFrom lo m = true → Memory.wfFrom lo (Memory.write m a v) = true
  | [], lo, hlo, _ => by
    unfold Memory.write
    split
    · rfl
    · next h => simp [Memory.wfFrom, hlo, h]
  | c :: cs, lo, hlo, hm => by
    have hm' := hm
    simp only [Memory.wfFrom, Bool.and_eq_true, decide_eq_true_eq, bne_iff_ne, ne_eq] at hm
    unfold Memory.write
    by_cases h1 : a < c.1
    · simp only [h1, if_true]
      split
      · exact hm'
      · next h => simp [Memory.wfFrom, hlo, h, hm.1.2, hm.2, Nat.succ_le_of_lt h1]
    · by_cases h2 : a = c.1
      · simp only [h2, if_true, Nat.lt_irrefl, if_false]
        split
        · exact Memory.wfFrom_mono (by omega) cs hm.2
        · next h => simp [Memory.wfFrom, hm.1.1, h, hm.2]
      · simp only [h1, h2, if_false]
        have := Memory.write_wfFrom v a cs (c.1 + 1) (by omega) hm.2
        simp [Memory.wfFrom, hm.1.1, hm.1.2, this]

/-- A write keeps the canonical form. -/
theorem Memory.write_wf (m : Memory) (a : Nat) (v : Byte) (h : m.wf = true) : (m.write a v).wf = true :=
  Memory.write_wfFrom v a m 0 (Nat.zero_le a) h

/-- So does a write of several bytes. -/
theorem Memory.writeAll_wf : ∀ (vs : List Byte) (m : Memory) (a : Nat), m.wf = true → (Memory.writeAll m a vs).wf = true
  | [], _, _, h => h
  | v :: vs, m, a, h => Memory.writeAll_wf vs (m.write a v) (a + 1) (Memory.write_wf m a v h)

theorem Memory.read_nil (a : Nat) : Memory.read [] a = memDefault := rfl

theorem Memory.read_cons (c : Host.Cell) (cs : Memory) (a : Nat) : Memory.read (c :: cs) a = if c.1 = a then c.2 else Memory.read cs a := by
  unfold Memory.read
  by_cases h : c.1 = a <;> simp [List.find?_cons, h]

/-- Below a canonical memory everything is unlisted. -/
theorem Memory.read_below : ∀ (m : Memory) (lo a : Nat), a < lo → Memory.wfFrom lo m = true → m.read a = memDefault
  | [], _, _, _, _ => rfl
  | c :: cs, lo, a, h, hm => by
    simp only [Memory.wfFrom, Bool.and_eq_true, decide_eq_true_eq] at hm
    rw [Memory.read_cons, if_neg (by omega), Memory.read_below cs (c.1 + 1) a (by omega) hm.2]

theorem Memory.read_write_from (v : Byte) (a b : Nat) : ∀ (m : Memory) (lo : Nat), Memory.wfFrom lo m = true →
    (Memory.write m a v).read b = if b = a then v else m.read b
  | [], lo, _ => by
    unfold Memory.write
    by_cases hv : v = memDefault
    · simp [hv, Memory.read_nil]
    · by_cases hb : b = a
      · simp [hv, Memory.read_cons, hb]
      · simp [hv, Memory.read_cons, Memory.read_nil, hb, Ne.symm hb]
  | c :: cs, lo, hm => by
    simp only [Memory.wfFrom, Bool.and_eq_true, decide_eq_true_eq, bne_iff_ne, ne_eq] at hm
    unfold Memory.write
    by_cases h1 : a < c.1
    · simp only [h1, if_true]
      by_cases hv : v = memDefault
      · simp only [hv, if_true]
        by_cases hb : b = a
        · subst hb
          rw [if_pos rfl, Memory.read_cons, if_neg (by omega), Memory.read_below cs (c.1 + 1) b (by omega) hm.2]
        · rw [if_neg hb]
      · simp only [hv, if_false, Memory.read_cons]
        by_cases hb : b = a
        · simp [hb]
        · simp [hb, Ne.symm hb]
    · by_cases h2 : a = c.1
      · subst h2
        simp only [Nat.lt_irrefl, if_false, if_true]
        by_cases hb : b = c.1
        · subst hb
          by_cases hv : v = memDefault
          · rw [if_pos hv, if_pos rfl, hv, Memory.read_below cs (c.1 + 1) c.1 (by omega) hm.2]
          · rw [if_neg hv, Memory.read_cons]; simp
        · by_cases hv : v = memDefault
          · simp [hv, hb, Memory.read_cons, Ne.symm hb]
          · simp [hv, hb, Memory.read_cons, Ne.symm hb]
      · simp only [h1, h2, if_false, Memory.read_cons]
        rw [Memory.read_write_from v a b cs (c.1 + 1) hm.2]
        by_cases hc : c.1 = b
        · have : b ≠ a := fun h => h2 (h ▸ hc.symm)
          simp [hc, this]
        · simp [hc]

/-- A write is read back, and every other byte reads as before. -/
theorem Memory.read_write (m : Memory) (a b : Nat) (v : Byte) (h : m.wf = true) :
    (m.write a v).read b = if b = a then v else m.read b :=
  Memory.read_write_from v a b m 0 h

end Sys2Proof.Machine
end

