-- ==== Sys2Proof/WellFormed.lean ====
section
/-! DEFINITION. Which commands are well formed: every operand lies in the field that carries it, and every index names
something the block has (files 01-17). A meaning is total on every term; these are the terms that a sender can send. -/

namespace Sys2Proof

/-- An instant of Milestone time is 64 bits (R67). -/
def timeOk (t : Nat) : Bool := decide (t < 2 ^ 64)

/-- The header fields of R41's table. -/
def hdrOk (h : Hdr) : Bool :=
  decide (h.pair < 16) && decide (h.flg < 256) && decide (h.dom < 256) && decide (h.tag < 65536) && decide (h.seq < 2 ^ 32)
    && decide (h.tgt < 2 ^ 32) && decide (h.launch < 2 ^ 64) && timeOk h.t

/-- A payload of at most 4,048 bytes (R471). -/
def dataOk (d : List Byte) : Bool := decide (d.length ≤ 4048)

/-- A delivered packet: its fields, and as many ciphertext bytes as were delivered between header and tag. -/
def packetOk (p : Packet) : Bool :=
  decide (p.opc < 65536) && decide (p.flg < 256) && decide (p.dom < 256) && decide (p.tag < 65536) && decide (p.len < 65536)
    && decide (p.seq < 2 ^ 32) && decide (p.tgt < 2 ^ 32) && decide (p.launch < 2 ^ 64) && p.ct.length + 48 == p.size

/-- A HELLO (R379): a 32-byte nonce, a 97-byte and a 1,184-byte key. -/
def helloOk (m : Hello) : Bool :=
  decide (m.pair < 256) && decide (m.hsid < 2 ^ 32) && decide (m.dom < 256) && decide (m.nonce < 2 ^ 256)
    && decide (m.ephKey < 2 ^ 776) && decide (m.kemKey < 2 ^ 9472)

/-- A message of a unit link (R382). -/
def peerOk (m : PeerMsg) : Bool :=
  (m.pair == 0xFE || m.pair == 0xFF) && decide (m.car < 256) && decide (m.devid < 2 ^ 128) && decide (m.mac < 2 ^ 384)

/-- A CAN frame (R310): identifier by format, DLC by format, no more bytes than 64, no remote FD frame. -/
def frameOk (f : CanRx) : Bool :=
  decide (f.id < (if f.ext then 2 ^ 29 else 2048)) && decide (f.dlc ≤ (if f.fd then 15 else 8)) && decide (f.data.length ≤ 64)
    && !(f.fd && f.rtr) && (f.fd || !f.brs) && timeOk f.sof

/-- A CAN error (R302). -/
def canErrOk (e : CanErr) : Bool := decide (e.code < 256) && decide (e.tec < 512) && decide (e.recv < 512)

/-- A trunk frame as received (R147-R151): at most 512 slots, its addresses on 16 bits. -/
def trunkRxOk (f : TrunkRx) : Bool :=
  decide (f.trunk < 12) && decide (f.dirn < 2) && decide (f.port < 2) && decide (f.fseq < 65536) && decide (f.slots.length ≤ 512)
    && f.slots.all fun x => decide (x.addr < 65536) && decide (x.mstat < 65536)

/-- A car report (R99, R257): eight door states. -/
def reportOk (r : Report) : Bool :=
  decide (r.elem < 256) && decide (r.tbState < 256) && decide (r.tq < 256) && timeOk r.ts && decide (r.brk < 256) && decide (r.loadKg < 65536)
    && decide (r.lq < 256) && decide (r.doors.length ≤ 8) && decide (r.insp < 256)

/-- A hold message (R170). -/
def holdOk (m : HoldMsg) : Bool :=
  decide (m.pstate < 256) && decide (m.hseq < 65536) && timeOk m.issued && decide (m.action < 256) && timeOk m.act

/-- A permit record (R254). -/
def permitOk (r : PermitRec) : Bool :=
  decide (r.pseq < 65536) && decide (r.permit < 256) && decide (r.pflg < 256) && decide (r.landing < 65536) && timeOk r.issued

/-- A door request record (R258). -/
def requestOk (r : DoorReq) : Bool :=
  decide (r.rseq < 65536) && decide (r.dreq < 256) && decide (r.dflg < 256) && decide (r.width < 2 ^ 32) && decide (r.dwell < 65536) && timeOk r.act

/-- A terminal call (R221). -/
def callOk (c : TermCall) : Bool :=
  decide (c.kind < 2) && decide (c.chan < 6) && decide (c.id < 2 ^ 32) && decide (c.treq < 65536) && decide (c.frm < 65536)
    && decide (c.dst < 65536) && decide (c.pax < 256) && decide (c.cflags < 256)

/-- A replication image (R349): the header's fields. -/
def imageOk (i : PairImg) : Bool :=
  decide (i.iseq < 2 ^ 32) && decide (i.ticks < 2 ^ 32) && timeOk i.bound && decide (i.cfgCrc < 2 ^ 32) && decide (i.tbst < 256)
    && decide (i.iflg < 256) && decide (i.ilen < 65536) && decide (i.pstate < 256)

/-- A walk of a trunk (R158). -/
def walkOk (w : TrunkWalk) : Bool := decide (w.trunk < 12) && decide (w.fromA.length ≤ 512) && decide (w.fromB.length ≤ 512)

/-- The commands a sender can send. -/
def Instr.wf : Instr → Bool
  | .protectSet h data => hdrOk h && dataOk data
  | .protectGet h data => hdrOk h && dataOk data
  | .ringAssign h data => hdrOk h && dataOk data
  | .eventRoute h data => hdrOk h && dataOk data
  | .circuitEnable h data => hdrOk h && dataOk data
  | .circuitDisable h data => hdrOk h && dataOk data
  | .checkReport h data => hdrOk h && dataOk data
  | .timeStatus h data => hdrOk h && dataOk data
  | .timeConfig h data => hdrOk h && dataOk data
  | .timeSet h data => hdrOk h && dataOk data
  | .milestoneCancel h data => hdrOk h && dataOk data
  | .configWrite h data => hdrOk h && dataOk data
  | .positionRead h data => hdrOk h && dataOk data
  | .learnStart h data => hdrOk h && dataOk data
  | .reanchor h data => hdrOk h && dataOk data
  | .moveTo h data => hdrOk h && dataOk data
  | .moveStop h data => hdrOk h && dataOk data
  | .motionRead h data => hdrOk h && dataOk data
  | .trunkEnumerate h data => hdrOk h && dataOk data
  | .trunkMap h data => hdrOk h && dataOk data
  | .trunkStatus h data => hdrOk h && dataOk data
  | .segmentRead h data => hdrOk h && dataOk data
  | .segmentService h data => hdrOk h && dataOk data
  | .loopStatus h data => hdrOk h && dataOk data
  | .bankLoad h data => hdrOk h && dataOk data
  | .bankSwap h data => hdrOk h && dataOk data
  | .injectStart h data => hdrOk h && dataOk data
  | .injectStop h data => hdrOk h && dataOk data
  | .captureArm h data => hdrOk h && dataOk data
  | .captureRead h data => hdrOk h && dataOk data
  | .loopAck h data => hdrOk h && dataOk data
  | .authRead h data => hdrOk h && dataOk data
  | .authCar h data => hdrOk h && dataOk data
  | .authClose h data => hdrOk h && dataOk data
  | .callSubmit h data => hdrOk h && dataOk data
  | .callCancel h data => hdrOk h && dataOk data
  | .callRead h data => hdrOk h && dataOk data
  | .carService h data => hdrOk h && dataOk data
  | .tripEval h data => hdrOk h && dataOk data
  | .doorOpen h data => hdrOk h && dataOk data
  | .doorClose h data => hdrOk h && dataOk data
  | .doorHome h data => hdrOk h && dataOk data
  | .doorStatus h data => hdrOk h && dataOk data
  | .safetyStatus h data => hdrOk h && dataOk data
  | .safetyReset h data => hdrOk h && dataOk data
  | .safetyTest h data => hdrOk h && dataOk data
  | .fieldStatus h data => hdrOk h && dataOk data
  | .fieldOutWrite h data => hdrOk h && dataOk data
  | .fieldOutAck h data => hdrOk h && dataOk data
  | .canStatus h data => hdrOk h && dataOk data
  | .canSend h data => hdrOk h && dataOk data
  | .canRead h data => hdrOk h && dataOk data
  | .canTake h data => hdrOk h && dataOk data
  | .canPower h data => hdrOk h && dataOk data
  | .energyRead h data => hdrOk h && dataOk data
  | .supplyRead h data => hdrOk h && dataOk data
  | .pairStatus h data => hdrOk h && dataOk data
  | .pairProve h data => hdrOk h && dataOk data
  | .attestQuote h data => hdrOk h && dataOk data
  | .identityRead h data => hdrOk h && dataOk data
  | .vaultStatus h data => hdrOk h && dataOk data
  | .provision h data => hdrOk h && dataOk data
  | .keyUpdate h data => hdrOk h && dataOk data
  | .keyOp h data => hdrOk h && dataOk data
  | .sessionRekey h data => hdrOk h && dataOk data
  | .sessionClose h data => hdrOk h && dataOk data
  | .ledgerSnapshot h data => hdrOk h && dataOk data
  | .ledgerRead h data => hdrOk h && dataOk data
  | .ledgerHead h data => hdrOk h && dataOk data
  | .ledgerClear h data => hdrOk h && dataOk data
  | .journalRead h data => hdrOk h && dataOk data
  | .sysReset h data => hdrOk h && dataOk data
  | .powerSet h data => hdrOk h && dataOk data
  | .startStatus h data => hdrOk h && dataOk data
  | .imageWrite h data => hdrOk h && dataOk data
  | .imageActivate h data => hdrOk h && dataOk data
  | .imageCommit h data => hdrOk h && dataOk data
  | .sqPi t pair value pkts _ _ => timeOk t && decide (pair < 16) && decide (value < 2 ^ 32) && pkts.all packetOk
  | .eqCi t pair value => timeOk t && decide (pair < 16) && decide (value < 2 ^ 32)
  | .ringCfg t pair _ => timeOk t && decide (pair < 16)
  | .ringErr t pair _ => timeOk t && decide (pair < 16)
  | .bootFault t _ => timeOk t
  | .registerWrite t offset _ => timeOk t && decide (offset < 2 ^ 32)
  | .windowRead t offset => timeOk t && decide (offset < 2 ^ 32)
  | .sqWrite t pair pkt => timeOk t && decide (pair < 16) && packetOk pkt
  | .eqRead t pair nbytes => timeOk t && decide (pair < 16) && decide (nbytes < 8192)
  | .ethernetPacket t pair pkt => timeOk t && decide (pair < 16) && packetOk pkt
  | .hello t _ msg => timeOk t && helloOk msg
  | .finish t pair hsid _ sigE sigQ mac => timeOk t && decide (pair < 256) && decide (hsid < 2 ^ 32) && decide (sigE < 2 ^ 768) && decide (sigQ < 2 ^ 26472) && decide (mac < 2 ^ 384)
  | .handshakeTimeout t pair => timeOk t && decide (pair < 256)
  | .handshakeFragmentRead t pair => timeOk t && decide (pair < 256)
  | .imageRecoveryWrite t offset data => timeOk t && decide (offset < 2 ^ 32) && decide (data.length ≤ 4186112)
  | .eqHeldFull t pair => timeOk t && decide (pair < 16)
  | .tick adc => adc.all (fun x => decide (x.natAbs < 8388608))
  | .fastTick => true
  | .protectTableStored t _ => timeOk t
  | .frameStart => true
  | .trunkFrameReceived t fr => timeOk t && trunkRxOk fr
  | .launch => true
  | .deviceMilestone => true
  | .brkliftTimeout t car => timeOk t && decide (car < 24)
  | .brkengTimeout t car => timeOk t && decide (car < 24)
  | .carReport t car rep => timeOk t && decide (car < 24) && reportOk rep
  | .carReportTimeout t car => timeOk t && decide (car < 24)
  | .tapeLost t car => timeOk t && decide (car < 24)
  | .sourceDisagreeing t car _ => timeOk t && decide (car < 24)
  | .holdMessage t msg => timeOk t && holdOk msg
  | .holdtoLapse t => timeOk t
  | .permitRecord t rec => timeOk t && permitOk rec
  | .doorRequestRecord t rec => timeOk t && requestOk rec
  | .permitTimeout t door => timeOk t && decide (door < 8)
  | .redwellExpiry t door => timeOk t && decide (door < 8)
  | .reopwaitTimeout t door => timeOk t && decide (door < 8)
  | .lcholdExpiry t door => timeOk t && decide (door < 8)
  | .dwellExpiry t door => timeOk t && decide (door < 8)
  | .stepLoss t axis => timeOk t && decide (axis < 4)
  | .regulationFailure t axis => timeOk t && decide (axis < 4)
  | .chopperExit t axis => timeOk t && decide (axis < 4)
  | .cltimeTimeout t door => timeOk t && decide (door < 8)
  | .homingTravelFault t axis => timeOk t && decide (axis < 4)
  | .stepInputOverrun t axis => timeOk t && decide (axis < 4)
  | .saturationTrip t ch => timeOk t && decide (ch < 96)
  | .plausibilityTrip t ch => timeOk t && decide (ch < 96)
  | .injectionEnd t ch => timeOk t && decide (ch < 96)
  | .captureComplete t buf => timeOk t && decide (buf < 8)
  | .agingReached t car => timeOk t && decide (car < 24)
  | .booksRebuild t => timeOk t
  | .waitmaxExpiry t car => timeOk t && decide (car < 24)
  | .learnRunEnd t => timeOk t
  | .enumerationEnd t walks => timeOk t && walks.all walkOk
  | .terminalCall t call => timeOk t && callOk call
  | .callDeadline t id => timeOk t && decide (id < 2 ^ 32)
  | .reeval t => timeOk t
  | .callidRelease t id => timeOk t && decide (id < 2 ^ 32)
  | .safetyInputDemand t si width => timeOk t && decide (si < 16) && decide (width < 2 ^ 32)
  | .discrepancy t pair => timeOk t && decide (pair < 8)
  | .lockstepMismatch t => timeOk t
  | .watchdogExpiry t => timeOk t
  | .clockFault t => timeOk t
  | .uncorrectableError t _ word => timeOk t && decide (word < 2 ^ 20)
  | .dieLinkLoss t die => timeOk t && decide (die < 2)
  | .tripIn t => timeOk t
  | .periodicTest t => timeOk t
  | .selfTestEnd t failA failB => timeOk t && decide (failA < 65536) && decide (failB < 65536)
  | .soReadbackFault t so => timeOk t && decide (so < 8)
  | .fieldInputTransition t fi _ => timeOk t && decide (fi < 64)
  | .supplyGroupDrop t grp mv10 => timeOk t && decide (grp < 4) && decide (mv10 < 65536)
  | .supplyGroupRestore t grp mv10 => timeOk t && decide (grp < 4) && decide (mv10 < 65536)
  | .readbackFault t fq => timeOk t && decide (fq < 32)
  | .thermalLatch t fq => timeOk t && decide (fq < 32)
  | .keepAlive t die _ => timeOk t && decide (die < 2)
  | .watchdogRelease t die => timeOk t && decide (die < 2)
  | .canFrameReceived t ch fr => timeOk t && decide (ch < 6) && frameOk fr
  | .backoffExpiry t ch id => timeOk t && decide (ch < 6) && decide (id < 2 ^ 32)
  | .canTransmitDone t ch sof tries => timeOk t && decide (ch < 6) && decide (sof < 2 ^ 64) && decide (tries < 65536)
  | .canExpire t ch id => timeOk t && decide (ch < 6) && decide (id < 2 ^ 32)
  | .busOff t ch => timeOk t && decide (ch < 6)
  | .busOffRecovery t ch => timeOk t && decide (ch < 6)
  | .verifytExpiry t ch => timeOk t && decide (ch < 6)
  | .detwaitExpiry t ch => timeOk t && decide (ch < 6)
  | .rateMismatch t ch detbit => timeOk t && decide (ch < 6) && decide (detbit < 65536)
  | .sleepEntry t ch => timeOk t && decide (ch < 6)
  | .canWake t ch fr => timeOk t && decide (ch < 6) && fr.all frameOk
  | .referenceDue t ch => timeOk t && decide (ch < 6)
  | .ptpSync t _ pathDly _ => timeOk t && decide (pathDly < 2 ^ 32)
  | .syncLoss t => timeOk t
  | .holdoverLimit t => timeOk t
  | .cycleEnd t => timeOk t
  | .halfCycle t => timeOk t
  | .sagholdExpiry t => timeOk t
  | .brownOutWarning t => timeOk t
  | .pulseOutput t ep => timeOk t && decide (ep < 2)
  | .meterPulse t mp => timeOk t && decide (mp < 2)
  | .cmpwinExpiry t mp => timeOk t && decide (mp < 2)
  | .pairImage t img => timeOk t && imageOk img
  | .heartbeatLoss t => timeOk t
  | .pairLinkLoss t => timeOk t
  | .syncComplete t => timeOk t
  | .pennantHoldExpiry t => timeOk t
  | .pennantClaim t => timeOk t
  | .pennantLineFault t => timeOk t
  | .hotTake t => timeOk t
  | .coldTake t => timeOk t
  | .proveTakeTimeout t => timeOk t
  | .provewarnReached t => timeOk t
  | .tamperDetected t sensor => timeOk t && decide (sensor < 256)
  | .batteryLoss t => timeOk t
  | .powerGood t => timeOk t
  | .rstN t _ => timeOk t
  | .resetRelease t _ => timeOk t
  | .supplyOutOfRange t => timeOk t
  | .perstN t => timeOk t
  | .vaultCheckComplete t _ => timeOk t
  | .imageChosen t _ => timeOk t
  | .stage3Complete t walks => timeOk t && walks.all walkOk
  | .stage5Entry t => timeOk t
  | .stage5Ready t => timeOk t
  | .deadlinePassed t => timeOk t
  | .commandedReset t => timeOk t
  | .idleEntry t => timeOk t
  | .wake t src => timeOk t && decide (src < 256)
  | .enableCheckComplete t => timeOk t
  | .pwmPeriod t currents => timeOk t && decide (currents.length ≤ 8)
  | .configStoreWritten t _ => timeOk t
  | .keyOpComplete t => timeOk t
  | .tripEvalComplete t => timeOk t
  | .tripEvalTimeout t => timeOk t
  | .safetyResetTimeout t => timeOk t
  | .msixModerationExpiry t vec => timeOk t && decide (vec < 32)
  | .canBusError t ch err => timeOk t && decide (ch < 6) && canErrOk err
  | .ptpAnnounce t _ => timeOk t
  | .clockFaultClear t => timeOk t
  | .dieLinkRestore t die => timeOk t && decide (die < 2)
  | .safetyInputPermit t si => timeOk t && decide (si < 16)
  | .tripInRelease t => timeOk t
  | .heartbeatRestore t => timeOk t
  | .pairImageAck t st _ _ => timeOk t && decide (st < 256)
  | .pntInRise t => timeOk t
  | .handshakeReply t msg => timeOk t && peerOk msg
  | .powerLoss t => timeOk t
  | .staletExpiry t ch idx => timeOk t && decide (ch < 6) && decide (idx < 8192)
  | .trngHealthFailure t => timeOk t

end Sys2Proof
end

