-- ==== Sys2Proof/Tests/Slice0.lean ====
section
/-! SUPPORT. Small tests: ill-formed terms that WellFormed refuses, values from the manual, and for each statement a concrete
state and operands that meet its hypotheses, clause by clause. -/

open Sys2Proof Sys2Proof.Machine Sys2Proof.Safety

namespace Sys2Proof.Tests

set_option Elab.async false

/-! ## Deciding that a packet is admitted -/

def hearsB (k : Card) (u : State) (h : Hdr) : Bool :=
  match (u.ring h.pair).sess, u.power.pend with
  | some se, none => u.power.mode != .sleep && (se.tr != .pcie || (u.ring h.pair).en)
      && (!(u.ring h.pair).rekeyOnly || rekeyOpc k.opc) && ((u.ring h.pair).held.all fun x => !x.rekeys) && h.seq == (u.ring h.pair).rxSeq
  | _, _ => false

theorem hears_of {k : Card} {u : State} {h : Hdr} (hb : hearsB k u h = true) : ∃ se, Hears k u h se := by
  unfold hearsB at hb
  split at hb
  · rename_i se h1 h2
    simp only [Bool.and_eq_true, bne_iff_ne, ne_eq, Bool.or_eq_true, Bool.not_eq_true', List.all_eq_true, beq_iff_eq] at hb
    obtain ⟨⟨⟨⟨a, b⟩, c⟩, d⟩, e⟩ := hb
    refine ⟨se, a, by simp [h2], h1, ?_, ?_, d, e⟩
    · intro ht; rcases b with b | b
      · exact absurd ht b
      · exact b
    · intro hr; rcases c with c | c
      · simp [hr] at c
      · exact c
  · cases hb

def sessOf (s : State) (h : Hdr) : Session := ((s.advance h.t).ring h.pair).sess.getD {}

def admitsB (d : CardDef) (s : State) (h : Hdr) (data : List Byte) : Bool :=
  hearsB d.k (s.advance h.t) h && (packetChecks d.k (d.lenOk data) (s.advance h.t) h (sessOf s h)).all (·.1)

/-- The packet of a card meets the conditions of R57. -/
def Passes (d : CardDef) (s : State) (h : Hdr) (data : List Byte) : Prop := ∃ se, Admits d.k (d.lenOk data) (s.advance h.t) h se

theorem admits_of {d : CardDef} {s : State} {h : Hdr} {data : List Byte} (hb : admitsB d s h data = true) :
    Passes d s h data := by
  simp only [admitsB, Bool.and_eq_true] at hb
  obtain ⟨b, c⟩ := hb
  obtain ⟨se, hh⟩ := hears_of b
  have hs : sessOf s h = se := by simp [sessOf, hh.sess]
  rw [hs] at c
  simp only [packetChecks, List.all_cons, List.all_nil, Bool.and_eq_true, beq_iff_eq, decide_eq_true_eq, List.all_eq_true, bne_iff_ne, ne_eq,
    Bool.or_eq_true, Bool.not_eq_true', and_true] at c
  obtain ⟨⟨c1, c2⟩, c3, c4, c5, c6, c7, c8, c9, c10, c11, c12, c13, c14, c15, c16⟩ := c
  refine ⟨se, ⟨hh.awake, hh.noEntry, hh.sess, hh.reads, hh.limit, hh.epoch, hh.seq, c1, c2, c3, c4, c5, c6, c7, c8, c9, c10, c11, c12,
    ?_, ?_, c15, ?_⟩⟩
  · intro hp; rcases c13 with x | x
    · simp [hp] at x
    · exact x
  · rcases c14 with (x | x) | x
    · exact .inl x
    · exact .inr (.inl x)
    · exact .inr (.inr x)
  · intro he; rcases c16 with x | x
    · simp [he] at x
    · exact x

theorem comes_of {d : CardDef} {s : State} {h : Hdr} {data : List Byte} (hl : h.launch = 0) (hb : admitsB d s h data = true) : Comes d s h data :=
  ⟨hl, admits_of hb⟩

def admittedB (d : CardDef) (s : State) (h : Hdr) (data : List Byte) : Bool :=
  h.launch == 0 && admitsB d s h data && (d.own (taking h s) (tagOf d.k.opc h s) data).isNone

theorem admitted_of {d : CardDef} {s : State} {h : Hdr} {data : List Byte} (hb : admittedB d s h data = true) : Admitted d s h data := by
  simp only [admittedB, Bool.and_eq_true, Option.isNone_iff_eq_none, beq_iff_eq] at hb
  exact ⟨comes_of hb.1.1 hb.1.2, hb.2⟩

theorem all_admitted {l : List (CardDef × State × Hdr × List Byte)} (hl : (l.all fun x => admittedB x.1 x.2.1 x.2.2.1 x.2.2.2) = true) :
    ∀ x ∈ l, Admitted x.1 x.2.1 x.2.2.1 x.2.2.2 := fun x hx => admitted_of (List.all_eq_true.1 hl x hx)
/-- A host's session on ring pair 0 over SPI, for domain 0. -/
def demoRing : Ring := { quota := 16, owner := some 0, sess := some { tr := .spi } }

/-- A LANE installation: lane 0 with one block and one segment, car 0, trunk 0, CAN channel 0 with a transmit object, a
control channel on the car, and a point on output 0. -/
def laneCfg : List (Nat × List Byte) := [
  (0x0002, [1, 0, 0, 0, 0, 0x81, 0, 0]),
  (0x0200, zeros 2 ++ le 2 1 ++ le 4 10000000 ++ le 4 0 ++ le 4 10000000 ++ zeros 8),
  (0x0203, zeros 4 ++ le 4 0 ++ le 4 10000000),
  (0x0204, zeros 4 ++ le 4 0 ++ le 4 1000000 ++ le 2 1 ++ le 2 1000),
  (0x0206, zeros 28 ++ le 4 2000000 ++ zeros 16),
  (0x0300, zeros 4 ++ le 4 2000000 ++ le 4 1000000 ++ le 4 1000000 ++ le 4 1000000 ++ le 4 1000000 ++ le 4 1000000 ++ le 4 300000 ++ le 4 1000000),
  (0x0310, [0, 1] ++ zeros 2 ++ le 4 1000 ++ zeros 8),
  (0x0400, zeros 4 ++ le 4 (tgtOf 8 0) ++ zeros 56),
  (0x0900, [0, 1] ++ Cfg.CanCh.dflt.drop 2),
  (0x0902, zeros 4 ++ le 4 5 ++ zeros 4)]

def lane : State := { State.reset with
  boot := { State.reset.boot with stage := 6, role := .lane, powerGood := true, held := false }
  power := { mode := .run }
  rings := State.reset.rings.set 0 demoRing
  prot := { entries := [⟨0, 0xFFFF, 0xFFFF, 0⟩, ⟨1, 0xFFFF, 0xFFFF, 0⟩, ⟨2, 0xFFFF, 0xFFFF, 0⟩] }
  cfg := { a := laneCfg, b := laneCfg }
  cars := State.reset.cars.set 0 { pos := { trust := 3, pQ := 5000000 * oneQ }, plan := { pQ := 5000000 * oneQ }, rep := some (⟨0, 0, 2, 0, 0, 0, 3, 0, 0, [], 0⟩, 0) }
  safe := { State.reset.safe with latch := false, selfOk := true, tested := true } }

def lane5 : State := { lane with boot := { lane.boot with stage := 5 } }

/-- A packet for a target. -/
def pk (tgt : Nat) : Hdr := ⟨0, 0, 0, 7, 1, tgt, 0, 1000⟩
def car0 : Hdr := pk (tgtOf 8 0)
def inst : Hdr := pk (tgtOf 1 0)
def dev : Hdr := pk 0

/-- A CAR device of car 0 with one door of one axis, homed, standing closed. -/
def carCfg : List (Nat × List Byte) := [
  (0x0206, zeros 28 ++ le 4 2000000 ++ zeros 16),
  (0x0301, [0, 0] ++ le 2 1 ++ le 4 500000 ++ le 4 1000000 ++ le 4 1000000 ++ zeros 4),
  (0x0600, zeros 4 ++ le 4 800000 ++ Cfg.DoorAxis.dflt.drop 8),
  (0x0601, [0, 1] ++ Cfg.DoorCfg.dflt.drop 2),
  (0x0700, [0, 0, 0, 1] ++ Cfg.SafePair.dflt.drop 4)]

def carS : State := { lane with
  boot := { lane.boot with role := .car }
  cfg := { a := carCfg, b := carCfg }
  axes := lane.axes.set 0 { homed := true }
  crole := { applied := true, swApplied := true } }

def grp0 : Hdr := pk (tgtOf 10 0)
def axis0 : Hdr := pk (tgtOf 9 0)

/-- Domain 2 in stage 5. -/
def lane2 : State := { lane5 with rings := lane5.rings.set 0 { demoRing with owner := some 2, sess := some { tr := .spi, dom := 2 } } }

/-! ## Witnesses: the queue, the rings, acceptance -/

theorem witness_AnEmptyQueueIdlesOneEdge : (State.reset.pending = [] ∧ State.reset.boot.stage = 0)
    ∧ (lane.pending = [] ∧ lane.boot.stage ≠ 0 ∧ lane.time.freqAdj = 0 ∧ ∃ t, step lane = .next t) :=
  ⟨by decide +kernel, by decide +kernel, by decide +kernel, by decide +kernel, _, rfl⟩

theorem witness_StepKeepsEveryPairServed : AllServed lane ∧ ∃ s', step lane = .next s' := ⟨by unfold AllServed; decide +kernel, _, rfl⟩

theorem witness_ImageMemoriesKeepTheirForm : ImagesWf lane
    ∧ (∃ t, exec (.imageWrite dev []) lane = .next t) ∧ (∃ t, exec (.imageActivate dev []) lane = .next t)
    ∧ (∃ t, exec (.imageCommit dev []) lane = .next t) ∧ (∃ t, exec (.imageRecoveryWrite 0 0 []) lane = .next t) :=
  ⟨by unfold ImagesWf; decide +kernel, ⟨_, rfl⟩, ⟨_, rfl⟩, ⟨_, rfl⟩, ⟨_, rfl⟩⟩

/-- A tag above 0x00FF fails the second check. -/
theorem witness_TheFirstFailingCheckRefuses : cardOf (.protectGet { dev with tag := 256 } (zeros 4)) = some (protectGetCard, { dev with tag := 256 }, zeros 4)
    ∧ (∃ se, Hears protectGetCard.k (lane.advance 1000) { dev with tag := 256 } se)
    ∧ (packetChecks protectGetCard.k true (lane.advance 1000) { dev with tag := 256 } { tr := .spi }).map (·.1) = true :: false :: List.replicate 13 true :=
  ⟨rfl, hears_of (by decide +kernel), by decide +kernel⟩

theorem witness_OwnChecksRefuse : Comes circuitEnableCard lane inst (zeros 8)
    ∧ circuitEnableCard.own (taking inst lane) (tagOf 0x2001 inst lane) (zeros 8) = some (0x2001, []) :=
  ⟨comes_of rfl (by decide +kernel), by decide +kernel⟩

/-- A packet with a launch time. -/
def later (h : Hdr) (x : Nat) : Hdr := { h with launch := x }

def laneFree : State := { lane with time := { lane.time with tb := .free } }

def frame5 : List Byte := [0, 0, 0, 0, 5] ++ zeros 7

theorem witness_LaunchTimesAreChecked :
    (Passes canSendCard lane (later dev 999) frame5 ∧ 999 < (lane.advance 1000).time.now)
    ∧ (Passes canSendCard lane (later dev 86400000001001) frame5 ∧ (lane.advance 1000).time.now + 86400 * 10 ^ 9 < 86400000001001)
    ∧ (Passes protectGetCard lane (later dev 86400000001000) (zeros 4)
      ∧ (86400000001000 : Nat) ≤ (lane.advance 1000).time.now + 86400 * 10 ^ 9 ∧ protectGetCard.k.lead = none)
    ∧ (Passes canSendCard lane (later dev 1000) frame5 ∧ (lane.advance 1000).time.now ≤ 1000 ∧ canSendCard.k.lead ≠ none
      ∧ (lane.advance 1000).time.tb = .unset) :=
  ⟨⟨admits_of (by decide +kernel), by decide +kernel⟩, ⟨admits_of (by decide +kernel), by decide +kernel⟩,
    ⟨admits_of (by decide +kernel), by decide +kernel⟩, ⟨admits_of (by decide +kernel), by decide +kernel⟩⟩

theorem witness_LaunchedCommandsWaitOrAreLate : ∀ x ∈ [250999, 251000], Passes canSendCard laneFree (later dev x) frame5
    ∧ canSendCard.own (taking (later dev x) laneFree) (tagOf 0x9002 (later dev x) laneFree) frame5 = none
    ∧ canSendCard.k.lead = some 250000 ∧ (laneFree.advance 1000).time.tb ≠ .unset ∧ (laneFree.advance 1000).time.now ≤ x
    ∧ (x - (laneFree.advance 1000).time.now < 250000 ↔ x = 250999) := by
  intro x hx
  simp only [List.mem_cons, List.not_mem_nil, or_false] at hx
  rcases hx with rfl | rfl <;> exact ⟨admits_of (by decide +kernel), by decide +kernel⟩

def onRing (s : State) (r : Ring) : State := { s with rings := s.rings.set 0 r }

/-- The states in which a packet of SEQ 2 meets the six clauses: no session; a PCIe pair not read; a rekey-only pair; the
wrong SEQ over SPI; over Ethernet, one accepted before and one that was not. -/
theorem witness_PacketsOutOfSequence : lane.power.pend = none ∧ (lane.advance 0).power.mode ≠ .sleep
    ∧ ((onRing lane {}).ring 0).sess = none
    ∧ (let r := (onRing lane { sess := some { tr := .pcie } }).ring 0; r.sess = some { tr := .pcie } ∧ r.en = false)
    ∧ (let r := (onRing lane { demoRing with rxSeq := 0xFFFFFFF0 }).ring 0; r.sess = some { tr := .spi } ∧ r.rekeyOnly = true ∧ rekeyOpc 0x0102 = false)
    ∧ (let r := (onRing lane demoRing).ring 0; r.sess = some { tr := .spi } ∧ r.rekeyOnly = false ∧ 2 ≠ r.rxSeq)
    ∧ (let r := (onRing lane { demoRing with sess := some { tr := .ethernet }, rxSeq := 3, recent := [(2, some { opc := 0x0102 })] }).ring 0
       r.rekeyOnly = false ∧ 2 ≠ r.rxSeq ∧ (r.recent.any fun p => p.1 == 2) = true)
    ∧ (let r := (onRing lane { demoRing with sess := some { tr := .ethernet }, rxSeq := 3 }).ring 0
       r.rekeyOnly = false ∧ 2 ≠ r.rxSeq ∧ (r.recent.any fun p => p.1 == 2) = false) := by decide +kernel

theorem witness_TagAndCreditRefusals :
    (∃ se, Hears protectGetCard.k (lane.advance 1000) dev se) ∧ (lane.ring 0).ownerFor { tr := .spi } = some dev.dom
    ∧ (256 : Nat) > 0xFF ∧ (∃ x ∈ ((onRing lane { demoRing with tags := [{ tag := 7 }] }).ring 0).tags, x.tag = dev.tag)
    ∧ ((onRing lane { demoRing with quota := 1, tags := [{ tag := 8 }] }).ring 0).quota - 1 = 0 :=
  ⟨hears_of (by decide +kernel), by decide +kernel, by decide, ⟨_, List.mem_singleton.2 rfl, rfl⟩, by decide +kernel⟩

/-- A source whose flag is clear, one whose record waits, and one that is not enabled. -/
def evState (e : EvSrc) (x : List Rec) : State := { lane with ev := { src := State.reset.ev.src.set 5 e }, rings := lane.rings.set 0 { demoRing with held := x } }

theorem witness_AnEventSourceFires :
    (let s := evState { enabled := true } []; (s.ev.src.getD 5 {}).enabled = true ∧ (s.ev.src.getD 5 {}).flag = false ∧ 0 < s.rings.length)
    ∧ (let s := evState { enabled := true, flag := true } [{ src := some 5 }]; (s.ev.src.getD 5 {}).flag = true ∧ (s.ring 0).waits 5 = true)
    ∧ (let s := evState {} []; (s.ev.src.getD 5 {}).enabled = false ∧ (s.ev.src.getD 5 {}).flag = false) := by decide +kernel

theorem witness_SpiReadsAreWholeOrLeaveTheRecord :
    (let r := (onRing lane { demoRing with placed := [{}] }).ring 0; r.sess = some { tr := .spi } ∧ r.placed = {} :: []) := by decide +kernel

def cancel (dom : Nat) : Hdr := { dev with dom := dom }
def laneCancel (q : List Launch) : State := { lane with launchQ := q }

theorem witness_CancelsFollowR91 :
    (Comes milestoneCancelCard (onRing lane { demoRing with owner := some 1, sess := some { tr := .spi, dom := 1 } }) (cancel 1) [1, 0, 0, 0]
      ∧ rd [1, 0, 0, 0] 0 1 ≠ (cancel 1).pair ∧ (cancel 1).dom ≠ 0)
    ∧ (Comes milestoneCancelCard lane dev [0, 0, 9, 0] ∧ (heard dev lane).waiting 0 9 = none)
    ∧ (∀ x ∈ [2999, 3000], Comes milestoneCancelCard (laneCancel [{ tag := { tag := 9, edge := x } }]) dev [0, 0, 9, 0]
        ∧ ((heard dev (laneCancel [{ tag := { tag := 9, edge := x } }])).waiting 0 9).isSome = true
        ∧ (x < (heard dev lane).time.now + 2000 ↔ x = 2999)) :=
  ⟨⟨comes_of rfl (by decide +kernel), by decide +kernel⟩, ⟨comes_of rfl (by decide +kernel), by decide +kernel⟩, by
    intro x hx
    simp only [List.mem_cons, List.not_mem_nil, or_false] at hx
    rcases hx with rfl | rfl <;> exact ⟨comes_of rfl (by decide +kernel), by decide +kernel, by decide +kernel⟩⟩

/-! ## Witnesses: the cards -/

theorem witness_QueriesAnswer : ∀ x ∈ [
      (protectGetCard, lane, dev, zeros 4), (startStatusCard, lane, dev, []), (checkReportCard, lane, inst, zeros 4), (positionReadCard, lane, car0, []),
      (motionReadCard, lane, car0, []), (trunkMapCard, lane, inst, zeros 4), (segmentReadCard, lane, pk (tgtOf 5 0), []), (loopStatusCard, lane, car0, zeros 4),
      (captureReadCard, { lane with caps := [{ st := 3, node := tgtOf 8 0 }] }, car0, zeros 8 ++ [1] ++ zeros 3), (authReadCard, lane, inst, [0, 0, 1, 0]),
      (authCarCard, lane, car0, []), (callReadCard, lane, inst, [0, 0, 1, 0]), (doorStatusCard, carS, grp0, []), (safetyStatusCard, lane, dev, []),
      (canStatusCard, lane, dev, zeros 4), (canReadCard, lane, dev, [0, 0, 0, 0, 1, 0, 0, 0]),
      (energyReadCard, { lane with meter := { lane.meter with restored := true } }, inst, []), (supplyReadCard, lane, inst, []), (vaultStatusCard, lane, dev, []),
      (ledgerSnapshotCard, lane, dev, []), (ledgerReadCard, { lane with led := { recs := [({}, zeros 16)] } }, dev, zeros 8 ++ [1] ++ zeros 3),
      (pairStatusCard, lane, dev, []), (trunkStatusCard, lane, inst, zeros 4), (fieldStatusCard, lane, dev, [])],
    Admitted x.1 x.2.1 x.2.2.1 x.2.2.2 := all_admitted (by decide +kernel)

theorem length_le (n : Nat) : ∀ x, (le n x).length = n := by
  induction n with
  | zero => intro x; rfl
  | succ n ih => intro x; simp [le, ih]

theorem ownNone : firstOf [refuseIf false 0xFF07, refuseIf false 0xC061] = none := by decide +kernel

/-- IDENTITY_READ of the ID public keys, whose 2,049 bytes stand uninterpreted: for the statement that covers it. -/
theorem witness_IdentityRead : Admitted identityReadCard lane dev (zeros 6) := by
  have h (s : State) : (s.identity 0).length = 2049 := by unfold State.identity idKeys; exact length_le 2049 _
  have own (s : State) (tr : TagRec) : identityReadOwn s tr (zeros 6) = none := by
    have e : rd (zeros 6) 0 1 = 0 := by decide +kernel
    have b : rd (zeros 6) 2 2 = 0 := by decide +kernel
    unfold identityReadOwn
    rw [e, b, h, show decide (2049 ≤ 0) = false by decide, show decide (2 < 0) = false by decide]
    exact ownNone
  refine ⟨comes_of rfl (by decide +kernel), ?_⟩
  rw [show identityReadCard.own = identityReadOwn from rfl]
  exact own _ _

theorem witness_ProtectionCards : ∀ x ∈ [(protectSetCard, lane, dev, [0, 0, 0, 0, 1] ++ zeros 7), (protectGetCard, lane, dev, zeros 4)],
    Admitted x.1 x.2.1 x.2.2.1 x.2.2.2 := all_admitted (by decide +kernel)

theorem witness_RingAndRouteCards : (∀ x ∈ [
      (ringAssignCard, lane, dev, [1, 255, 4, 0]), (ringAssignCard, lane, dev, [1, 3, 4, 0]), (eventRouteCard, lane, dev, [5, 0, 255, 128, 0, 0, 0, 0])],
      Admitted x.1 x.2.1 x.2.2.1 x.2.2.2)
    ∧ ((taking dev lane).ring 1).owner = ownerField 255 ∧ ((taking dev lane).ring 1).owner ≠ ownerField 3 ∧ 1 < lane.rings.length :=
  ⟨all_admitted (by decide +kernel), by decide +kernel⟩

def laneTrial : State := { lane with boot := { lane.boot with imgA := { state := 2 }, trialRun := true } }
def laneTrialSvn : State := { lane with boot := { lane.boot with imgA := { state := 2, mem := [⟨8, 1⟩, ⟨9, 1⟩, ⟨10, 1⟩, ⟨11, 1⟩, ⟨12, 1⟩, ⟨13, 1⟩, ⟨14, 1⟩, ⟨15, 1⟩, ⟨16, 1⟩] }, trialRun := true } }

theorem witness_PowerAndImageCards : (∀ x ∈ [(sysResetCard, lane, dev, zeros 4), (powerSetCard, lane, dev, [1, 0, 0, 0]), (powerSetCard, lane, dev, zeros 4),
      (sysResetCard, { lane with cars := State.reset.cars, pair := { pntOut := true, partner := 4 } }, dev, zeros 4),
      (imageWriteCard, lane, dev, le 4 0 ++ le 4 8192 ++ [1]), (imageActivateCard, { lane with boot := { lane.boot with imgB := { state := 1 } } }, dev, zeros 4),
      (imageCommitCard, laneTrial, dev, zeros 4), (imageCommitCard, laneTrialSvn, dev, [1, 0, 0, 0])], Admitted x.1 x.2.1 x.2.2.1 x.2.2.2)
    ∧ (heard dev lane).braked = true
    ∧ (heard dev { lane with cars := State.reset.cars, pair := { pntOut := true, partner := 4 } }).braked = false
    ∧ laneTrialSvn.vault.ctr.getD 2 0 < laneTrialSvn.runningSvn :=
  ⟨all_admitted (by decide +kernel), by decide +kernel⟩

theorem witness_TimebaseCards : ∀ x ∈ [(timeStatusCard, lane, dev, []),
      (timeConfigCard, lane, dev, zeros 24 ++ le 4 20 ++ le 4 5000 ++ le 4 1000 ++ zeros 48), (timeSetCard, lane5, dev, zeros 12)],
      Admitted x.1 x.2.1 x.2.2.1 x.2.2.2 := all_admitted (by decide +kernel)

/-- Fragments that leave a section open and complete it, and a deletion. -/
theorem witness_ConfigWriteStagesAndCommits :
    (∀ x ∈ [
      (configWriteCard, lane5, inst, le 2 0x0200 ++ zeros 2 ++ le 4 0 ++ le 4 24 ++ zeros 4),
      (configWriteCard, lane5, inst, le 2 0x0200 ++ zeros 2 ++ le 4 0 ++ le 4 24 ++ (laneCfg.getD 1 (0, [])).2),
      (configWriteCard, lane5, inst, le 2 0x0200 ++ zeros 10)], Admitted x.1 x.2.1 x.2.2.1 x.2.2.2)
    ∧ (let d := le 2 0x0200 ++ zeros 2 ++ le 4 0 ++ le 4 24 ++ zeros 4; cwDeletes d = false ∧ cwCompletes d = false)
    ∧ (let d := le 2 0x0200 ++ zeros 2 ++ le 4 0 ++ le 4 24 ++ zeros 24; cwDeletes d = false ∧ cwCompletes d = true)
    ∧ (let d := le 2 0x0200 ++ zeros 10; cwDeletes d = true ∧ [0x0002, 0x0401, 0x0900, 0x0203].contains (cwSec d) = false) := ⟨all_admitted (by decide +kernel), by decide +kernel⟩

theorem witness_CircuitCards : (∀ x ∈ [(circuitEnableCard, lane5, inst, zeros 8), (circuitDisableCard, lane, inst, zeros 4), (checkReportCard, lane, inst, zeros 4),
      (learnStartCard, lane5, inst, zeros 4)], Admitted x.1 x.2.1 x.2.2.1 x.2.2.2)
    ∧ (lane5.boot.role == .lane && lane5.auth.rebuildDue && (begun 0x2001 inst lane5).allStand) = false
    ∧ ∀ c ∈ lane5.carNums, 1 ≤ ((heard inst lane5).car c).pos.trust :=
  ⟨all_admitted (by decide +kernel), by decide +kernel⟩

/-- The car with a Waymark ahead of it, at 6 m. -/
def laneMark : State := { lane with cfg := { a := laneCfg ++ [(0x0205, zeros 8 ++ le 4 6000000 ++ le 4 20000 ++ zeros 4)] } }

theorem witness_ReanchorSearchesTheNearestEdge : Admitted reanchorCard laneMark car0 (zeros 8) ∧ (Admitted reanchorCard lane car0 (zeros 8) ∧ 0 < (heard car0 lane).cars.length ∧ ((heard car0 lane).car 0).search = none
      ∧ (heard car0 lane).edgeAhead 0 ((heard car0 lane).searchDir 0 0) = none)
    ∧ ((heard car0 laneMark).edgeAhead 0 ((heard car0 laneMark).searchDir 0 0)).isSome = true :=
  ⟨admitted_of (by decide +kernel), ⟨admitted_of (by decide +kernel), by decide +kernel⟩, by decide +kernel⟩

/-- The car with a stop asked for already. -/
def laneAsked : State := { lane with cars := lane.cars.modify 0 fun x => { x with plan := { x.plan with next := some {} } } }
def carAsked : State := { carS with doors := carS.doors.modify 0 fun x => { x with next := some { kind := 0, due := 0, since := 0 } } }

theorem witness_MoveCards : (∀ x ∈ [(moveToCard, lane, car0, zeros 36), (moveToCard, carS, grp0, zeros 36), (moveStopCard, lane, car0, [1, 0, 0, 0]),
      (moveStopCard, laneAsked, car0, [2, 0, 0, 0]), (moveStopCard, carS, grp0, [1, 0, 0, 0]), (moveStopCard, carAsked, grp0, [2, 0, 0, 0])],
      Admitted x.1 x.2.1 x.2.2.1 x.2.2.2)
    ∧ lane.boot.role = .lane ∧ ((heard car0 lane).planOf 0).next = none ∧ carS.boot.role ≠ .lane ∧ (carS.door (carS.doorTgt (tagOf 0x3001 grp0 carS))).next = none
    ∧ (let p := (heard car0 lane).planOf 0; p.standing = true ∧ p.move = none ∧ p.next = none ∧ p.stop = none)
    ∧ ((heard car0 laneAsked).planOf 0).next ≠ none
    ∧ ((heard grp0 carS).doorStands 0 = true ∧ ((heard grp0 carS).door 0).cmd = none ∧ ((heard grp0 carS).door 0).next = none)
    ∧ ((heard grp0 carAsked).door 0).next ≠ none :=
  ⟨all_admitted (by decide +kernel), by decide +kernel⟩

theorem witness_TrunkCards : ∀ x ∈ [(trunkEnumerateCard, lane2, { inst with dom := 2 }, [1, 0, 0, 0]), (segmentServiceCard, lane, pk (tgtOf 5 0), [1, 0, 0, 0])],
    Admitted x.1 x.2.1 x.2.2.1 x.2.2.2 := all_admitted (by decide +kernel)

def laneInj : State := { lane with chans := [{ inj := some { tag := { opc := 0x4004 } } }] }

theorem witness_LoopCards : (∀ x ∈ [(bankLoadCard, lane, car0, [0, 1, 2] ++ zeros 101), (bankSwapCard, { lane with chans := [{ loadedB := true }] }, car0, [0, 1, 0, 0]),
      (injectStartCard, { lane with chans := [{ st := .run }] }, car0, zeros 8 ++ [1] ++ zeros 15), (injectStopCard, laneInj, car0, zeros 4),
      (captureArmCard, lane, car0, [0, 0, 0, 0, 1, 0] ++ zeros 6), (loopAckCard, lane, car0, zeros 4)], Admitted x.1 x.2.1 x.2.2.1 x.2.2.2)
    ∧ (((heard car0 laneInj).loopCh (rd (zeros 4) 0 1)).inj.map (·.tag.opc)) = some 0x4004 ∧ lane.safe.faults = [] :=
  ⟨all_admitted (by decide +kernel), by decide +kernel⟩

def laneCall : State := { lane with disp := { lane.disp with calls := [{ pending := true }] } }
def laneDrain : State := { lane with cars := lane.cars.modify 0 fun x => { x with svc := { x.svc with mode := 1 } } }

theorem witness_AuthorityAndCarCards : (∀ x ∈ [(authCloseCard, lane, pk (tgtOf 4 0), zeros 4), (tripEvalCard, lane, car0, [1, 0, 0, 0] ++ zeros 8),
      (callCancelCard, laneCall, inst, zeros 4), (carServiceCard, lane, car0, zeros 4), (carServiceCard, lane, car0, [1, 0, 0, 0])], Admitted x.1 x.2.1 x.2.2.1 x.2.2.2)
    ∧ ((heard car0 lane).car 0).svc.mode = rd (zeros 4) 0 1 ∧ ((heard car0 lane).car 0).svc.mode ≠ rd [1, 0, 0, 0] 0 1 ∧ ∀ k ∈ lane.disp.calls, k.car ≠ some 0 :=
  ⟨all_admitted (by decide +kernel), by decide +kernel⟩

/-- Floors 0 and 1, landings of lane 0, and a car for 10 passengers. -/
def floorCfg : List (Nat × List Byte) := [(0x0202, [0, 0] ++ le 2 2 ++ le 4 0 ++ le 4 5000000),
  (0x0502, le 2 0 ++ zeros 2 ++ le 2 0 ++ zeros 6 ++ (le 2 1 ++ zeros 2 ++ le 2 1 ++ zeros 6)), (0x0505, [0, 10] ++ zeros 6)]
def laneFloors : State := { lane with cfg := { a := laneCfg ++ floorCfg } }
def withCalls (s : State) (l : List Call) : State := { s with disp := { s.disp with calls := l } }

/-- CALL_SUBMIT from floor 0 to floor 1 for `n` passengers. -/
def trip01 (n : Byte) : List Byte := [0, 0, 1, 0, n] ++ zeros 3
def verdict (s : State) (d : List Byte) : Verdict := ((begun 0x5010 inst s).hear 0 (rd d 0 2) (rd d 2 2) (rd d 4 1) (rd d 5 1)).1

/-- Each verdict, with its state and payload: a bucket with no token, 48 calls unanswered, no floors, too many passengers, a
call that repeats a waiting one, a source with its 64 calls pending, a full list, and a call that passes. -/
theorem witness_CallSubmitIsJudged : ∀ x ∈ [
      (callSubmitCard, { lane with disp := { lane.disp with buckets := [{ src := 0, at0 := 1000, level := 0 }] } }, inst, trip01 1),
      (callSubmitCard, withCalls lane (List.replicate 48 { pending := true }), inst, trip01 1), (callSubmitCard, lane, inst, trip01 1),
      (callSubmitCard, laneFloors, inst, trip01 11), (callSubmitCard, withCalls laneFloors [{ frm := 0, dst := 1, id := 5 }], inst, trip01 1),
      (callSubmitCard, withCalls laneFloors (List.replicate 64 { frm := 2, dst := 1 }), inst, trip01 1), (callSubmitCard, withCalls laneFloors (List.replicate 4096 { src := 1, frm := 2, dst := 1 }), inst, trip01 1),
      (callSubmitCard, laneFloors, inst, trip01 1)],
      Admitted x.1 x.2.1 x.2.2.1 x.2.2.2 := all_admitted (by decide +kernel)

/-- Each verdict that CallSubmitIsJudged tells apart. -/
theorem witness_CallSubmitVerdicts :
    verdict { lane with disp := { lane.disp with buckets := [{ src := 0, at0 := 1000, level := 0 }] } } (trip01 1) = .rated
    ∧ verdict (withCalls lane (List.replicate 48 { pending := true })) (trip01 1) = .crowded ∧ verdict lane (trip01 1) = .floors
    ∧ verdict laneFloors (trip01 11) = .pax ∧ verdict (withCalls laneFloors [{ frm := 0, dst := 1, id := 5 }]) (trip01 1) = .absorbed 5
    ∧ verdict (withCalls laneFloors (List.replicate 64 { frm := 2, dst := 1 })) (trip01 1) = .srcFull
    ∧ verdict (withCalls laneFloors (List.replicate 4096 { src := 1, frm := 2, dst := 1 })) (trip01 1) = .full ∧ verdict laneFloors (trip01 1) = .fine := by
  decide +kernel

theorem witness_DoorCommandsWait : (∀ x ∈ [(doorOpenCard, carS, grp0, zeros 8), (doorCloseCard, carS, grp0, zeros 4), (doorHomeCard, carS, grp0, [])],
      Admitted x.1 x.2.1 x.2.2.1 x.2.2.2) ∧ (carS.door (carS.doorTgt (tagOf 0x6001 grp0 carS))).next = none :=
  ⟨all_admitted (by decide +kernel), by decide +kernel⟩

def laneLatched : State := { lane with safe := { lane.safe with latch := true } }

theorem witness_SafetyResetAndTest : (∀ x ∈ [(safetyResetCard, laneLatched, dev, zeros 4), (safetyTestCard, laneLatched, dev, zeros 4), (safetyTestCard, lane, dev, zeros 4)],
      Admitted x.1 x.2.1 x.2.2.1 x.2.2.2) ∧ laneLatched.safe.latch = true ∧ lane.safe.latch = false :=
  ⟨all_admitted (by decide +kernel), by decide +kernel⟩

theorem witness_FieldOutputCards : (∀ x ∈ [(fieldOutWriteCard, lane, pk (tgtOf 6 1), zeros 4), (fieldOutAckCard, lane, pk (tgtOf 6 1), zeros 4)],
      Admitted x.1 x.2.1 x.2.2.1 x.2.2.2) ∧ (heard (pk (tgtOf 6 1)) lane).fqOf (tgtOf 6 1) = some 0 ∧ 31 < lane.field.fq.length ∧ lane.grpOk (fqGroup 0) = false :=
  ⟨all_admitted (by decide +kernel), by decide +kernel⟩

def laneAsleep : State := { lane with can := [{ st := .asleep }] }

theorem witness_CanCards : (∀ x ∈ [(canSendCard, lane, dev, frame5), (canTakeCard, lane, dev, [0, 0, 0, 0, 1, 0, 0, 0]), (canPowerCard, lane, dev, [0, 1, 0, 0]),
      (canPowerCard, laneAsleep, dev, zeros 4)], Admitted x.1 x.2.1 x.2.2.1 x.2.2.2)
    ∧ (lane.chan 0).txq = [] ∧ rd [0, 1, 0, 0] 1 1 ≠ 0 ∧ rd (zeros 4) 1 1 = 0 := ⟨all_admitted (by decide +kernel), by decide +kernel⟩

theorem witness_PairAndStatementCards : ∀ x ∈ [(pairProveCard, { lane with pair := { st := .active, pntOut := true } }, dev, [0, 0, 100, 0]),
      (attestQuoteCard, lane, dev, zeros 40), (ledgerHeadCard, lane, dev, zeros 36)], Admitted x.1 x.2.1 x.2.2.1 x.2.2.2 := all_admitted (by decide +kernel)

def laneProv : State := { lane with boot := { lane.boot with stage := 4 }, rings := lane.rings.set 0 { quota := 16, sess := some { tr := .spi, prov := true } } }
def laneSlot : State := { lane with sec := { slots := [{ st := .valid, use := 1, dom := 1 }] } }
def laneTwo : State := { lane with rings := lane.rings.set 1 { sess := some {} } }

theorem witness_VaultAndLedgerCards : (∀ x ∈ [(provisionCard, laneProv, dev, zeros 2052), (keyUpdateCard, lane, dev, zeros 4 ++ le 4 4622 ++ [3]),
      (keyOpCard, laneSlot, dev, [1] ++ zeros 39), (journalReadCard, lane, dev, [0, 0, 0, 0, 1, 0, 1, 0])], Admitted x.1 x.2.1 x.2.2.1 x.2.2.2)
    ∧ lane.kuNext (zeros 4 ++ le 4 4622 ++ [3]) = some [3] := ⟨all_admitted (by decide +kernel), by decide +kernel⟩

theorem witness_SessionCards : (∀ x ∈ [(sessionCloseCard, laneTwo, dev, [1, 0, 0, 0]), (sessionRekeyCard, lane, dev, [])], Admitted x.1 x.2.1 x.2.2.1 x.2.2.2)
    ∧ rd [1, 0, 0, 0] 0 1 ≠ dev.pair ∧ (lane.ring 0).sess = some { tr := .spi } ∧ (lane.ring 0).held = [] :=
  ⟨all_admitted (by decide +kernel), by decide +kernel⟩

/-! ## Witnesses: the event rows. `u` is the state at the row's instant. Hypotheses that only name a value (`v = …`) are met by that value. -/

theorem witness_RegisterRowsWriteTheirRegister :
    (∃ u, u = (onRing lane demoRing).advance 1000 ∧ (u.ring 0).en = false ∧ (u.ring 0).err = 0)
    ∧ (∃ u, u = (onRing lane { demoRing with en := true, eqPi := 1 }).advance 1000 ∧ (u.ring 0).en = true
        ∧ (1 % 2 ^ 32 + 2 ^ 32 - (u.ring 0).eqCi) % 2 ^ 32 ≤ (u.ring 0).eqUsed ∧ (u.ring 0).eqUsed < (2 % 2 ^ 32 + 2 ^ 32 - (u.ring 0).eqCi) % 2 ^ 32)
    ∧ (∃ u, u = (onRing lane { demoRing with err := 1 }).advance 1000 ∧ (u.ring 0).err ≠ 0 ∧ (u.ring 0).en = false)
    ∧ (∃ u, u = ({ lane with msix := { lane.msix with modPend := [true], last := [some 0], mod := [1] } } : State).advance 1000
        ∧ u.msix.modPend.getD 0 false = true ∧ u.msix.last.getD 0 none = some 0 ∧ 0 + 1000 * u.msix.mod.getD 0 0 ≤ u.time.now)
    ∧ (∃ u, u = (onRing lane { demoRing with fullSince := some 0 }).advance 10000001 ∧ (u.ring 0).fullSince = some 0 ∧ 0 + 10000000 < u.time.now)
    ∧ (∀ o ∈ [0x14, 0xFFC, 0x1400, 0x1FFC, 0x2200], o ≠ 0x18 ∧ o < 0x1000 ∨ 0x1400 ≤ o ∧ o < 0x2000 ∨ 0x2200 ≤ o)
    ∧ (∀ n ∈ [0x00, 0x04, 0x08, 0x0C, 0x10, 0x14, 0x18], 0x1C ≠ n) :=
  ⟨⟨_, rfl, by decide +kernel⟩, ⟨_, rfl, by decide +kernel⟩, ⟨_, rfl, by decide +kernel⟩, ⟨_, rfl, by decide +kernel⟩, ⟨_, rfl, by decide +kernel⟩,
    by decide, by decide⟩

def onTr (tr : Transport) : State := onRing lane { demoRing with sess := some { tr := tr }, placed := [{}] }
def shortPkt (n : Nat) : Packet := ⟨0, 0, 0, 0, 0, 1, 0, 0, zeros n, 0, 48 + n⟩

theorem witness_TransportRowsDeliverPackets : (lane.advance 0).power.mode ≠ .sleep ∧ (∀ tr, (lane.advance 0).power.pend ≠ some (1, tr))
    ∧ (∀ v ∈ [64, 65], ((onTr .pcie).ring 0).sess.map (·.tr) = some .pcie
        ∧ (ringSlots ((onTr .pcie).ring 0).sqSize < (v + 2 ^ 32 - ((onTr .pcie).ring 0).sqCi) % 2 ^ 32 ↔ v = 65))
    ∧ ((onTr .spi).ring 0).sess.map (·.tr) ≠ some .pcie
    ∧ (onTr .ethernet).boundTo 0 .ethernet = true ∧ framed (shortPkt 0) = true ∧ framed (shortPkt 1) = false ∧ (onTr .spi).boundTo 0 .spi = true
    ∧ ((onTr .spi).ring 0).sess = some { tr := .spi } ∧ ((onTr .spi).ring 0).placed = {} :: [] :=
  ⟨by decide +kernel, (fun _ h => nomatch h), by decide +kernel, by decide +kernel⟩

def hello0 : Hello := ⟨0, 1, 0, 0, 0, 0⟩
def hs0 (pair : Nat) (prov : Bool) : Hs := { pair := pair, hsid := 1, tr := .spi, hello := { hello0 with pair := pair }, prov := prov }
def laneHs (x : Hs) : State := { lane with sec := { hs := [x] } }
def peerCfg : List (Nat × List Byte) := [(0x0C01, [2, 0] ++ zeros 18)]
def lanePeer : State := { lane with cfg := { a := laneCfg ++ peerCfg } }
def peerMsg (done : Bool) : PeerMsg := ⟨0xFF, 0, done, 0, (Config.ecdsaSig (Config.peerPublic 0).1 (le 16 0 ++ le 1 0xFF ++ le 1 0)).toNat,
  (Config.mldsaSig (Config.peerPublic 0).2 (le 16 0 ++ le 1 0xFF ++ le 1 0)).toNat, 0⟩

theorem witness_HandshakeRowsOpenSessions :
    (∃ u v, u = ({ State.reset with boot := { lane.boot with stage := 4 } } : State).advance 1000 ∧ u.hsArrival .spi = some v ∧ v.helloBars .spi hello0 = none)
    ∧ (∃ u v, u = lane.advance 1000 ∧ u.hsArrival .spi = some v ∧ v.helloBars .spi { hello0 with pair := 1, dom := 1 } = some 0xC070)
    ∧ (∃ u, u = ({ lane with power := { mode := .sleep } } : State).advance 1000 ∧ u.hsArrival .spi = none)
    ∧ (∀ t ∈ [1999999999, 2000000000], ∃ u, u = (laneHs (hs0 0 false)).advance t ∧ u.finishSigned (hs0 0 false) 0 0 = false
        ∧ (u.sec.hs.find? fun x => x.pair == 0 && x.hsid == 1 && x.tr == .spi) = some (hs0 0 false) ∧ (u.time.now < (hs0 0 false).at0 + 2 * 10 ^ 9 ↔ t = 1999999999)
        ∧ ((u.sec.hs.filter fun y => y.pair == 0 && decide (y.at0 + 2 * 10 ^ 9 ≤ u.time.now)) = [hs0 0 false] ↔ t = 2000000000))
    ∧ (∃ u, u = (laneHs (hs0 0 true)).advance 1000 ∧ u.finishSigned (hs0 0 true) 0 0 = true ∧ unitLink 0 = false ∧ unitLink 0xFF = true
        ∧ u.time.now < (hs0 0 true).at0 + 2 * 10 ^ 9)
    ∧ (∀ n ∈ [1200, 1201], ∃ u o, u = ({ lane with sec := { hsOut := [{ bytes := zeros n }] } } : State).advance 1000
        ∧ (u.sec.hsOut.find? fun o => o.pair == 0) = some o ∧ (1200 * (o.frag + 1) < o.bytes.length ↔ n = 1201)) :=
  ⟨⟨_, _, rfl, rfl, by decide +kernel⟩, ⟨_, _, rfl, rfl, by decide +kernel⟩, ⟨_, rfl, by decide +kernel⟩, by
    intro t ht
    simp only [List.mem_cons, List.not_mem_nil, or_false] at ht
    rcases ht with rfl | rfl <;> exact ⟨_, rfl, by decide +kernel⟩, ⟨_, rfl, by decide +kernel⟩, by
    intro n hn
    simp only [List.mem_cons, List.not_mem_nil, or_false] at hn
    rcases hn with rfl | rfl <;> exact ⟨_, _, rfl, rfl, by decide +kernel⟩⟩

/-- HandshakeRowsOpenSessions, a peer's answer: not listed, a DONE of an open handshake, and a REPLY whose signature is the one that verifies. -/
theorem witness_HandshakeReply :
    (∃ u, u = lane.advance 1000 ∧ (if (peerMsg true).pair = 0xFF then 3 else 4) ≤ u.boot.stage ∧ u.boot.reduced = false ∧ u.sec.tamper = false
        ∧ unitLink (peerMsg true).pair = true ∧ u.serves = true ∧ u.listed (peerMsg true) = false)
    ∧ (∃ u, u = ({ lanePeer with sec := { hs := [hs0 0xFF false] } } : State).advance 1000 ∧ u.listed (peerMsg true) = true ∧ (peerMsg true).isDone = true
        ∧ (u.sec.hs.find? fun x => x.pair == (peerMsg true).pair && x.hello.dom == (peerMsg true).car) = some (hs0 0xFF false))
    ∧ (peerMsg false).isDone = false ∧ bothOk (Config.peerPublic (peerMsg false).devid) (peerBytes (peerMsg false)) (peerMsg false).sigE (peerMsg false).sigQ = true :=
  ⟨⟨_, rfl, by decide +kernel⟩, ⟨_, rfl, by decide +kernel⟩, rfl, by simp [bothOk, ecdsaOk, mldsaOk, peerMsg, peerBytes]⟩

theorem witness_VaultRows :
    (∃ u, u = ({ lane with sec := { keyOps := [{}] } } : State).advance 1000 ∧ u.sec.keyOps = {} :: [])
    ∧ (∃ u, u = ({ lane with vault := { swAct := 0 } } : State).advance 1000 ∧ u.vault.action 2 = 0)
    ∧ (∃ u, u = lane.advance 1000 ∧ u.vault.action 2 = 2 ∧ 3 ≤ u.boot.stage ∧ u.power.mode ≠ .sleep ∧ u.power.pend.isNone = true)
    ∧ (∃ u, u = ({ lane with boot := { lane.boot with stage := 1 } } : State).advance 1000 ∧ u.vault.action 0 = 2 ∧ u.boot.stage = 1 ∧ u.sec.keys = false)
    ∧ (∃ u, u = ({ lane with vault := { swAct := 1 } } : State).advance 1000 ∧ u.vault.action 2 = 1)
    ∧ (∃ u, u = ({ State.reset with power := { mode := .batteryOnly }, vault := { share := some 1 } } : State).advance 1000
        ∧ u.power.mode = .batteryOnly ∧ u.vault.share.isSome = true) :=
  ⟨⟨_, rfl, by decide +kernel⟩, ⟨_, rfl, by decide +kernel⟩, ⟨_, rfl, by decide +kernel⟩, ⟨_, rfl, by decide +kernel⟩, ⟨_, rfl, by decide +kernel⟩,
    ⟨_, rfl, by decide +kernel⟩⟩

/-- A state of stage `n` with its boot record changed. -/
def atBoot (f : Boot → Boot) : State := { lane with boot := f lane.boot }
def up (s : State) : State := s.advance 1000

/-- Cases of the start-up rows. Those that need an image whose signatures verify are met by no memory that can be written out, since
the signatures are uninterpreted (log 5). -/
theorem witness_StartUpRowsEnterTheirStage :
    (up State.reset).boot.powerGood = false
    ∧ (let u := up (atBoot fun b => { b with stage := 0, held := true });
        u.boot.powerGood = true ∧ u.boot.held = true ∧ u.boot.rstLow = false ∧ u.boot.stage = 0 ∧ roleOf false true ≠ .none ∧ roleOf true true = .none)
    ∧ (up (atBoot fun b => { b with stage := 1 })).boot.stage = 1
    ∧ (let u := up (atBoot fun b => { b with stage := 2 }); u.boot.stage = 2 ∧ u.boot.recovery = false ∧ u.chooseImage.2 = none)
    ∧ (let u := up (atBoot fun b => { b with stage := 2, recovery := true });
        u.boot.recovery = true ∧ 4194303 + [(1 : Byte)].length ≤ 4194304 ∧ imgSound u.boot.role (u.boot.imgA.mem.writeAll 4194303 [1]) = false)
    ∧ (let u := up (atBoot fun b => { b with stage := 3 }); u.boot.stage = 3 ∧ u.safe.tested = true ∧ u.safe.testing = none ∧ u.pair.st = .unpaired)
    ∧ (up (atBoot fun b => { b with stage := 4 })).mayEnter5 = true
    ∧ (up ({ lane5 with cars := lane5.cars.modify 0 fun x => { x with link := true, offered := true }, auth := { rebuilt := true }, trunks := lane5.trunks.modify 0 fun x => { x with known := true } } : State)).ready5Holds = true := by decide +kernel

theorem witness_PowerAndStoreRows :
    (let u := (atBoot fun b => { b with stage := 3 }).advance 300000001;
      u.boot.held = false ∧ u.boot.stage ≠ 0 ∧ u.boot.stage < 4 ∧ u.boot.startAt + stageDeadline 4 < u.time.now ∧ u.boot.trialRun = false)
    ∧ (let u := (atBoot fun b => { b with stage := 3, trialRun := true }).advance 1000000001;
      u.boot.held = false ∧ 0 < u.boot.stage ∧ u.boot.stage < 4 ∧ u.boot.trialRun = true ∧ u.boot.startAt + 1000000000 < u.time.now
        ∧ ∃ n ∈ [1, 2, 3, 4], u.boot.stage < n ∧ u.boot.startAt + stageDeadline n < u.time.now)
    ∧ (let u := up { lane with power := { mode := .run, resetDue := some (1000, false) } }; u.power.resetDue = some (1000, false) ∧ 1000 ≤ u.time.now)
    ∧ (let u := ({ lane with power := { mode := .run, idleSince := some 0 }, cfg := { a := laneCfg ++ [(0x0001, [2] ++ Cfg.Start.dflt.drop 1)] } } : State).advance 60000000000;
      u.power.idleSince = some 0 ∧ u.power.mode = .run ∧ bit (Cfg.Start.SFLG (u.one Cfg.Start.sec Cfg.Start.dflt)) 1 = true ∧ 5 ≤ u.boot.stage
        ∧ u.quiet = true ∧ 0 + Cfg.Start.IDLET (u.one Cfg.Start.sec Cfg.Start.dflt) * 10 ^ 9 ≤ u.time.now)
    ∧ (up { lane with power := { mode := .sleep } }).power.mode = .sleep
    ∧ (let u := up { lane with power := { mode := .run, pend := some (1, {}) } }; u.power.mode ≠ .sleep ∧ u.power.pend = some (1, {}))
    ∧ (∀ f ∈ [[], [({ code := 0x2101 } : ChkEntry)]], ∀ tag ∈ [none, some ({} : TagRec)],
        (up { lane5 with chk := { running := some { tag := tag, found := f } } }).chk.running = some { tag := tag, found := f })
    ∧ (up lane5).cfg.calib.present = false ∧ (up { carS with cfg := { carS.cfg with calib := { present := true } } }).cfg.calib.present = true
    ∧ (let u := up { lane5 with chk := { learn := some {} }, cars := lane5.cars.modify 0 fun x => { x with learn := some { away := true, home := 0 } } };
      u.chk.learn.isSome = true ∧ u.learnHome = true)
    ∧ (up { lane5 with cfg := { lane5.cfg with writing := [{}] } }).cfg.writing = {} :: []
    ∧ (up { lane with prot := { storing := [({}, [], 0)] } }).prot.storing = ({}, [], 0) :: [] := by decide +kernel

def sleepy (m : PowerMode) : State := { lane with power := { mode := m } }

theorem witness_BoundaryRowsRunTheirPasses : State.reset.boot.stage = 0
    ∧ (lane.boot.stage ≠ 0 ∧ (atBoot fun b => { b with stage := 2 }).toTick.timeBoundary.nextBoundary.boot.stage < 3)
    ∧ 3 ≤ lane.toTick.timeBoundary.nextBoundary.boot.stage
    ∧ (let v (s : State) := s.toTick.timeBoundary.nextBoundary.copyCoarse.pendingTick;
      (v (sleepy .sleep)).boot.stage ≠ 0 ∧ (v (sleepy .sleep)).power.mode = .sleep ∧ (v lane).power.mode ≠ .sleep ∧ (v lane).standby = false
        ∧ (v { lane with pair := { st := .ready } }).standby = true)
    ∧ lane.time.now ≤ lane.time.nextTick ∧ 3 ≤ lane.boot.stage := by decide +kernel

theorem witness_LaunchRowsComeToTheEarliestEdge : lane.launchQ = [] ∧ lane.miles = []
    ∧ (let s := laneCancel [{ launch := 500 }, { launch := 400 }]; firstEdge (s.launchQ.map s.launchEdge) = some 400)
    ∧ (let s : State := { lane with miles := [{ edge := 400, kind := .brakeApply }] }; firstEdge (s.miles.map (·.edge)) = some 400 ∧ s.standby = false)
    ∧ ({ lane with pair := { st := .ready } } : State).standby = true := by decide +kernel

def timed (f : Time → Time) : State := up { lane with time := f lane.time }

theorem witness_TimebaseRows :
    (let u := timed fun x => { x with tb := .acquiring };
      u.standby = false ∧ u.time.noServo = false ∧ u.time.tb ≠ .unset ∧ u.time.tb ≠ .free ∧ u.boot.stage = 6 ∧ 10000000 < (-10000001 : Int).natAbs
        ∧ (u.boot.stage ≠ 6 ∨ (10000000 : Int).natAbs ≤ 10000000))
    ∧ (timed id).time.tb = .unset ∧ (timed fun x => { x with tb := .locked }).time.tb = .locked
    ∧ (let u := ({ lane with time := { lane.time with tb := .holdover } } : State).advance 300000000000;
      u.time.tb = .holdover ∧ u.time.cfg.holdLimit < u.holdError)
    ∧ (let a : Announce := ⟨0, 5, 0, 37, true, true⟩;
      let u := timed fun x => { x with cfg := { x.cfg with ports := 1 } };
      bit u.time.cfg.ports a.port = true ∧ u.standby = false ∧ u.time.noServo = false
        ∧ ¬(u.time.gmid = a.gmid ∧ u.time.source = a.port + 1 ∧ (u.time.tb = .acquiring ∨ u.time.tb = .locked)))
    ∧ (let u := timed fun x => { x with cfg := { x.cfg with ports := 1 }, gmid := 5, source := 1, tb := .locked };
      u.time.gmid = 5 ∧ u.time.source = 0 + 1 ∧ (u.time.tb = .acquiring ∨ u.time.tb = .locked)) := by decide +kernel

theorem witness_TrunkRows : (up lane).trunkOn 0 = true ∧ (up lane).trunkOn 1 = false
    ∧ (up { lane with enumRun := [(none, 1, 0)] }).enumRun = (none, 1, 0) :: [] := by decide +kernel

def propS (p : Prop0) : State := { lane with cars := lane.cars.modify 0 fun x => { x with prop := p } }

theorem witness_CarLinkRows : (up lane).boot.role = .lane ∧ (up lane).carNums.contains 0 = true
    ∧ cycled [] [] = false ∧ cycled [true] [2] = true
    ∧ (let u := up { lane with cars := lane.cars.modify 0 fun x => { x with link := true, repGap := 8 } }; (u.car 0).link = true ∧ 8 ≤ (u.car 0).repGap)
    ∧ (let u := (propS { seq := .releasing 0 }).advance 4294000000;
      (u.car 0).prop.seq = .releasing 0 ∧ 0 + 1000000 * Cfg.CarProp.BRKLIFT (u.carProp 0) ≤ u.time.now ∧ ((u.car 0).rep.map fun p => bit p.1.brk 2).getD false = false)
    ∧ (let u := (propS { seq := .applying 0, actAt := 0 }).advance 4294000000;
      (u.car 0).prop.seq = .applying 0 ∧ (u.car 0).prop.actAt + 1000000 * (Cfg.CarProp.BRKENG (u.carProp 0) + 100) ≤ u.time.now)
    ∧ (up carS).boot.role = .car
    ∧ (let u := up { carS with crole := { carS.crole with lapse := 3 } };
      Cfg.CarBrake.HOLDTO (u.one Cfg.CarBrake.sec Cfg.CarBrake.dflt) ≤ u.crole.lapse) :=
  by decide +kernel

def posS (p : Pos) : State := { lane with cars := lane.cars.modify 0 fun x => { x with pos := p } }
def chanS (c : Chan) : State := { lane with chans := [c] }

theorem witness_PositionAndLoopRows :
    (let u := up (posS { noTape := 8 }); 8 ≤ (u.car 0).pos.noTape ∧ (u.car 0).pos.tapeLost = false)
    ∧ (let u := up (posS { tapeMiss := 8, bemfMiss := 8, wayMiss := 2 });
      (8 ≤ (u.car 0).pos.tapeMiss ∧ (u.car 0).pos.tapeDis = false) ∧ (8 ≤ (u.car 0).pos.bemfMiss ∧ (u.car 0).pos.bemfDis = false)
        ∧ 2 ≤ (u.car 0).pos.wayMiss ∧ (u.car 0).pos.wayDis = false)
    ∧ ((up (chanS { satDue := true, plDue := true })).loopCh 0).satDue = true ∧ ((up (chanS { satDue := true, plDue := true })).loopCh 0).plDue = true
    ∧ (let u := up (chanS { inj := some { n := 1, dur := 1 } }); (u.loopCh 0).inj = some { n := 1, dur := 1 })
    ∧ (let u := up { lane with caps := [{ st := 2, left := 0 }] }; (u.caps.getD 0 {}).st = 2 ∧ (u.caps.getD 0 {}).left = 0)
    ∧ (let u := up { lane with cars := lane.cars.modify 0 fun x => { x with plan := { x.plan with move := some { waitMax := 1, target := 7 }, waitAt := some 0, effTgt := 6 } } };
      (u.planOf 0).waitAt = some 0 ∧ (u.planOf 0).effTgt ≠ u.legTarget 0 { waitMax := 1, target := 7 })
    ∧ 0 + 1000000 * 1 ≤ ((lane).advance 1000000).time.now := by decide +kernel

def doorS (x : Door) : State := { carS with doors := carS.doors.set 0 x }
def axisS (x : Axis) : State := { carS with axes := carS.axes.set 0 x }
def late (s : State) : State := s.advance 60000000000

theorem witness_DoorTimerRows : (up carS).boot.role = .car ∧ (up lane).boot.role ≠ .car
    ∧ (up carS).crole.lastRseq ≠ some 0 ∧ (up { carS with crole := { carS.crole with lastRseq := some 0 } }).crole.lastRseq = some 0
    ∧ (let u := (doorS { next := some { kind := 0, due := 0, since := 0 } }).advance 500000000;
      (u.door 0).next = some { kind := 0, due := 0, since := 0 } ∧ 0 + 500000000 ≤ u.time.now ∧ u.permitted 0 = false)
    ∧ (let u := late (doorS { timer := some (1, 0), st := .homing });
      (u.door 0).timer = some (1, 0) ∧ 0 + 1000000 * Cfg.DoorCfg.REDWELL (u.doorRec 0) ≤ u.time.now ∧ (u.door 0).st = .homing)
    ∧ (let u := late (doorS { timer := some (1, 0), st := .opened }); (u.door 0).st ≠ .homing ∧ u.doorHomed 0 = true)
    ∧ (let u := (doorS { timer := some (2, 0) }).advance 500000000; (u.door 0).timer = some (2, 0) ∧ 0 + 500000000 ≤ u.time.now)
    ∧ (let u := late { doorS { timer := some (3, 0) } with cfg := { a := carCfg.filter (·.1 != 0x0601) ++ [(0x0601, [0, 1] ++ (Cfg.DoorCfg.dflt.drop 2).take 10 ++ [0] ++ Cfg.DoorCfg.dflt.drop 13)] }, field := { carS.field with fi := carS.field.fi.set 0 { level := true }, grp := [.ok, .ok, .ok, .ok] } };
      (u.door 0).timer = some (3, 0) ∧ 0 + 1000000000 * Cfg.DoorCfg.LCHOLD (u.doorRec 0) ≤ u.time.now ∧ u.curtain 0 = true)
    ∧ (let u := late (doorS { timer := some (4, 0), cmd := some { kind := 0, dwell := 60000, due := 0, since := 0 } });
      (u.door 0).timer = some (4, 0) ∧ (u.door 0).cmd = some { kind := 0, dwell := 60000, due := 0, since := 0 } ∧ 0 + 1000000 * 60000 ≤ u.time.now) := by
  decide +kernel

theorem witness_DoorAxisRows :
    (let u := up (axisS { lossRun := 4 }); u.axisDoor 0 = 0 ∧ 4 ≤ (u.axis 0).lossRun ∧ u.axisConfigured 0 = true ∧ (u.door 0).closing = false)
    ∧ ((up (doorS { st := .closing })).door 0).closing = true
    ∧ (let u := up (axisS { mode := 2, errRun := 48 }); (u.axis 0).mode = 2 ∧ 48 ≤ (u.axis 0).errRun)
    ∧ (let u := (axisS { mode := 3, standAt := some 0 }).advance 100000000;
      (u.axis 0).standAt = some 0 ∧ (u.axis 0).mode = 3 ∧ (u.axis 0).stuckChop = false ∧ 0 + 100000000 ≤ u.time.now)
    ∧ (let u := late (doorS { timer := some (5, 0) });
      (u.door 0).timer = some (5, 0) ∧ 0 + 1000000 * Cfg.DoorCfg.CLTIME (u.doorRec 0) ≤ u.time.now ∧ u.allMade 0 = false
        ∧ ((u.doorMembers 0).filter fun a => !u.made a) = 0 :: ((u.doorMembers 0).filter fun a => !u.made a).tail)
    ∧ (let u := up { doorS { st := .homing } with axes := carS.axes.set 0 { homeFrom := 880000 * 4294967296 } };
      (u.door (u.axisDoor 0)).st = .homing ∧ (u.axis 0).homed = false
        ∧ 11 * Cfg.DoorAxis.STROKE (u.axisRec 0) * 4294967296 ≤ 10 * (((u.axis 0).plan.motAt u.time.now).pQ - (u.axis 0).homeFrom).natAbs)
    ∧ (let u := up (axisS { stepPend := 65536 * oneQ }); (65535 * oneQ).natAbs < (u.axis 0).stepPend.natAbs)
    ∧ (up carS).boot.role = .car ∧ (up lane).boot.role ≠ .car := by decide +kernel

def mergeCfg : List (Nat × List Byte) := [(0x0501, le 2 0 ++ le 2 0 ++ le 2 1 ++ le 2 3)]
def laneSrc : State := { lane with cfg := { a := laneCfg ++ [(0x0503, [1, 0, 0, 1] ++ le 4 5 ++ zeros 16)] } }
def tcall : TermCall := ⟨0, 0, 5, 1, 0, 1, 1, 0⟩

theorem witness_AuthorityAndCallRows :
    (let u := up { lane with cfg := { a := laneCfg ++ mergeCfg }, cars := lane.cars.modify 0 fun x => { x with auth := { x.auth with item := [0], wait := 3 } } };
      ((u.car 0).auth.item.find? fun b => u.thru b != 0xFFFF && u.aging b == (u.car 0).auth.wait) = some 0 ∧ (u.car 0).auth.wait ≠ 0)
    ∧ (let u := up { lane with auth := { rebuildDue := true } }; u.boot.role = .lane ∧ u.auth.rebuildDue = true ∧ u.allStand = true)
    ∧ (let u := up lane; u.boot.role = .lane ∧ u.boot.stage = 6 ∧ u.standby = false ∧ u.sourceOf tcall.kind tcall.chan tcall.id = none)
    ∧ (up laneSrc).sourceOf tcall.kind tcall.chan tcall.id = some 1
    ∧ (let u := (withCalls lane [{ id := 3, pending := true, recv := 0 }]).advance 1750000;
      (u.call? 3) = some { id := 3, pending := true, recv := 0 } ∧ 0 + 1750000 ≤ u.time.now)
    ∧ (let u := late lane; u.disp.lastEval + 1000000 * Cfg.DispParam.REEVAL u.dispParam ≤ u.time.now)
    ∧ (up { lane with disp := { lane.disp with evals := [⟨{}, []⟩] } }).disp.evals = ⟨{}, []⟩ :: [] := by decide +kernel

def lanePair : State := { lane with cfg := { a := laneCfg ++ [(0x0700, [0, 0, 0, 1] ++ Cfg.SafePair.dflt.drop 4)] } }
def laneSP (p : SPair) : State := { lanePair with safe := { lanePair.safe with pairs := lanePair.safe.pairs.set 0 p } }

theorem witness_SafetyInputRows : (up lane).siPair 2 = none
    ∧ (∃ r b, (up (laneSP { armed := true })).siPair 0 = some (r, b) ∧ ((up (laneSP { armed := true })).safe.pairs.getD (Cfg.SafePair.PAIR r) {}).armed = true)
    ∧ (∃ r b, (up lanePair).siPair 0 = some (r, b) ∧ ((up lanePair).safe.pairs.getD (Cfg.SafePair.PAIR r) {}).armed = false)
    ∧ (∀ w ∈ [19, 20], 20 ≤ w ∨ w < 20)
    ∧ (∃ u r, u = late (laneSP { differAt := some 0 }) ∧ u.pairCfg 0 = some r ∧ (u.safe.pairs.getD 0 {}).differAt = some 0 ∧ (u.safe.pairs.getD 0 {}).st ≠ .disc
        ∧ 0 + 1000000 * Cfg.SafePair.DISCT r ≤ u.time.now)
    ∧ (up lane).boot.role = .lane ∧ (SramRegion.can ≠ .safety ∧ SramRegion.can ≠ .motion) :=
  ⟨by decide +kernel, ⟨_, _, rfl, by decide +kernel⟩, ⟨_, _, rfl, by decide +kernel⟩, by decide, ⟨_, _, rfl, rfl, by decide +kernel⟩, by decide +kernel⟩

def laneTest (x : Option TagRec) : State := { lane with safe := { lane.safe with testing := some (x, false) } }

theorem witness_SafetyTestRows :
    (let u := lane.advance 28800000000000; u.safe.tested = true ∧ u.safe.perRun = false ∧ u.safe.perBase + Cfg.Zone.TESTPER u.zone * 3600000000000 ≤ u.time.now)
    ∧ (up (laneTest (some {}))).safe.testing = some (some {}, false) ∧ (up (laneTest none)).safe.testing = some (none, false)
    ∧ 65536 % 65536 = 0 ∧ ¬(1 % 65536 = 0 ∧ 0 % 65536 = 0) := by decide +kernel

def fieldS (g : GrpSt) (x : Fi) : State := { lane with field := { lane.field with grp := [g, g, g, g], fi := lane.field.fi.set 63 x } }
def wakeCfg : List (Nat × List Byte) := [(0x0001, Cfg.Start.dflt.take 8 ++ List.replicate 8 255 ++ Cfg.Start.dflt.drop 16)]

theorem witness_FieldRows :
    (let u := up (fieldS .ok { stale := true }); 63 ≤ 63 ∧ u.grpOk (fiGroup 63) = true ∧ u.boot.stage ≠ 0 ∧ (u.fi 63).stale = true)
    ∧ (let u := up (fieldS .ok {}); (u.fi 63).stale = false ∧ (u.fi 63).level = (false != bit (Cfg.FieldIn.IFLG (u.fiRec 63)) 0)
      ∧ (u.fi 63).level ≠ (true != bit (Cfg.FieldIn.IFLG (u.fiRec 63)) 0) ∧ bit (Cfg.Start.WAKEFI (u.one Cfg.Start.sec Cfg.Start.dflt)) 63 = false)
    ∧ (let u := up { fieldS .ok {} with cfg := { a := laneCfg ++ wakeCfg } }; bit (Cfg.Start.WAKEFI (u.one Cfg.Start.sec Cfg.Start.dflt)) 63 = true)
    ∧ (up lane).grpOk (fiGroup 63) = false
    ∧ (up (fieldS .ok {})).field.grp.getD 0 .missing = .ok ∧ (up (fieldS .low {})).field.grp.getD 0 .missing = .low ∧ (up lane).field.grp.getD 0 .missing = .missing
    ∧ (up (fieldS .low {})).grpOk 0 = false ∧ (up (fieldS .ok {})).grpOk 0 = true
    ∧ (let u := up { fieldS .ok {} with field := { (fieldS .ok {}).field with die := [{ released := false }, { released := false }] } };
      u.drive 0 ≠ .released ∧ u.grpOk (fqGroup 0) = true) ∧ (up lane).drive 0 = .released := by decide +kernel

def canS (c : Can) : State := { lane with can := [c] }
def txf : TxFrame := { id := 5, kind := .host {} }

theorem witness_CanStateRows :
    (∀ x ∈ [CanSt.active, .passive, .detect, .verify, .busOff, .listen, .off, .asleep, .mismatch], ((up (canS { st := x })).chan 0).st = x)
    ∧ (let e : CanErr := ⟨1, 128, 0, false⟩; e.contest = false ∧ (128 ≤ e.tec ∨ 128 ≤ e.recv)) ∧ (let e : CanErr := ⟨1, 127, 127, false⟩; e.tec < 128 ∧ e.recv < 128)
    ∧ (let c := (up (canS { st := .active, txq := [txf] })).chan 0; c.st = .active ∧ c.winner 1000 = some txf)
    ∧ CanSt.active.sends = true ∧ CanSt.busOff.sends = false
    ∧ (let c := (up (canS { st := .detect, errRun := 16 })).chan 0; c.st = .detect ∧ 16 ≤ c.errRun) := by decide +kernel

def frx : CanRx := ⟨5, false, false, false, false, false, 1, [0], 0, false⟩

theorem witness_CanFrameRows :
    (let u := up (canS { st := .active }); u.hears 0 frx = true ∧ frx.full = false ∧ u.isTx 0 6 false = false ∧ u.standby = false ∧ u.objIdx 0 6 false = some 6
      ∧ u.isTx 0 5 false = true)
    ∧ (∃ r u, u = (({ canS { st := .active, objs := [{ idx := 6, flags := 1, stamp := 0 }] } with cfg := { a := laneCfg ++ [(0x0901, [0, 0] ++ le 2 1 ++ le 4 6)] } } : State)).advance 1000000
      ∧ ((u.recs Cfg.CanRxObj.sec).find? fun r => Cfg.CanRxObj.CH r == 0 && u.objIdx 0 (Cfg.CanRxObj.ID r % 2 ^ 29) (bit (Cfg.CanRxObj.ID r) 30) == some 6) = some r
      ∧ Cfg.CanRxObj.STALET r ≠ 0 ∧ bit ((u.chan 0).obj 6).flags 0 = true ∧ ((u.chan 0).obj 6).stamp + Cfg.CanRxObj.STALET r * 1000000 ≤ u.time.now)
    ∧ (let c := (up (canS { st := .active, txq := [txf] })).chan 0; c.winner 1000 = some txf ∧ c.st.sends = true)
    ∧ (let c := (up (canS { st := .active, txq := [{ txf with kind := .sync 1 }] })).chan 0; c.winner 1000 = some { txf with kind := .sync 1 })
    ∧ (∀ k ∈ [0, 1], let u := up { canS { st := .active, txObjs := [{ id := 0, skip := k }] } with
          time := { lane.time with tb := .free, cfg := { lane.time.cfg with canRef := [{ en := true, period := 1 }] } } };
        (u.refOf 0).en = true ∧ u.time.tb ≠ .unset ∧ u.standby = false ∧ ((u.chan 0).tx (u.refOf 0).id (u.refOf 0).ext).skip = k)
    ∧ ((up (canS { sleeping := some {} })).chan 0).sleeping = some {}
    ∧ (let u := up (canS { st := .asleep }); u.wakeHolds 0 none = true ∧ (u.chan 0).sleeping = none ∧ (u.chan 0).st = .asleep)
    ∧ (let u := up { canS { st := .asleep } with cfg := { a := (0x0900, [0, 5] ++ zeros 14 ++ [1] ++ zeros 31) :: laneCfg } };
        Cfg.CanCh.WAKEMODE (u.canRec 0) ≠ 0 ∧ (u.chan 0).sleeping = none ∧ (u.chan 0).st = .asleep ∧ u.wakeHolds 0 (some frx) = true) := by
  refine ⟨by decide +kernel, ⟨_, _, rfl, rfl, by decide +kernel⟩, by decide +kernel⟩

def meterS (m : Meter) : State := { lane with meter := { m with restored := true } }

theorem witness_MeteringRows :
    (∀ c ∈ [none, some 0], let u := up (meterS { samples := [[-1], [0]], cycStart := c }); u.meters = true ∧ u.meter.cycStart = c ∧ 2 ≤ u.meter.samples.length
      ∧ (u.meter.samples.getD (u.meter.samples.length - 2) []).getD 0 0 < 0 ∧ 0 ≤ (u.meter.samples.getD (u.meter.samples.length - 1) []).getD 0 0)
    ∧ (let u := late { meterS { regs := [65536000000000] } with cfg := { a := laneCfg ++ [(0x0A02, zeros 2 ++ le 2 1 ++ Cfg.PulseCh.dflt.drop 4)] } };
      u.meters = true ∧ 0 < u.owed 0 ∧ u.meter.lastPulse.getD 0 0 + 2000000 * (((u.pulseRec 0).map Cfg.PulseCh.PW).getD 32) ≤ u.time.now)
    ∧ (∃ r u, u = ({ meterS { regs := [0], mpBase := [(0, 0, 0)], mp := [0, 0] } with cfg := { a := laneCfg ++ [(0x0A02, [2, 0] ++ le 2 1 ++ Cfg.PulseCh.dflt.drop 4)] } } : State).advance 900000000000
      ∧ u.pulseRec 2 = some r ∧ u.meter.mpBase[0]? = some (0, 0, 0) ∧ 0 + 1000000000 * Cfg.PulseCh.CMPWIN r ≤ u.time.now)
    ∧ (let u := late (meterS { sagHold := some 0 }); u.meter.sagHold = some 0 ∧ 0 + 1000000 * Cfg.Meter.SAGHOLD u.meterCfg ≤ u.time.now)
    ∧ (up lane).meters = false
    ∧ (let u := up (meterS { samples := List.replicate 160 [0, 0, 0] });
      (u.meter.periods.head?.getD (1000000000 / max 1 (Cfg.Meter.FNOM u.meterCfg)) + 62500) / 125000 ≤ (u.meter.prevSamp ++ u.meter.samples).length
        ∧ u.meter.sag = none ∧ u.meter.swell = none ∧ u.meter.intr = none) :=
  ⟨by decide +kernel, by decide +kernel, ⟨_, _, rfl, rfl, by decide +kernel⟩, by decide +kernel⟩

def pairS (p : Pair) : State := { lane with pair := p }

theorem witness_PennantRows :
    (let u := (pairS { pntOut := true }).advance 95000; u.pair.pntOut = true ∧ u.pair.refresh + 95000 ≤ u.time.now)
    ∧ ((pairS { pntOut := true }).advance 94999).time.now < 0 + 95000
    ∧ (let u := ({ pairS { st := .syncing } with boot := { lane.boot with stage := 3 } } : State).advance 10000000;
      u.boot.stage = 3 ∧ u.pair.st ≠ .unpaired ∧ u.pair.pntOut = false ∧ u.pair.pntIn = false ∧ u.pair.pntInAt + 10000000 * (1 + u.boot.unit) ≤ u.time.now)
    ∧ (let u := ({ pairS { pntOut := true } with boot := { lane.boot with unit := 1 } } : State).advance 2000;
      u.pair.pntOut = true ∧ u.time.now ≤ u.pair.raisedAt + 2000 ∧ u.boot.unit = 1)
    ∧ ((pairS { pntOut := true }).advance 2001).boot.unit ≠ 1 ∧ (up (pairS { held := true })).pair.held = true ∧ (up (pairS {})).pair.held = false
    ∧ (let u := up (pairS { pntOut := true, pntIn := true }); u.pair.pntOut = true ∧ u.pair.pntIn = true ∧ u.pair.pfault = false ∧ u.boot.unit = 0 ∧ u.swapping = false)
    ∧ (up (pairS { st := .ready })).pair.st = .ready ∧ (up (pairS { st := .stale })).pair.st ≠ .ready
    ∧ (let u := up (pairS { st := .stale }); (u.pair.st = .stale ∨ u.pair.st = .orphan) ∧ u.swapping = false)
    ∧ (let u := (pairS { prove := some { step := 3, taken := 0 } }).advance 500000;
      u.pair.prove = some { step := 3, taken := 0 } ∧ u.pair.pntIn = false ∧ 0 + 500000 ≤ u.time.now)
    ∧ (let u := (pairS { st := .active }).advance 2592000000000000;
      u.pair.st ≠ .unpaired ∧ u.pair.warned = false ∧ Cfg.PairCfg.PROVEWARN u.pairCfg0 ≠ 0 ∧ Cfg.PairCfg.PROVEWARN u.pairCfg0 ≤ u.proveAge) := by decide +kernel

def img0 : PairImg := ⟨1, 0, 0, 0, 0, 0, 0, 0, true, true, {}⟩

theorem witness_PairPathRows :
    (up (pairS { hbLine := true })).pair.hbLine = true ∧ (up (pairS {})).pair.hbLine = false
    ∧ (up (pairS { st := .orphan })).pair.st = .orphan ∧ (up (pairS { st := .stale })).pair.st ≠ .orphan
    ∧ (let u := up (pairS { st := .active, pntOut := true, link := true, linkSess := true, ackMiss := 2 });
      u.holds = true ∧ u.pair.link = true ∧ 2 ≤ u.pair.ackMiss ∧ u.pair.linkSess = true)
    ∧ (let u := (pairS { st := .stale, link := true }).advance 250000; u.holds = false ∧ u.pair.link = true ∧ u.pair.imageAt + 250000 ≤ u.time.now)
    ∧ (let u := up (pairS { st := .stale, linkSess := true }); u.standby = true ∧ u.pair.st ≠ .taking ∧ u.imageValid img0 = true)
    ∧ (up lane).standby = false
    ∧ (let u := up (pairS { st := .syncing, image := some img0 }); u.pair.st = .syncing ∧ u.pair.image.isSome = true) := by decide +kernel

/-! ## Ill-formed terms: one for each check of WellFormed -/

def badHdr (f : Hdr → Hdr) : Bool := (Instr.protectGet (f dev) (zeros 4)).wf
def okPacket : Packet := ⟨0x0102, 0, 0, 0, 4, 1, 0, 0, zeros 4, 0, 52⟩

theorem test_wf_header : badHdr id = true ∧ ([(fun h => { h with pair := 16 }), (fun h => { h with flg := 256 }), (fun h => { h with dom := 256 }), (fun h => { h with tag := 65536 }),
    (fun h => { h with seq := 2 ^ 32 }), (fun h => { h with tgt := 2 ^ 32 }), (fun h => { h with launch := 2 ^ 64 }), (fun h => { h with t := 2 ^ 64 })].all fun f => !badHdr f) = true := by
  decide +kernel

theorem test_wf_payload : (Instr.imageWrite dev (zeros 4048)).wf = true ∧ (Instr.imageWrite dev (zeros 4049)).wf = false := by decide +kernel

theorem test_wf_instant : (Instr.tripIn (2 ^ 64 - 1)).wf = true ∧ (Instr.tripIn (2 ^ 64)).wf = false := by decide +kernel

theorem test_wf_packet : (Instr.sqWrite 0 0 okPacket).wf = true ∧ (Instr.sqWrite 0 0 { okPacket with size := 51 }).wf = false
    ∧ (Instr.ethernetPacket 0 16 okPacket).wf = false ∧ (Instr.sqPi 0 0 0 [{ okPacket with opc := 65536 }] false false).wf = false := by decide +kernel

theorem test_wf_hello : (Instr.hello 0 .spi ⟨0, 0, 0, 0, 0, 0⟩).wf = true ∧ (Instr.hello 0 .spi ⟨0, 0, 0, 2 ^ 256, 0, 0⟩).wf = false := by decide +kernel

theorem test_wf_peer : (Instr.handshakeReply 0 ⟨0xFE, 0, false, 0, 0, 0, 0⟩).wf = true ∧ (Instr.handshakeReply 0 ⟨0xFD, 0, false, 0, 0, 0, 0⟩).wf = false := by decide +kernel

def okFrame : CanRx := ⟨5, false, false, false, false, false, 8, zeros 8, 0, false⟩

/-- A base identifier has 11 bits, a classical frame a DLC of at most 8, and no FD frame is remote. -/
theorem test_wf_can_frame : (Instr.canFrameReceived 0 0 okFrame).wf = true ∧ (Instr.canFrameReceived 0 0 { okFrame with id := 2048 }).wf = false
    ∧ (Instr.canFrameReceived 0 0 { okFrame with dlc := 9 }).wf = false ∧ (Instr.canFrameReceived 0 0 { okFrame with fd := true, rtr := true }).wf = false
    ∧ (Instr.canWake 0 6 none).wf = false := by decide +kernel

theorem test_wf_can_error : (Instr.canBusError 0 0 ⟨1, 8, 0, false⟩).wf = true ∧ (Instr.canBusError 0 0 ⟨1, 512, 0, false⟩).wf = false := by decide +kernel

theorem test_wf_trunk_frame : (Instr.trunkFrameReceived 0 ⟨0, 0, 1, 0, true, true, false, []⟩).wf = true ∧ (Instr.trunkFrameReceived 0 ⟨12, 0, 1, 0, true, true, false, []⟩).wf = false
    ∧ (Instr.trunkFrameReceived 0 ⟨0, 0, 1, 0, true, true, false, [⟨65536, 0, 0, 0, 0, 0, 0, true⟩]⟩).wf = false := by decide +kernel

theorem test_wf_report : (Instr.carReport 0 23 ⟨0, 0, 2, 0, 0, 0, 3, 0, 0, [], 0⟩).wf = true ∧ (Instr.carReport 0 23 ⟨0, 0, 2, 0, 0, 0, 3, 65536, 0, [], 0⟩).wf = false
    ∧ (Instr.carReport 0 24 ⟨0, 0, 2, 0, 0, 0, 3, 0, 0, [], 0⟩).wf = false := by decide +kernel

theorem test_wf_car_records : (Instr.holdMessage 0 ⟨0, 65536, 0, 0, 0⟩).wf = false ∧ (Instr.permitRecord 0 ⟨65536, 0, 0, 0, 0⟩).wf = false
    ∧ (Instr.doorRequestRecord 0 ⟨0, 256, 0, 0, 0, 0⟩).wf = false ∧ (Instr.dwellExpiry 0 8).wf = false ∧ (Instr.stepLoss 0 4).wf = false := by decide +kernel

theorem test_wf_call : (Instr.terminalCall 0 ⟨1, 5, 9, 1, 1, 2, 1, 0⟩).wf = true ∧ (Instr.terminalCall 0 ⟨2, 5, 9, 1, 1, 2, 1, 0⟩).wf = false := by decide +kernel

theorem test_wf_image : (Instr.pairImage 0 ⟨1, 1, 0, 0, 0, 0, 0, 0, true, true, {}⟩).wf = true ∧ (Instr.pairImage 0 ⟨2 ^ 32, 1, 0, 0, 0, 0, 0, 0, true, true, {}⟩).wf = false := by decide +kernel

theorem test_wf_walk : (Instr.stage3Complete 0 [⟨11, [], [], 0⟩]).wf = true ∧ (Instr.stage3Complete 0 [⟨12, [], [], 0⟩]).wf = false := by decide +kernel

theorem test_wf_indices : (Instr.tick [8388607]).wf = true ∧ (Instr.tick [8388608]).wf = false ∧ (Instr.saturationTrip 0 96).wf = false ∧ (Instr.supplyGroupDrop 0 4 0).wf = false
    ∧ (Instr.soReadbackFault 0 8).wf = false ∧ (Instr.uncorrectableError 0 .rings (2 ^ 20)).wf = false := by decide +kernel

/-! ## Values -/

/-- No row of the table gives bits. -/
theorem test_no_word_spells_a_command : decodeTableWord 16 0x0102 = none := rfl

/-- The check value of the CRC-32 that the sections and frames carry (IEEE 802.3): CRC of the ASCII digits 1 to 9. -/
theorem test_crc32_check_value : crc32 [0x31, 0x32, 0x33, 0x34, 0x35, 0x36, 0x37, 0x38, 0x39] = 0xCBF43926 := by decide +kernel

/-- binary64 by hand: 1/3 rounds to 0x3FD5555555555555, and 0.1 + 0.2 to 0x3FD3333333333334. -/
theorem test_binary64 : (F64.div ⟨0x3FF0000000000000⟩ ⟨0x4008000000000000⟩).bits = 0x3FD5555555555555
    ∧ (F64.add ⟨0x3FB999999999999A⟩ ⟨0x3FC999999999999A⟩).bits = 0x3FD3333333333334 := by decide +kernel

def after (i : Instr) (s : State) : State := match exec i s with | .next t => t | _ => s

/-- R382: after SESSION_REKEY the next packet is of the next epoch, with SEQ 1. -/
theorem test_rekey_restarts_seq : (let r := (after (.sessionRekey dev []) lane).ring 0
    (r.sess.getD {}).epoch = 1 ∧ r.rxSeq = 1) := by decide +kernel

/-- The packet takes the pair's SEQ, and a second packet of the same SEQ is not accepted. -/
theorem test_seq_advances : ((after (.protectGet dev (zeros 4)) lane).ring 0).rxSeq = 2
    ∧ ((after (.protectGet dev (zeros 4)) (after (.protectGet dev (zeros 4)) lane)).ring 0).rxSeq = 2 := by decide +kernel

/-- File 10: a field die receives power with its trip latch set; R405: the device starts in stage 0. -/
theorem test_reset : State.reset.boot.stage = 0 ∧ State.reset.safe.latch = true ∧ (State.reset.ring 0).sess = none := by decide +kernel

/-! ## Not witnessed by evaluation: a LEDGER_CLEAR, a KEY_UPDATE that is applied, and a region whose signatures are valid rest on
the uninterpreted functions of Config, which no evaluation opens (log 5). -/
end Sys2Proof.Tests
end

/-! SUPPORT and PROOF. The rows of start-up (R1-R3, R403-R410, R415, R417): what entering a stage and setting a start-up fault
leave alone, one lemma for each row and branch, and the statement that joins them. -/

namespace Sys2Proof.Startup

open Sys2Proof.Machine Sys2Proof.Safety

/-! ## Outcomes -/

/-- Placing the records of a meaning changes nothing that `device` holds. -/
theorem becomes_of_ok {i : Instr} {s w : State} (h : exec i s = ok w) : Becomes i s w := ⟨w.flush, h, device_flush w⟩

theorem goesOnWith_of_ok {i : Instr} {s w : State} {P : State → Prop} (h : exec i s = ok w) (hP : P w.flush) : GoesOnWith i s P :=
  ⟨w.flush, h, hP⟩

/-! ## Start-up faults and stages -/

@[simp] theorem setFault_boot (m : Nat) (s : State) : (s.setFault m).boot = { s.boot with fault := s.boot.fault ||| m } := rfl
@[simp] theorem setFault_time (m : Nat) (s : State) : (s.setFault m).time = s.time := rfl
@[simp] theorem setFault_vault (m : Nat) (s : State) : (s.setFault m).vault = s.vault := rfl

/-- R406: the entry instants after stage `n` is entered. -/
def stageTimes (n : Nat) (s : State) : List Nat :=
  if s.boot.stage = n then s.boot.stageAt
  else if 1 ≤ n then s.boot.stageAt.set (n - 1) s.uptime else List.replicate 6 0

/-- Entering a stage writes the stage and its entry instant, and no other register of start-up. -/
@[simp] theorem setStage_boot (n : Nat) (s : State) : (s.setStage n).boot = { s.boot with stage := n, stageAt := stageTimes n s } := by
  unfold State.setStage stageTimes
  split
  · next h => rw [← h]
  · rfl

@[simp] theorem setStage_time (n : Nat) (s : State) : (s.setStage n).time = s.time := by
  unfold State.setStage; split <;> rfl
@[simp] theorem setStage_vault (n : Nat) (s : State) : (s.setStage n).vault = s.vault := by
  unfold State.setStage; split <;> rfl
@[simp] theorem setStage_trunks (n : Nat) (s : State) : (s.setStage n).trunks = s.trunks := by
  unfold State.setStage; split <;> rfl

/-- R2, R31: the strap fault persists as bit 0 of BOOT_FAULT. -/
theorem faultsPersisting_strap (s : State) : s.faultsPersisting.testBit 0 = s.boot.strapF := by
  have hparity : s.faultsPersisting % 2 = b2n s.boot.strapF % 2 := by
    unfold State.faultsPersisting
    omega
  rw [Nat.testBit_zero, hparity]
  cases s.boot.strapF <;> rfl

/-- R31, R405: a failed SRAM self-test is bit 5 of what stage 1 sets, beside the vault's bit 3. -/
theorem bistFault_bit (c : Prop) [Decidable c] {bistOk : Bool} (hb : bistOk = false) :
    ((if c then 8 else 0) + (if bistOk then 0 else 0x20)).testBit 5 = true := by
  subst hb
  split <;> decide

/-! ## The rows -/

section Rows

variable {s u v w : State} {t : Nat} (hu : u = s.advance t)
include hu

/-! ### Power-good, RST_N and the supplies (R403, R419, R424) -/

theorem powerGood_becomes (h : u.boot.powerGood = false) : Becomes (.powerGood t) s { u with
    boot := { u.boot with
      powerGood := true, held := true, simNow := 0
      nextCause := u.boot.nextCause ||| b2n ((u.power.mode == .off || u.power.mode == .batteryOnly) && u.boot.nextCause &&& 0x20 == 0) }
    power := { u.power with mode := .off } } := by
  subst hu
  exact becomes_of_ok (if_neg (by simp [h]))

theorem rstN_low_becomes (h : u.boot.powerGood = true) :
    Becomes (.rstN t true) s ((u.controlReset 0x02).modBoot fun b => { b with rstLow := true }) := by
  subst hu
  exact becomes_of_ok (if_pos h)

theorem rstN_low_unpowered_becomes (h : u.boot.powerGood = false) :
    Becomes (.rstN t true) s (u.modBoot fun b => { b with rstLow := true }) := by
  subst hu
  exact becomes_of_ok (if_neg (by simp [h]))

theorem rstN_high_becomes : Becomes (.rstN t false) s (u.modBoot fun b => { b with rstLow := false }) := by
  subst hu
  exact becomes_of_ok rfl

theorem supplyOutOfRange_becomes (h : u.boot.powerGood = true)
    (hv : v = if u.meters && u.meter.part == 0 then u.modMeter fun m => m.commitAt u.time.now else u) :
    Becomes (.supplyOutOfRange t) s ((v.controlReset 0x20).modBoot fun b => { b with powerGood := false }) := by
  subst hu hv
  exact becomes_of_ok (if_neg (by simp [h]))

theorem powerLoss_becomes : Becomes (.powerLoss t) s u.unpower := by
  subst hu
  exact becomes_of_ok rfl

/-! ### The release of reset (R1-R3, R68, R405) -/

/-- The straps, the cause and the time are taken, and the fault bits whose condition persists are set. -/
def released (straps : Straps) (s : State) : State :=
  let x := ({ s with time := loadTime straps.coarse s.time } : State).modBoot fun b => { b with
    held := false, role := roleOf straps.roleA straps.roleB, strapF := roleOf straps.roleA straps.roleB == .none, unit := b2n straps.pairUnit
    cause := b.nextCause, nextCause := 0, startAt := (loadTime straps.coarse s.time).now, shutMark := b.shutRecord, shutRecord := false }
  x.setFault x.faultsPersisting

theorem exec_resetRelease (straps : Straps) (hg : u.boot.powerGood = true) (hh : u.boot.held = true) (hl : u.boot.rstLow = false) :
    exec (.resetRelease t straps) s
      = ok (if roleOf straps.roleA straps.roleB = .none then released straps u else (released straps u).setStage 1) := by
  subst hu
  exact if_neg (by simp [hg, hh, hl])

theorem resetRelease_begins_stage1 (straps : Straps) (hg : u.boot.powerGood = true) (hh : u.boot.held = true) (hl : u.boot.rstLow = false)
    (hr : roleOf straps.roleA straps.roleB ≠ .none) :
    GoesOnWith (.resetRelease t straps) s fun x => x.boot.stage = 1 ∧ x.boot.role = roleOf straps.roleA straps.roleB ∧ x.boot.strapF = false
      ∧ x.boot.cause = u.boot.nextCause ∧ x.boot.nextCause = 0 ∧ x.boot.held = false ∧ x.time = (loadTime straps.coarse u.time) := by
  refine goesOnWith_of_ok (exec_resetRelease hu straps hg hh hl) ?_
  rw [if_neg hr]
  simp [released, hr]

theorem resetRelease_strap_fault (straps : Straps) (hg : u.boot.powerGood = true) (hh : u.boot.held = true) (hl : u.boot.rstLow = false)
    (h0 : u.boot.stage = 0) (hr : roleOf straps.roleA straps.roleB = .none) :
    GoesOnWith (.resetRelease t straps) s fun x => x.boot.stage = 0 ∧ x.boot.strapF = true ∧ bit x.boot.fault 0 = true := by
  refine goesOnWith_of_ok (exec_resetRelease hu straps hg hh hl) ?_
  rw [if_pos hr]
  simp [released, hr, h0, Nat.testBit_or, faultsPersisting_strap, -Nat.testBit_zero]

/-! ### Stages 1 and 2 (R364, R405, R410, R417) -/

theorem vaultCheckComplete_enters_stage2 (r : Stage1Result) (h : u.boot.stage = 1) :
    GoesOnWith (.vaultCheckComplete t r) s fun x => x.boot.stage = 2 ∧ x.boot.mRom = le 48 Config.mRom.toNat
      ∧ x.vault = Vault.check r u.sec.cust.isSome u.vault ∧ (r.bistOk = false → bit x.boot.fault 5 = true) := by
  subst hu
  refine goesOnWith_of_ok (if_neg (by simp [h])) ?_
  refine ⟨by simp, by simp, by simp, fun hb => ?_⟩
  simp only [State.flush_boot, setStage_boot, setFault_boot, Nat.testBit_or, Bool.or_eq_true]
  exact .inr (bistFault_bit _ hb)

theorem imageChosen_none_recovers (r : Stage2Result) (h : u.boot.stage = 2) (hr : u.boot.recovery = false)
    (hv : v = if r.mramOk then u else u.setFault 0x10) (hc : v.chooseImage = (w, none)) :
    Becomes (.imageChosen t r) s (w.modBoot fun b => { b with recovery := true, recBytes := 0 }) := by
  subst hu hv
  refine becomes_of_ok ((if_neg (by simp [h, hr])).trans ?_)
  rw [hc]

theorem imageChosen_some_enters_stage3 (r : Stage2Result) (n : Nat) (h : u.boot.stage = 2) (hr : u.boot.recovery = false)
    (hv : v = if r.mramOk then u else u.setFault 0x10) (hc : v.chooseImage = (w, some n)) :
    exec (.imageChosen t r) s
      = .next ((((w.modBoot fun b => { b with image := n, mFw := imgMeasure (w.image n).mem }).releaseKeys r).findHead r.ledgerTorn).enterStage3).flush := by
  subst hu hv
  refine (if_neg (by simp [h, hr])).trans ?_
  rw [hc]
  rfl

/-! ### Recovery (R410) -/

/-- R410: the recovery bytes are in the image A region, which is EMPTY until the image is complete. -/
def recoveryWritten (off : Nat) (data : List Byte) (s : State) : State :=
  s.modBoot fun b => { b with
    imgA := { b.imgA with state := 0, mem := b.imgA.mem.writeAll off data }
    recBytes := if off ≤ b.recBytes then max b.recBytes (off + data.length) else b.recBytes }

/-- R410: the image in the region is complete, its signatures verify, and it is no older than counter 2 allows. -/
def recoveryDone (s : State) : Prop :=
  headerLen ≤ s.boot.recBytes ∧ headerLen + imgCodeLen s.boot.imgA.mem ≤ s.boot.recBytes
    ∧ imgSound s.boot.role s.boot.imgA.mem = true ∧ s.vault.ctr.getD 2 0 ≤ imgSvn s.boot.imgA.mem

theorem imageRecoveryWrite_kept (off : Nat) (data : List Byte) (hr : u.boot.recovery = true) (hl : off + data.length ≤ 4194304)
    (h : ¬ recoveryDone (recoveryWritten off data u)) : Becomes (.imageRecoveryWrite t off data) s (recoveryWritten off data u) := by
  subst hu
  exact becomes_of_ok ((if_neg (by simp [hr, hl])).trans (if_neg h))

theorem imageRecoveryWrite_boots (off : Nat) (data : List Byte) (hr : u.boot.recovery = true) (hl : off + data.length ≤ 4194304)
    (h : recoveryDone (recoveryWritten off data u)) :
    Becomes (.imageRecoveryWrite t off data) s
      (((recoveryWritten off data u).modImage 0 fun x => { x with state := 1, tries := 0 }).controlReset 0) := by
  subst hu
  exact becomes_of_ok ((if_neg (by simp [hr, hl])).trans (if_pos h))

/-! ### Stages 3 to 5 (R159, R405, R415) -/

theorem stage3Complete_enters_stage4 (walks : List TrunkWalk) (h3 : u.boot.stage = 3) (ht : u.safe.tested = true) (hn : u.safe.testing = none)
    (hp : u.pair.st = .unpaired ∨ u.pair.pntOut = true ∨ u.pair.pntIn = true) :
    GoesOnWith (.stage3Complete t walks) s fun x => x.boot.stage = 4 ∧ (u.boot.role = .lane → x.trunks = (u.walkTrunks walks).trunks)
      ∧ (u.boot.role ≠ .lane → x.trunks = u.trunks) := by
  subst hu
  refine goesOnWith_of_ok (if_pos ⟨h3, ht, Option.isNone_iff_eq_none.mpr hn, hp⟩) ⟨by simp, fun hr => ?_, fun hr => ?_⟩
  · rw [if_pos hr]; simp
  · rw [if_neg hr]; simp

theorem stage5Entry_becomes (h : u.mayEnter5 = true) (hv : v = u.setStage 5) :
    Becomes (.stage5Entry t) s (if u.boot.role = .lane then v.openBooks.startEnum none 4095 else v.homeInPlace) := by
  subst hu hv
  exact becomes_of_ok (if_pos h)

theorem stage5Ready_becomes (h : u.ready5Holds = true) (hv : v = u.modBoot fun b => { b with ready5 := true }) :
    Becomes (.stage5Ready t) s
      (if bit (Cfg.Start.SFLG (u.one Cfg.Start.sec Cfg.Start.dflt)) 0 && u.serves && !u.chk.autoDone && u.chk.running.isNone && u.chk.learn.isNone
       then v.beginCheck none v.cfgCrc else v) := by
  subst hu hv
  exact becomes_of_ok (if_pos h)

end Rows

/-- Settles O42: one lemma for each row and branch. A recovery write is split by whether the image in the region is complete and
sound (`recoveryDone`). What RST_N and the supplies reset, and the Pennant condition of stage 3, are the model's readings (log 67). -/
theorem startUpRowsEnterTheirStage : Obligations.StartUpRowsEnterTheirStage := by
  intro s u v t straps r1 r2 walks off data hu
  refine ⟨powerGood_becomes hu, rstN_low_becomes hu, rstN_low_unpowered_becomes hu, rstN_high_becomes hu,
    resetRelease_begins_stage1 hu straps, resetRelease_strap_fault hu straps, supplyOutOfRange_becomes hu, powerLoss_becomes hu,
    vaultCheckComplete_enters_stage2 hu r1, fun _ => imageChosen_none_recovers hu r2, fun _ n => imageChosen_some_enters_stage3 hu r2 n,
    ?unsound, ?sound, stage3Complete_enters_stage4 hu walks, stage5Entry_becomes hu, stage5Ready_becomes hu⟩
  case unsound =>
    intro hr hl hs
    refine imageRecoveryWrite_kept hu off data hr hl fun ⟨_, _, hsound, _⟩ => ?_
    exact Bool.false_ne_true (hs.symm.trans hsound)
  case sound =>
    intro m hr hl hm hv hhead hcode hsound hsvn
    subst hm hv
    exact imageRecoveryWrite_boots hu off data hr hl ⟨hhead, hcode, hsound, hsvn⟩

end Sys2Proof.Startup

/-! SUPPORT and PROOF. The rows of the demand inputs (R264, R265) and of the causes of R266 (R25, R27, R30, R277): what a channel
in demand and a pair that differs come to, one lemma for each row and branch, and the statement that joins them. -/

namespace Sys2Proof.SafetyInputs

open Sys2Proof.Machine Sys2Proof.Safety
open Sys2Proof.Startup (becomes_of_ok)

/-! ## What the rows write -/

/-- R264, R269: the ARM bit of the pair of record `r`. -/
abbrev armed (s : State) (r : List Byte) : Bool := (s.safe.pairs.getD (Cfg.SafePair.PAIR r) {}).armed

/-- R265, R266: the pair of record `r` trips the network of the channel in demand, A or (`b`) B. -/
abbrev tripPair (r : List Byte) (b : Bool) (s : State) : State := s.trip (2 ^ Cfg.SafePair.PAIR r) (if b then 2 else 1)

/-- R264: a pair whose channels have differed for DISCT is DISC, and event source 0x71 is told. -/
def discTold (pair : Nat) (s : State) : State :=
  let v := s.modPair pair fun y => { y with st := .disc, bothDem := false, closedT := 0 }
  v.fire 0x71 0 0 (v.safeItems 0 pair 0xFF)

/-! ## The rows -/

section Rows

variable {s u v : State} {t : Nat} (hu : u = s.advance t)
include hu

/-! ### Channels (R264, R265) -/

theorem demand_no_pair_becomes {si : Nat} (width : Nat) (hp : u.siPair si = none) :
    Becomes (.safetyInputDemand t si width) s (u.setSi si false) := by
  subst hu
  refine becomes_of_ok (?_ : execSafetyInputDemand t si width s = _)
  unfold execSafetyInputDemand
  simp only [hp]

/-- R265: a demand of 20 ns or longer settles the pair, and trips it where it is armed. -/
theorem exec_demand_long {si width : Nat} {r : List Byte} {b : Bool} (hp : u.siPair si = some (r, b)) (hw : 20 ≤ width) :
    exec (.safetyInputDemand t si width) s
      = ok ((if armed u r then tripPair r b ((u.setSi si (demandLevel r b)).settlePair r)
          else (u.setSi si (demandLevel r b)).settlePair r).inspWatch u.ownInsp) := by
  subst hu
  change execSafetyInputDemand t si width s = _
  unfold execSafetyInputDemand
  simp only [hp, hw, decide_true, if_true, Bool.true_or, Bool.and_true]

theorem demand_long_armed_becomes {si width : Nat} {r : List Byte} {b : Bool} (hp : u.siPair si = some (r, b)) (hw : 20 ≤ width)
    (ha : armed u r = true) :
    Becomes (.safetyInputDemand t si width) s
      ((tripPair r b ((u.setSi si (demandLevel r b)).settlePair r)).inspWatch u.ownInsp) :=
  becomes_of_ok ((exec_demand_long hu hp hw).trans (by rw [if_pos ha]))

theorem demand_long_unarmed_becomes {si width : Nat} {r : List Byte} {b : Bool} (hp : u.siPair si = some (r, b)) (hw : 20 ≤ width)
    (ha : armed u r = false) :
    Becomes (.safetyInputDemand t si width) s (((u.setSi si (demandLevel r b)).settlePair r).inspWatch u.ownInsp) :=
  becomes_of_ok ((exec_demand_long hu hp hw).trans (by rw [if_neg (by simp [ha])]))

/-- R265: whether an opening shorter than 20 ns trips an armed pair is the free value taken here (logs 6 and 47); the channel is not
in demand after it. -/
theorem demand_short_becomes {si width : Nat} {r : List Byte} {b : Bool} (hp : u.siPair si = some (r, b)) (hw : width < 20)
    (hv : v = { u with free := u.free + 1 }) :
    Becomes (.safetyInputDemand t si width) s
      ((if armed u r && Config.shortOpeningTrips u.free then tripPair r b v else v).inspWatch u.ownInsp) := by
  subst hu hv
  refine becomes_of_ok (?_ : execSafetyInputDemand t si width s = _)
  have hshort : decide (20 ≤ width) = false := decide_eq_false (Nat.not_le.mpr hw)
  unfold execSafetyInputDemand
  simp only [hp, hshort, Bool.false_or, Bool.false_eq_true, if_false]

theorem permit_becomes {si : Nat} {r : List Byte} {b : Bool} (hp : u.siPair si = some (r, b)) :
    Becomes (.safetyInputPermit t si) s
      (((u.setSi si (if armed u r then !demandLevel r b else !u.safe.si.getD si false)).settlePair r).inspWatch u.ownInsp) := by
  subst hu
  refine becomes_of_ok (?_ : execSafetyInputPermit t si s = _)
  unfold execSafetyInputPermit
  simp only [hp]

theorem permit_no_pair_becomes {si : Nat} (hp : u.siPair si = none) :
    Becomes (.safetyInputPermit t si) s (u.setSi si (!u.safe.si.getD si false)) := by
  subst hu
  refine becomes_of_ok (?_ : execSafetyInputPermit t si s = _)
  unfold execSafetyInputPermit
  simp only [hp]

theorem discrepancy_becomes {pair t0 : Nat} {r : List Byte} (hr : u.pairCfg pair = some r)
    (hd : (u.safe.pairs.getD pair {}).differAt = some t0) (hs : (u.safe.pairs.getD pair {}).st ≠ .disc)
    (ht : t0 + 1000000 * Cfg.SafePair.DISCT r ≤ u.time.now) :
    Becomes (.discrepancy t pair) s
      ((if (u.safe.pairs.getD pair {}).armed then (discTold pair u).fault 0x02 0xFF 0xFF else discTold pair u).inspWatch u.ownInsp) := by
  subst hu
  refine becomes_of_ok (?_ : execDiscrepancy t pair s = _)
  unfold execDiscrepancy
  simp only [hr, hd]
  exact if_neg (not_or.mpr ⟨hs, Nat.not_lt.mpr ht⟩)

/-! ### Faults of the safety cores (R25, R27, R30, R266) -/

theorem lockstepMismatch_becomes : Becomes (.lockstepMismatch t) s (u.coreFault 0x100 0x08) := by
  subst hu
  exact becomes_of_ok rfl

theorem watchdogExpiry_becomes : Becomes (.watchdogExpiry t) s (u.coreFault 0x100 0x04) := by
  subst hu
  exact becomes_of_ok rfl

theorem clockFault_becomes :
    Becomes (.clockFault t) s (((u.modBoot fun b => { b with clockFault := true }).coreFault 0x2000 0x40).setFault 0x100) := by
  subst hu
  exact becomes_of_ok rfl

theorem clockFaultClear_becomes :
    Becomes (.clockFaultClear t) s ((u.modBoot fun b => { b with clockFault := false }).endCause 0x2000) := by
  subst hu
  exact becomes_of_ok rfl

theorem uncorrectable_safety_becomes (word : Nat) : Becomes (.uncorrectableError t .safety word) s (u.coreFault 0x4000 0x80) := by
  subst hu
  exact becomes_of_ok rfl

/-! ### Errors in other memories (R27) -/

theorem uncorrectable_motion_becomes (word : Nat) (hr : u.boot.role = .lane) :
    Becomes (.uncorrectableError t .motion word) s (u.carNums.foldl (fun s c => s.setTrust c 0) u) := by
  subst hu
  exact becomes_of_ok (congrArg ok (if_pos hr))

/-- R27: the error is counted and its word poisoned; the event has no source number (log 46). -/
def wordPoisoned (g : SramRegion) (word : Nat) (s : State) : State :=
  { s with ecc := {
      faults := s.ecc.faults + 1
      poisoned := if s.ecc.poisoned.contains (g, word) then s.ecc.poisoned else s.ecc.poisoned ++ [(g, word)] } }

theorem uncorrectable_other_becomes {g : SramRegion} (word : Nat) (hs : g ≠ .safety) (hm : g ≠ .motion) :
    Becomes (.uncorrectableError t g word) s (wordPoisoned g word u) := by
  subst hu
  refine becomes_of_ok (?_ : execUncorrectableError t g word s = _)
  cases g
  case safety => exact absurd rfl hs
  case motion => exact absurd rfl hm
  all_goals rfl

/-! ### The links to the field dies (R31, R266, R277) -/

theorem dieLinkLoss_becomes (die : Nat)
    (hv : v = { u with field := { u.field with die := u.field.die.modify die fun d => { d with linkDown := true } } }) :
    Becomes (.dieLinkLoss t die) s
      (((v.setFault (64 * 2 ^ (die % 2))).tripCause (0x200 * 2 ^ (die % 2))).fault 0x04 0xFF 0xFF) := by
  subst hu hv
  exact becomes_of_ok rfl

theorem dieLinkRestore_becomes (die : Nat)
    (hv : v = { u with field := { u.field with die := u.field.die.modify die fun d => { d with linkDown := false } } }) :
    Becomes (.dieLinkRestore t die) s (v.endCause (0x200 * 2 ^ (die % 2))) := by
  subst hu hv
  exact becomes_of_ok rfl

end Rows

/-- Settles O53: one lemma for each row and branch. Demands are split by whether the input feeds a pair and, at 20 ns, by their
width. Whether a shorter opening trips is a free value (logs 6 and 47), and that an error in another memory is counted
and poisoned without an event is the model's reading (log 46). -/
theorem safetyInputRows : Obligations.SafetyInputRows := by
  intro s u v t si width pair die word r b hu
  refine ⟨demand_no_pair_becomes hu width, demand_long_armed_becomes hu, demand_long_unarmed_becomes hu, demand_short_becomes hu,
    permit_becomes hu, permit_no_pair_becomes hu, ?disc,
    lockstepMismatch_becomes hu, watchdogExpiry_becomes hu, clockFault_becomes hu, clockFaultClear_becomes hu,
    uncorrectable_safety_becomes hu word, uncorrectable_motion_becomes hu word, fun _ => uncorrectable_other_becomes hu word,
    dieLinkLoss_becomes hu die, dieLinkRestore_becomes hu die rfl⟩
  case disc =>
    intro t0 hr hd hs ht hv
    subst hv
    exact discrepancy_becomes hu hr hd hs ht

end Sys2Proof.SafetyInputs

/-! SUPPORT and PROOF. The invariant of the ring pairs (R36, R42, R63): placing the held records of a pair leaves none that it may
carry and has room for, every command ends by placing the records of all pairs, and an idle edge moves none. What reset leaves. -/

namespace Sys2Proof.Served

open Sys2Proof.Machine Sys2Proof.Safety

/-! ## One round of placing -/

theorem carries_eq (r : Ring) (x : Rec) : carries r x = !(r.rekeyOnly && !(x.src.isNone && rekeyOpc x.opc)) := by
  unfold carries
  cases r.rekeyOnly <;> cases x.src.isNone && rekeyOpc x.opc <;> rfl

/-- R48: near its limit, the pair may carry none of the records. -/
def Bars (r : Ring) (l : List Rec) : Prop := ∀ x ∈ l, carries r x = false

/-- Placing moves the pair no further from its limit. -/
theorem place_rekeyOnly (r : Ring) (x : Rec) (h : r.rekeyOnly = true) : (r.place x).rekeyOnly = true := by
  have hseq : (r.place x).rxSeq = r.rxSeq ∧ (r.place x).txSeq = r.txSeq + 1 := by
    unfold Ring.place; dsimp only; split <;> exact ⟨rfl, rfl⟩
  simp only [Ring.rekeyOnly, hseq, Bool.or_eq_true, decide_eq_true_eq] at h ⊢
  omega

theorem Bars.place {r : Ring} {l : List Rec} (h : Bars r l) (x : Rec) : Bars (r.place x) l := by
  intro y hy
  have hr := h y hy
  simp only [carries, Bool.or_eq_false_iff, Bool.not_eq_false'] at hr ⊢
  exact ⟨place_rekeyOnly r x hr.1, hr.2⟩

/-- What a pair may not carry stands behind what it may not carry. -/
theorem Bars.snoc {r : Ring} {x : Rec} (h : Bars r r.held) (hx : carries r x = false) :
    Bars { r with held := r.held ++ [x] } (r.held ++ [x]) := by
  intro y hy
  rcases List.mem_append.mp hy with hy | hy
  · exact h y hy
  · rw [List.mem_singleton.mp hy]; exact hx

/-- The first record that the pair may carry, if one waits, finds no room. -/
def Stuck (r : Ring) : Prop := ((r.held.find? (carries r)).all fun x => !r.room x) = true

theorem stuck_of_bars {r : Ring} (h : Bars r r.held) : Stuck r := by
  have hn : r.held.find? (carries r) = none := List.find?_eq_none.mpr fun x hx => by simp [h x hx]
  simp [Stuck, hn]

theorem stuck_of_no_room {r : Ring} {x : Rec} {xs : List Rec} (h : Bars r r.held) (hx : carries r x = true) (hr : r.room x = false) :
    Stuck { r with held := r.held ++ x :: xs } := by
  have hn : r.held.find? (carries r) = none := List.find?_eq_none.mpr fun y hy => by simp [h y hy]
  have hf : (r.held ++ x :: xs).find? (carries r) = some x := by simp [List.find?_append, hn, hx]
  unfold Stuck
  change ((r.held ++ x :: xs).find? (carries r)).all (fun y => !r.room y) = true
  simp [hf, hr]

/-- A round that places no reply which ends an epoch stops for want of room, or at what the pair may not carry. -/
theorem pumpList_stuck : ∀ (l : List Rec) (r : Ring), Bars r r.held → (r.pumpList l).2.any Rec.rekeys = false → Stuck (r.pumpList l).1
  | [], _, h, _ => stuck_of_bars h
  | x :: xs, r, h, hk => by
    unfold Ring.pumpList at hk ⊢
    by_cases hc : (r.rekeyOnly && !(x.src.isNone && rekeyOpc x.opc)) = true
    · rw [if_pos hc] at hk ⊢
      have hx : carries r x = false := by rw [carries_eq, hc]; rfl
      exact pumpList_stuck xs _ (h.snoc hx) hk
    · rw [if_neg hc] at hk ⊢
      have hx : carries r x = true := by rw [carries_eq, Bool.eq_false_iff.mpr hc]; rfl
      cases hr : r.room x with
      | false =>
        simp only [Bool.false_and, Bool.false_eq_true, if_false]
        exact stuck_of_no_room h hx hr
      | true =>
        cases hy : x.rekeys with
        | true => simp [hr, hy] at hk
        | false =>
          simp only [hr, hy, Bool.and_false, Bool.false_eq_true, if_false, if_true, List.any_cons, Bool.false_or] at hk ⊢
          exact pumpList_stuck xs _ (by rw [Ring.place_held]; exact h.place x) hk

/-- A round that ends an epoch leaves fewer records. -/
theorem pumpList_rekey_shorter : ∀ (l : List Rec) (r : Ring), (r.pumpList l).2.any Rec.rekeys = true →
    (r.pumpList l).1.held.length < r.held.length + l.length
  | [], _, hk => by simp [Ring.pumpList] at hk
  | x :: xs, r, hk => by
    unfold Ring.pumpList at hk ⊢
    split at hk
    next hc =>
      rw [if_pos hc]
      have := pumpList_rekey_shorter xs _ hk
      simp only [List.length_append, List.length_cons, List.length_nil] at this ⊢
      omega
    next hc =>
      rw [if_neg hc]
      split at hk
      next hr =>
        rw [if_pos hr]
        change (r.held ++ xs).length < r.held.length + (x :: xs).length
        simp
      next hr =>
        rw [if_neg hr]
        split at hk
        next hroom =>
          rw [if_pos hroom]
          have hy : x.rekeys = false := by simpa [hroom] using hr
          have := pumpList_rekey_shorter xs (r.place x) (by simpa [hy] using hk)
          simp only [Ring.place_held, List.length_cons] at this ⊢
          omega
        next => simp at hk

/-! ## A pair, placed -/

theorem pumpAll_stuck : ∀ (n : Nat) (r : Ring), r.held.length < n → Stuck (r.pumpAll n).1
  | 0, _, h => absurd h (Nat.not_lt_zero _)
  | n + 1, r, h => by
    unfold Ring.pumpAll
    dsimp only
    split
    next hk =>
      have := pumpList_rekey_shorter r.held { r with held := [] } hk
      refine pumpAll_stuck n _ ?_
      simp only [List.length_nil] at this
      omega
    next hk => exact pumpList_stuck r.held { r with held := [] } (fun _ hx => absurd hx List.not_mem_nil) (Bool.eq_false_iff.mpr hk)

theorem isSome_noted {α : Type} (b : Bool) (a : α) : ((if b then some a else none).isSome == b) = true := by cases b <;> rfl

/-- R36, R42, R63: a pair is served once its records are placed. -/
theorem pump_served (now : Nat) (r : Ring) : ringServed (r.pump now).1 = true := by
  have hstuck := pumpAll_stuck (r.held.length + 1) r (Nat.lt_succ_self _)
  unfold ringServed
  rw [Bool.and_eq_true]
  exact ⟨hstuck, isSome_noted _ _⟩

theorem default_served : ringServed {} = true := by decide

/-! ## All pairs -/

theorem ring_pumpRing (p q : Nat) (s : State) :
    (s.pumpRing p).ring q = if p = q ∧ q < s.rings.length then ((s.ring q).pump s.time.now).1 else s.ring q := by
  unfold State.ring
  rw [State.pumpRing_rings, List.getD_eq_getElem?_getD, List.getD_eq_getElem?_getD, List.getElem?_set]
  by_cases hp : p = q
  · subst hp
    by_cases hl : p < s.rings.length <;> simp [hl, State.ring]
  · simp [hp]

/-- Placing the records of one pair serves it, and leaves the others as they are. -/
theorem pumpRing_served (p q : Nat) (s : State) (h : p = q ∨ ringServed (s.ring q) = true) : ringServed ((s.pumpRing p).ring q) = true := by
  rw [ring_pumpRing]
  split
  · exact pump_served _ _
  · next hn =>
    rcases h with hp | hs
    · have : s.ring q = {} := by
        have hl : ¬ q < s.rings.length := fun hl => hn ⟨hp, hl⟩
        simp [State.ring, List.getD, hl]
      rw [this]; exact default_served
    · exact hs

theorem pumpRings_served (q : Nat) : ∀ (l : List Nat) (s : State), q ∈ l ∨ ringServed (s.ring q) = true →
    ringServed ((l.foldl (fun s p => s.pumpRing p) s).ring q) = true
  | [], _, h => h.resolve_left List.not_mem_nil
  | p :: ps, s, h => by
    rw [List.foldl_cons]
    apply pumpRings_served q ps
    rcases h with h | h
    · rcases List.mem_cons.mp h with h | h
      · exact .inr (pumpRing_served p q s (.inl h.symm))
      · exact .inl h
    · exact .inr (pumpRing_served p q s (.inr h))

/-- The end of every meaning serves every pair, whatever the state was. -/
theorem flush_allServed (s : State) : AllServed s.flush := by
  intro q hq
  have hm : q ∈ pairNums := List.mem_range.mpr hq
  unfold State.flush
  dsimp only
  split <;> exact pumpRings_served q pairNums _ (.inl hm)

/-! ## Commands -/

/-- The outcome of a meaning: a next state, its records placed. -/
def Flushes (o : Host.Outcome State Fault Refusal) : Prop := ∃ x, o = ok x

theorem flushes_ok (x : State) : Flushes (ok x) := ⟨x, rfl⟩

/-- Every branch of a register, transport, boundary or event row ends by placing records. -/
theorem row_flushes (i : Instr) (s : State) (hi : cardOf i = none) : Flushes (exec i s) := by
  cases i <;> cases hi
  all_goals
    dsimp only [exec,
      execSqPi, execEqCi, execRingCfg, execRingErr, execBootFault, execRegisterWrite, execWindowRead, execSqWrite, execEqRead,
      execEthernetPacket, execHello, execFinish, execHandshakeTimeout, execHandshakeFragmentRead, execImageRecoveryWrite, execEqHeldFull,
      execTick, execFastTick, execProtectTableStored, execFrameStart, execTrunkFrameReceived, execLaunch, execDeviceMilestone,
      execBrkliftTimeout, execBrkengTimeout, execCarReport, execCarReportTimeout, execTapeLost, execSourceDisagreeing, execHoldMessage,
      execHoldtoLapse, execPermitRecord, execDoorRequestRecord, execPermitTimeout, execRedwellExpiry, execReopwaitTimeout, execLcholdExpiry,
      execDwellExpiry, execStepLoss, execRegulationFailure, execChopperExit, execCltimeTimeout, execHomingTravelFault, execStepInputOverrun,
      execSaturationTrip, execPlausibilityTrip, execInjectionEnd, execCaptureComplete, execAgingReached, execBooksRebuild,
      execWaitmaxExpiry, execLearnRunEnd, execEnumerationEnd, execTerminalCall, execCallDeadline, execReeval, execCallidRelease,
      execSafetyInputDemand, execDiscrepancy, execLockstepMismatch, execWatchdogExpiry, execClockFault, execUncorrectableError,
      execDieLinkLoss, execTripIn, execPeriodicTest, execSelfTestEnd, execSoReadbackFault, execFieldInputTransition, execSupplyGroupDrop,
      execSupplyGroupRestore, execReadbackFault, execThermalLatch, execKeepAlive, execWatchdogRelease, execCanFrameReceived,
      execBackoffExpiry, execCanTransmitDone, execCanExpire, execBusOff, execBusOffRecovery, execVerifytExpiry, execDetwaitExpiry,
      execRateMismatch, execSleepEntry, execCanWake, execReferenceDue, execPtpSync, execSyncLoss, execHoldoverLimit, execCycleEnd,
      execHalfCycle, execSagholdExpiry, execBrownOutWarning, execPulseOutput, execMeterPulse, execCmpwinExpiry, execPairImage,
      execHeartbeatLoss, execPairLinkLoss, execSyncComplete, execPennantHoldExpiry, execPennantClaim, execPennantLineFault, execHotTake,
      execColdTake, execProveTakeTimeout, execProvewarnReached, execTamperDetected, execBatteryLoss, execPowerGood, execRstN,
      execResetRelease, execSupplyOutOfRange, execPerstN, execVaultCheckComplete, execImageChosen, execStage3Complete, execStage5Entry,
      execStage5Ready, execDeadlinePassed, execCommandedReset, execIdleEntry, execWake, execEnableCheckComplete, execPwmPeriod,
      execConfigStoreWritten, execKeyOpComplete, execTripEvalComplete, execTripEvalTimeout, execSafetyResetTimeout,
      execMsixModerationExpiry, execCanBusError, execPtpAnnounce, execClockFaultClear, execDieLinkRestore, execSafetyInputPermit,
      execTripInRelease, execHeartbeatRestore, execPairImageAck, execPntInRise, execHandshakeReply, execPowerLoss, execStaletExpiry,
      execTrngHealthFailure]
    (repeat' split) <;> exact flushes_ok _

/-- No command stops: each answers a next state, its records placed. -/
theorem exec_flushes (i : Instr) (s : State) : Flushes (exec i s) := by
  cases hi : cardOf i with
  | none => exact row_flushes i s hi
  | some c => exact ⟨_, exec_cardOf hi s⟩

theorem exec_allServed {i : Instr} {s s' : State} (h : exec i s = .next s') : AllServed s' := by
  obtain ⟨x, hx⟩ := exec_flushes i s
  obtain rfl : x.flush = s' := Host.Outcome.next.inj (hx.symm.trans h)
  exact flush_allServed x

@[simp] theorem idleEdge_rings (s : State) : (idleEdge s).rings = s.rings := by
  unfold idleEdge
  split <;> rfl

theorem AllServed.of_rings {s t : State} (h : AllServed s) (e : t.rings = s.rings) : AllServed t := by
  intro p hp
  have := h p hp
  unfold State.ring at *
  rw [e]; exact this

/-- Settles O6: a command ends by placing what can be placed of every pair, whatever it did; an idle edge leaves the rings alone. -/
theorem stepKeepsEveryPairServed : Obligations.StepKeepsEveryPairServed := by
  intro s s' hs h
  unfold step at h
  split at h
  · cases h
    exact AllServed.of_rings hs (idleEdge_rings s)
  · exact exec_allServed h

/-! ## Reset -/

theorem reset_ring (p : Nat) (hp : p < 16) : State.reset.ring p = Ring.atReset p := by
  simp [State.ring, State.reset, List.getD, hp]

theorem reset_source (n : Nat) (hn : n < 256) : State.reset.ev.src.getD n {} = EvSrc.atReset n := by
  simp [State.reset, List.getD, hn]

/-- Settles O4. That every source is routed to EQ0 is the model's choice (log 1), the empty queue log 2, and that a module fresh from
test holds neither share nor customer anchor is logs 2 and 7; the other values are the manual's. -/
theorem resetValues : Obligations.ResetValues := by
  refine ⟨rfl, rfl, rfl, ?sources, ?rings, ?routes, rfl, ?axes, rfl, rfl⟩
  case sources => simp [State.reset]
  case rings =>
    intro p hp
    rw [reset_ring p hp]
    exact ⟨rfl, rfl, rfl⟩
  case routes =>
    intro n hn
    rw [reset_source n hn]
    exact ⟨by simp [EvSrc.atReset, Bool.beq_eq_decide_eq], rfl⟩
  case axes =>
    intro a ha
    change ((List.replicate 4 ({} : Axis)).getD a {}).homed = false
    rw [List.getD_eq_getElem?_getD, List.getElem?_replicate, if_pos ha, Option.getD_some]

/-- Settles O5: no pair has a session at reset, and none holds a record. -/
theorem resetIsServed : Obligations.ResetIsServed := by
  intro p hp
  rw [reset_ring p hp]
  exact (rfl : ringServed (Ring.atReset p) = ringServed {}).trans default_served

end Sys2Proof.Served

/-! SUPPORT and PROOF. The acceptance of a packet (R44, R45, R48, R57): what a refused packet leaves behind, the checks of R57 as one
list of which the first failure refuses, a card's own refusal, and the packets that are not the next of their pair. -/

namespace Sys2Proof.Refusals

open Sys2Proof.Machine Sys2Proof.Safety

/-! ## What a refused packet leaves -/

/-- The pair's ring when a packet is refused: the SEQ is taken, and the refusal stands in its list and waits in its EQ. -/
theorem ring_refusePacket {h : Hdr} {s : State} {se : Session} (hs : ((s.advance h.t).ring h.pair).sess = some se) (opc : Nat) (notag : Bool) (reason : Nat) :
    ((taking h s).refusePacket (tagOf opc h s) notag reason).ring h.pair
      = { (((s.advance h.t).ring h.pair).takeSeq h.seq).note h.seq
            ((tagOf opc h s).reply (if notag then 0x15 else 0x05) 3 reason (s.advance h.t).time.now []) with
          held := ((s.advance h.t).ring h.pair).held ++ [(tagOf opc h s).reply (if notag then 0x15 else 0x05) 3 reason (s.advance h.t).time.now []] } := by
  have hl : h.pair < (taking h s).rings.length := by simpa [taking] using ring_of_sess hs
  unfold State.refusePacket State.queue
  rw [ring_modRing, if_pos ⟨rfl, hl⟩, ring_taking hs]
  rfl

theorem device_refusePacket (tr : TagRec) (notag : Bool) (reason : Nat) (s : State) : device (s.refusePacket tr notag reason) = device s :=
  device_queue _ _ s

theorem device_taking (h : Hdr) (s : State) : device (taking h s) = device (s.advance h.t) :=
  device_modRing h.pair _ (fun r => ringSettings_takeSeq h.seq r) _

/-- The refusal and the tags stand after the records are placed: the refusal ends no epoch. -/
theorem flush_refusePacket {k : Card} {h : Hdr} {s : State} {se : Session} (hA : Hears k (s.advance h.t) h se) (opc : Nat) (notag : Bool) (reason : Nat) :
    (((taking h s).refusePacket (tagOf opc h s) notag reason).ring h.pair).Follows
      (((taking h s).refusePacket (tagOf opc h s) notag reason).flush.ring h.pair) := by
  refine ring_flush_steady _ _ fun x hx => ?_
  rw [ring_refusePacket hA.sess] at hx
  rcases List.mem_append.mp hx with hx | hx
  · exact hA.epoch x hx
  · rw [List.mem_singleton.mp hx]
    simp [Rec.rekeys, TagRec.reply]

/-- A packet that is heard and fails the checks is refused, and changes nothing else. -/
theorem exec_refusePacket {i : Instr} {d : CardDef} {h : Hdr} {data : List Byte} {s : State} {se : Session} {notag : Bool} {reason : Nat}
    (hi : cardOf i = some (d, h, data)) (hA : Hears d.k (s.advance h.t) h se)
    (hp : (taking h s).passes d.k (tagOf d.k.opc h s) (d.lenOk data) h.launch = some (notag, reason)) :
    exec i s = ok ((taking h s).refusePacket (tagOf d.k.opc h s) notag reason) := by
  rw [exec_cardOf hi, runCard_hears hA]
  unfold State.accept
  rw [hp]

theorem refused_of_exec {i : Instr} {k : Card} {h : Hdr} {s : State} {se : Session} {opc : Nat} {notag : Bool} {reason : Nat}
    (hA : Hears k (s.advance h.t) h se) (he : exec i s = ok ((taking h s).refusePacket (tagOf opc h s) notag reason)) :
    Refused i s h opc notag reason := by
  have hrecent := (flush_refusePacket hA opc notag reason).1
  rw [ring_refusePacket hA.sess] at hrecent
  have hhead : (((taking h s).refusePacket (tagOf opc h s) notag reason).flush.ring h.pair).recent.head?
      = some (h.seq, some ((tagOf opc h s).reply (if notag then 0x15 else 0x05) 3 reason (s.advance h.t).time.now [])) := by
    rw [hrecent]
    simp [Ring.note, Ring.takeSeq]
  refine ⟨_, he, ?_, ⟨_, hhead, rfl, rfl, rfl, rfl, rfl, rfl⟩, ?_⟩
  · rw [device_flush, device_refusePacket, device_taking]
  · rw [hhead]
    cases notag <;> simp [TagRec.reply, bit] <;> decide

/-! ## The checks of R57 as one list -/

/-- The refusal of the first check that fails. -/
def firstFail : List (Bool × Bool × Nat) → Option (Bool × Nat)
  | [] => none
  | c :: cs => if c.1 then firstFail cs else some c.2

theorem firstFail_append {pre post : List (Bool × Bool × Nat)} {r : Bool × Nat} (h : ∀ c ∈ pre, c.1 = true) :
    firstFail (pre ++ (false, r) :: post) = some r := by
  induction pre with
  | nil => rfl
  | cons c cs ih =>
    rw [List.cons_append, firstFail, if_pos (h c List.mem_cons_self)]
    exact ih fun x hx => h x (List.mem_cons_of_mem c hx)

/-- One check in front of the rest. -/
theorem firstFail_step {c : Prop} [Decidable c] {b notag : Bool} {reason : Nat} {l : List (Bool × Bool × Nat)} {rest last : Option (Bool × Nat)}
    (hc : c ↔ b = false) (hr : rest = (firstFail l).or last) :
    (if c then some (notag, reason) else rest) = (firstFail ((b, notag, reason) :: l)).or last := by
  cases b with
  | false => rw [if_pos (hc.mpr rfl)]; rfl
  | true => rw [if_neg (fun k => Bool.noConfusion (hc.mp k)), hr]; rfl

theorem or_ite {c : Prop} [Decidable c] (x : Bool × Nat) (r last : Option (Bool × Nat)) :
    (if c then some x else r).or last = if c then some x else r.or last := by
  split <;> rfl

theorem passes_eq (u : State) (k : Card) (tr : TagRec) (lenOk : Bool) (launch : Nat) :
    u.passes k tr lenOk launch = (u.admitRing tr).or (u.admitCard k tr lenOk launch) := by
  unfold State.passes
  cases u.admitRing tr <;> rfl

theorem and_not_iff (a b : Bool) : (a && !b) = true ↔ (!a || b) = false := by
  cases a <;> cases b <;> decide

theorem and_not_not_iff (a b c : Bool) : (a && !b && !c) = true ↔ (!a || b || c) = false := by
  cases a <;> cases b <;> cases c <;> decide

/-- R57: the device's role does not know the card. -/
theorem role_fails (mask : Nat) (r : Role) :
    (!bit mask (roleCode r - 1) || r == .none) = true ↔ ((r == .lane && bit mask 0) || (r == .car && bit mask 1)) = false := by
  cases r <;> simp [roleCode]

/-- R57: the acceptance of a packet that is heard runs the checks in their order, and then that of its launch time (R83). -/
theorem passes_taking {k : Card} {lenOk : Bool} {h : Hdr} {s : State} {se : Session} (hs : ((s.advance h.t).ring h.pair).sess = some se) :
    (taking h s).passes k (tagOf k.opc h s) lenOk h.launch
      = (firstFail (packetChecks k lenOk (s.advance h.t) h se)).or (((s.advance h.t).launchBad k h.launch).map fun x => (false, x)) := by
  have hse : (((taking h s).ring h.pair).sess.getD {}) = se := by rw [ring_taking hs]; simp [Ring.takeSeq, hs]
  have howner : ((taking h s).ring h.pair).ownerFor se = ((s.advance h.t).ring h.pair).ownerFor se := by rw [ring_taking hs]; rfl
  have htags : ((taking h s).ring h.pair).tags = ((s.advance h.t).ring h.pair).tags := by rw [ring_taking hs]; rfl
  have hquota : ((taking h s).ring h.pair).quota = ((s.advance h.t).ring h.pair).quota := by rw [ring_taking hs]; rfl
  rw [passes_eq]
  unfold State.admitRing State.admitCard packetChecks
  simp only [tagOf, hdrTag, hse, howner, htags, hquota, or_ite, Option.none_or]
  refine firstFail_step ?owner <| firstFail_step ?range <| firstFail_step ?inFlight <| firstFail_step ?credit <| firstFail_step ?role <|
    firstFail_step ?len <| firstFail_step ?kind <| firstFail_step ?node <| firstFail_step ?addressed <| firstFail_step ?stage <|
    firstFail_step ?up <| firstFail_step ?prov <| firstFail_step ?pair <| firstFail_step ?rights <| firstFail_step ?enabled rfl
  case owner => simp only [Bool.and_eq_false_iff, beq_eq_false_iff_ne, ne_eq]
  case range => simp only [decide_eq_false_iff_not, Nat.not_le]
  case inFlight => rw [List.all_eq_not_any_not]; simp only [bne, Bool.not_not, Bool.not_eq_false']
  case credit => simp only [decide_eq_false_iff_not, Nat.not_lt]
  case role => exact role_fails k.role _
  case len => exact iff_of_eq (Bool.not_eq_true' _)
  case kind => exact iff_of_eq (Bool.not_eq_true' _)
  case node => exact iff_of_eq (Bool.not_eq_true' _)
  case addressed => exact iff_of_eq (Bool.not_eq_true' _)
  case stage => exact iff_of_eq (Bool.not_eq_true' _)
  case up => exact (iff_of_eq (Bool.not_eq_false' _)).symm
  case prov => exact and_not_iff _ _
  case pair => exact and_not_not_iff _ _ _
  case rights => exact iff_of_eq (Bool.not_eq_true' _)
  case enabled => exact and_not_iff _ _

/-- R57: a packet that is heard is refused by the first check that fails. -/
theorem exec_firstFail {i : Instr} {d : CardDef} {h : Hdr} {data : List Byte} {s : State} {se : Session} {notag : Bool} {reason : Nat}
    (hi : cardOf i = some (d, h, data)) (hA : Hears d.k (s.advance h.t) h se)
    (hf : firstFail (packetChecks d.k (d.lenOk data) (s.advance h.t) h se) = some (notag, reason)) :
    exec i s = ok ((taking h s).refusePacket (tagOf d.k.opc h s) notag reason) := by
  refine exec_refusePacket hi hA ?_
  rw [passes_taking hA.sess, hf, Option.some_or]

/-- Settles O8: the acceptance of a packet runs the list of `packetChecks`, the first failure of which gives the refusal. That 0x0011
stands a second time, for a node kind the card does not address, and the order of 0x0111, 0xC011 and 0xB011, are the model's reading (log 84). -/
theorem theFirstFailingCheckRefuses : Obligations.TheFirstFailingCheckRefuses := by
  intro i d h data s se pre post notag reason hi hA hc hpre
  exact refused_of_exec hA (exec_firstFail hi hA (hc ▸ firstFail_append hpre))

/-! ## Tag and credit (R44) -/

section TagAndCredit

variable {k : Card} {lenOk : Bool} {u : State} {h : Hdr} {se : Session}
  (ho : (u.ring h.pair).ownerFor se = some h.dom) (hd : se.dom = h.dom)
include ho hd

theorem firstFail_tag_range (ht : 0xFF < h.tag) : firstFail (packetChecks k lenOk u h se) = some (true, 0xFF07) := by
  have hrange : decide (h.tag ≤ 0xFF) = false := decide_eq_false (Nat.not_le.mpr ht)
  simp only [packetChecks, firstFail, ho, hd, hrange, beq_self_eq_true, Bool.and_self, if_true, Bool.false_eq_true, if_false]

theorem firstFail_tag_inFlight (ht : h.tag ≤ 0xFF) (hx : ∃ x ∈ (u.ring h.pair).tags, x.tag = h.tag) :
    firstFail (packetChecks k lenOk u h se) = some (true, 0xFF08) := by
  have hall : ((u.ring h.pair).tags.all fun x => x.tag != h.tag) = false := by
    obtain ⟨x, hx, he⟩ := hx
    exact List.all_eq_false.mpr ⟨x, hx, by simp [he]⟩
  simp only [packetChecks, firstFail, ho, hd, ht, hall, beq_self_eq_true, Bool.and_self, decide_true, if_true, Bool.false_eq_true, if_false]

theorem firstFail_credit (ht : h.tag ≤ 0xFF) (hx : ∀ x ∈ (u.ring h.pair).tags, x.tag ≠ h.tag)
    (hq : (u.ring h.pair).quota - (u.ring h.pair).tags.length = 0) : firstFail (packetChecks k lenOk u h se) = some (true, 0xFF04) := by
  have hall : ((u.ring h.pair).tags.all fun x => x.tag != h.tag) = true := List.all_eq_true.mpr fun x hm => bne_iff_ne.mpr (hx x hm)
  have hfull : decide ((u.ring h.pair).tags.length < (u.ring h.pair).quota) = false := decide_eq_false (by omega)
  simp only [packetChecks, firstFail, ho, hd, ht, hall, hfull, beq_self_eq_true, Bool.and_self, decide_true, if_true, Bool.false_eq_true, if_false]

/-- R44: out of range, in flight or without credit, the packet is refused with NOTAG. -/
theorem firstFail_notag (hc : 0xFF < h.tag ∨ (∃ x ∈ (u.ring h.pair).tags, x.tag = h.tag) ∨ (u.ring h.pair).quota - (u.ring h.pair).tags.length = 0) :
    ∃ reason, firstFail (packetChecks k lenOk u h se) = some (true, reason) := by
  by_cases ht : 0xFF < h.tag
  · exact ⟨_, firstFail_tag_range ho hd ht⟩
  by_cases hx : ∃ x ∈ (u.ring h.pair).tags, x.tag = h.tag
  · exact ⟨_, firstFail_tag_inFlight ho hd (Nat.not_lt.mp ht) hx⟩
  · exact ⟨_, firstFail_credit ho hd (Nat.not_lt.mp ht) (fun x hm he => hx ⟨x, hm, he⟩) ((hc.resolve_left ht).resolve_left hx)⟩

end TagAndCredit

/-- R44: a refusal leaves the tags in flight as they are. -/
theorem refused_keeps_tags {i : Instr} {k : Card} {h : Hdr} {s t : State} {se : Session} {opc : Nat} {notag : Bool} {reason : Nat}
    (hA : Hears k (s.advance h.t) h se) (he : exec i s = ok ((taking h s).refusePacket (tagOf opc h s) notag reason)) (ht : exec i s = .next t) :
    (t.ring h.pair).tags = ((s.advance h.t).ring h.pair).tags := by
  obtain rfl : ((taking h s).refusePacket (tagOf opc h s) notag reason).flush = t := Host.Outcome.next.inj (he.symm.trans ht)
  rw [(flush_refusePacket hA opc notag reason).2.1, ring_refusePacket hA.sess]
  rfl

/-- Settles O13: each of the three checks, where those before it pass, is the first that fails. -/
theorem tagAndCreditRefusals : Obligations.TagAndCreditRefusals := by
  intro i d h data s se r hi hA hr ho hd
  subst hr
  refine ⟨fun ht => ?range, fun ht hx => ?inFlight, fun ht hx hq => ?credit, fun t he hc => ?tags⟩
  case range => exact refused_of_exec hA (exec_firstFail hi hA (firstFail_tag_range ho hd ht))
  case inFlight => exact refused_of_exec hA (exec_firstFail hi hA (firstFail_tag_inFlight ho hd ht hx))
  case credit => exact refused_of_exec hA (exec_firstFail hi hA (firstFail_credit ho hd ht hx hq))
  case tags =>
    obtain ⟨reason, hf⟩ := firstFail_notag (k := d.k) (lenOk := d.lenOk data) ho hd hc
    exact refused_keeps_tags hA (exec_firstFail hi hA hf) he

/-! ## A card's own checks (R57 step 15) -/

/-- Settles O9: the command whose card refuses it is in flight only for its final reply. -/
theorem ownChecksRefuse : Obligations.OwnChecksRefuse := by
  intro i d h data s reason body hi hc ho
  obtain ⟨hl, se, hA⟩ := hc
  have hrun := runCard_own hA hl ho
  rw [← accepted_finish _ _ _ _ _ []] at hrun
  exact ends_of_device (ends_finish ((exec_cardOf hi s).trans (congrArg ok hrun)) (inHand_begun hA) (by decide) (by simp)) (device_begun _ h s)

/-! ## Packets that are not the next of their pair (R33, R35, R45, R48) -/

/-- R419, R423: a device that is awake and enters no sleep hears the packet as it stands. -/
theorem arrival_awake {u : State} {p : Nat} (hw : u.power.mode ≠ .sleep) (hn : ∀ tr, u.power.pend ≠ some (1, tr)) : u.arrival p = some u := by
  have hwake : ∀ src, u.wakeUp src = u := by
    intro src
    unfold State.wakeUp
    rw [if_neg hw]
    split
    · next tr hp => exact absurd hp (hn tr)
    · rfl
  unfold State.arrival
  rw [hwake, if_neg hw, ite_self]

/-- A packet that a device hears as it stands comes to R57 from its step 3 on. -/
theorem exec_receive {i : Instr} {d : CardDef} {h : Hdr} {data : List Byte} {s u : State} (hi : cardOf i = some (d, h, data)) (hu : u = s.advance h.t)
    (hw : u.power.mode ≠ .sleep) (hn : ∀ tr, u.power.pend ≠ some (1, tr)) : exec i s = ok (u.receive d h data) := by
  subst hu
  rw [exec_cardOf hi]
  unfold runCard
  simp only [arrival_awake hw hn]

section Hear

variable {r : Ring} {se : Session} (opc seq : Nat)

theorem hear_no_session (hs : r.sess = none) : r.hear opc seq = .ignored := by
  unfold Ring.hear
  rw [hs]

theorem hear_not_read (hs : r.sess = some se) (ht : se.tr = .pcie) (he : r.en = false) : r.hear opc seq = .ignored := by
  unfold Ring.hear
  rw [hs]
  exact if_pos ⟨ht, he⟩

/-- On a pair that is read, the limit of R48 and then the SEQ of R45 decide. -/
theorem hear_read (hs : r.sess = some se) (he : se.tr = .pcie → r.en = true) :
    r.hear opc seq = if (r.rekeyOnly && !rekeyOpc opc) = true then .discarded else if seq = r.rxSeq then .next
      else if se.tr = .ethernet then (if (r.recent.any fun p => p.1 == seq) = true then .duplicate else .stray) else .misordered := by
  unfold Ring.hear
  rw [hs]
  exact if_neg fun k => Bool.false_ne_true (k.2.symm.trans (he k.1))

theorem hear_not_next (hs : r.sess = some se) (he : se.tr = .pcie → r.en = true) (hr : r.rekeyOnly = false) (hq : seq ≠ r.rxSeq) :
    r.hear opc seq = if se.tr = .ethernet then (if (r.recent.any fun p => p.1 == seq) = true then .duplicate else .stray) else .misordered := by
  rw [hear_read opc seq hs he, hr, if_neg (by simp), if_neg hq]

end Hear

/-- R45: a duplicate is answered by the latest reply given, with DUP set. -/
theorem ring_resend {u : State} {tr : TagRec} {x : Rec} (hp : tr.pair < u.rings.length)
    (hf : ((u.ring tr.pair).recent.find? fun p => p.1 == tr.seq) = some (tr.seq, some x)) :
    ((u.resend tr).ring tr.pair).held = (u.ring tr.pair).held ++ [{ x with flg := x.flg ||| 8 }] := by
  unfold State.resend
  simp only [hf, Option.bind_some]
  rw [ring_modRing, if_pos ⟨rfl, hp⟩]

theorem refusePacket_rxSeq (u : State) (tr : TagRec) (notag : Bool) (reason p : Nat) :
    ((u.refusePacket tr notag reason).ring p).rxSeq = (u.ring p).rxSeq := by
  unfold State.refusePacket State.queue
  rw [ring_modRing]
  split <;> rfl

/-- Settles O12: one case for each answer of R45 and R48. -/
theorem packetsOutOfSequence : Obligations.PacketsOutOfSequence := by
  intro i d h data s u r hi hu hw hn hr
  have hx := exec_receive hi hu hw hn
  have ht : hdrTag h d.k.opc u.time.now 0 = tagOf d.k.opc h s := by rw [hu]; rfl
  simp only [State.receive, State.heard, ht] at hx
  rw [← hr] at hx
  refine ⟨fun hs => ?_, fun se hs hp he => ?_, fun se hs he hl ho => ?_, fun se hs he hl hq hp => ⟨?_, ?_⟩, fun se hs hp hl hq ha => ⟨?_, fun x hf => ?_⟩,
    fun se hs hp hl hq ha => ?_⟩
  · rw [hx, hear_no_session _ _ hs]; rfl
  · rw [hx, hear_not_read _ _ hs hp he]; rfl
  · rw [hx, hear_read _ _ hs he, hl, ho]; rfl
  · rw [hx, hear_not_next _ _ hs he hl hq, if_neg hp]; rfl
  · rw [refusePacket_rxSeq, hr]
  · rw [hx, hear_not_next _ _ hs (fun k => by rw [hp] at k; cases k) hl hq, if_pos hp, if_pos ha]; rfl
  · subst hr
    exact ring_resend (tr := tagOf d.k.opc h s) (ring_of_sess hs) hf
  · rw [hx, hear_not_next _ _ hs (fun k => by rw [hp] at k; cases k) hl hq, if_pos hp, if_neg (by simp [ha])]; rfl

end Sys2Proof.Refusals

/-! SUPPORT and PROOF. The cards of spec 02 (R40, R52-R62, R66, R110): a query's payload is read from what the device holds beside its
rings; the cards of the table, the rings, the routes and the circuit; and records read over SPI. -/

namespace Sys2Proof.CommandCards

open Sys2Proof.Machine Sys2Proof.Safety
open Sys2Proof.Served (ring_pumpRing)

/-! ## Queries -/

/-- A value read from the state without its rings. -/
def RingFree {α : Type} (f : State → α) : Prop := ∀ (s : State) (rs : List Ring), f { s with rings := rs } = f s

/-- What is read without the rings reads the same when the command is in flight as when it was heard. -/
theorem RingFree.at_begun {α : Type} {f : State → α} (hf : RingFree f) (opc : Nat) (h : Hdr) (s : State) : f (begun opc h s) = f (heard h s) :=
  hf (heard h s) (begun opc h s).rings

/-- A query ends DONE with its payload, and leaves the device as it was. -/
theorem query_ends {i : Instr} {d : CardDef} {f : State → TagRec → List Byte → List Byte} {s : State} {h : Hdr} {data : List Byte}
    (hi : cardOf i = some (d, h, data)) (he : d.eff = answer f) (hf : RingFree f) (hs : (d.k.opc == 0xC030) = false) (hc : Admitted d s h data) :
    Ends i s h d.k.opc 2 0 (f (heard h s) (tagOf d.k.opc h s) data) (heard h s) := by
  refine ends_done hi hc ?_ (inHand_admitted hc) hs (device_begun _ h s)
  rw [he, ← hf.at_begun d.k.opc h s]
  rfl

/-- A query that clears what it tells. -/
theorem query_clears {i : Instr} {d : CardDef} {s x : State} {h : Hdr} {data reply : List Byte}
    (hi : cardOf i = some (d, h, data)) (hs : (d.k.opc == 0xC030) = false) (hc : Admitted d s h data)
    (he : d.eff (tagOf d.k.opc h s) data (begun d.k.opc h s) = ({ x with rings := (begun d.k.opc h s).rings } : State).done (tagOf d.k.opc h s) reply)
    (hx : x.rings = (heard h s).rings) : Ends i s h d.k.opc 2 0 reply x :=
  ends_done hi hc he ((inHand_admitted hc).of_rings rfl) hs (device_swap d.k.opc h s rfl hx)

/-- Settles O18: no payload is read from a ring, so that the command's own tag in flight does not show in it. -/
theorem queriesAnswer : Obligations.QueriesAnswer := by
  refine ⟨fun s h data => ?plain, fun s h data => ?clearing⟩
  case plain =>
    refine ⟨?_, ?_, ?_, ?_, ?_, ?_, ?_, ?_, ?_, ?_, ?_, ?_, ?_, ?_, ?_, ?_, ?_, ?_, ?_, ?_, ?_, ?_⟩
    all_goals exact query_ends rfl rfl (fun _ _ => rfl) rfl
  case clearing =>
    refine ⟨?_, ?_, ?_⟩
    all_goals exact fun hc => query_clears rfl rfl hc rfl rfl

/-! ## The protection table (R53, R55) -/

/-- A card that only notes something beside the rings, and leaves its command in flight. -/
theorem noted_runs {i : Instr} {d : CardDef} {s x : State} {h : Hdr} {data acc : List Byte}
    (hi : cardOf i = some (d, h, data)) (hc : Admitted d s h data)
    (he : d.eff (tagOf d.k.opc h s) data (begun d.k.opc h s) = { x with rings := (begun d.k.opc h s).rings })
    (ha : d.acc { x with rings := (begun d.k.opc h s).rings } (tagOf d.k.opc h s) = acc) (hx : x.rings = (heard h s).rings) :
    Runs i s h d.k.opc acc x :=
  runs_to hi hc he ha ((inHand_admitted hc).of_rings rfl) (device_swap d.k.opc h s rfl hx)

theorem protectGetReply_eq (s : State) (tr : TagRec) (data : List Byte) :
    protectGetReply s tr data = le 4 s.prot.gen ++ le 2 s.prot.entries.length ++ le 2 (min 336 (s.prot.entries.length - rd data 0 2))
      ++ (((s.prot.entries.drop (rd data 0 2)).take 336).map ProtEntry.bytes).flatten := by
  simp only [protectGetReply, List.length_take, List.length_drop]

/-- Settles O19: PROTECT_SET joins the waiting changes; PROTECT_GET is a query of the table. -/
theorem protectionCards : Obligations.ProtectionCards := by
  refine ⟨fun s h data hc => noted_runs rfl hc rfl rfl rfl, fun s h data hc => ?get⟩
  case get =>
    have := query_ends (i := .protectGet h data) rfl rfl (fun _ _ => rfl) rfl hc
    rw [protectGetReply_eq] at this
    exact this

/-! ## The circuit (R58-R62, R110) -/

/-- R59: with no rebuild of the books to make first, the check begins at once. -/
theorem beginCheck_of_no_rebuild {s : State} (tag : Option TagRec) (crc : Nat) (h : (s.boot.role == .lane && s.auth.rebuildDue && s.allStand) = false) :
    s.beginCheck tag crc = { s with chk := { s.chk with
      running := some { tag := tag, crc := s.cfgCrc, at0 := s.time.now, found := s.checkAll (some crc), speed := 500000 }
      report := none, total := 0 } } := by
  unfold State.beginCheck
  rw [h]
  rfl

/-- R110: with every car COARSE or better, the learn run begins. -/
theorem beginLearn_of_trusted {s : State} (r : ChkRun) (h : ∀ c ∈ s.carNums, 1 ≤ (s.car c).pos.trust) :
    s.beginLearn r = { s with chk := { s.chk with learn := some r }, cars := s.cars.mapIdx fun i x => s.learnCar i x } := by
  unfold State.beginLearn
  exact if_pos (List.all_eq_true.mpr fun c hc => decide_eq_true (h c hc))

/-- Settles O24: CIRCUIT_ENABLE and LEARN_START in the case that their run begins, CIRCUIT_DISABLE as a waiting command, CHECK_REPORT as a
query. -/
theorem circuitCards : Obligations.CircuitCards := by
  refine ⟨fun s h data hc hb => noted_runs rfl hc ?enable rfl rfl, fun s h data hc => noted_runs rfl hc rfl rfl rfl,
    fun s h data hc => query_ends rfl rfl (fun _ _ => rfl) rfl hc, fun s h data hc ht => noted_runs rfl hc ?learn rfl rfl⟩
  case enable => exact beginCheck_of_no_rebuild (s := begun 0x2001 h s) _ _ hb
  case learn => exact beginLearn_of_trusted (s := begun 0x2021 h s) _ ht

/-! ## Rings and routes (R56, R66) -/

/-- A change of a ring that leaves its replies, tags and held records alone keeps the command in hand. -/
theorem inHand_modRing {opc : Nat} {h : Hdr} {s x : State} (hx : InHand opc h s x) (p : Nat) {f : Ring → Ring}
    (hf : ∀ r : Ring, (f r).recent = r.recent ∧ (f r).tags = r.tags ∧ (f r).held = r.held) : InHand opc h s (x.modRing p f) := by
  refine hx.of_follows ?_
  rw [ring_modRing]
  split
  · obtain ⟨hr, ht, hh⟩ := hf (x.ring h.pair)
    exact ⟨hr, ht, fun y hy => hx.steady y (hh ▸ hy)⟩
  · exact .refl hx.steady

/-- R56: what RING_ASSIGN writes. -/
def assigned (data : List Byte) (r : Ring) : Ring := { r with owner := ownerField (rd data 1 1), quota := rd data 2 2 }

theorem begun_owner {k : Card} {h : Hdr} {s : State} {p : Nat} : ((begun k.opc h s).ring p).owner = ((taking h s).ring p).owner := by
  unfold begun State.addTag State.ring
  simp only [List.getD_eq_getElem?_getD, List.getElem?_modify]
  cases (taking h s).rings[p]? with
  | none => rfl
  | some r => by_cases hp : (tagOf k.opc h s).pair = p <;> simp [hp]

theorem ringAssignEff_same_owner {s : State} {data : List Byte} (tr : TagRec) (ho : (s.ring (rd data 0 1)).owner = ownerField (rd data 1 1)) :
    ringAssignEff tr data s = (s.modRing (rd data 0 1) (assigned data)).done tr [] := by
  unfold ringAssignEff
  simp only [ho, ne_eq, not_true_eq_false, decide_false, Bool.false_eq_true, if_false]
  rfl

theorem ringAssignEff_new_owner {s : State} {data : List Byte} (tr : TagRec) (ho : (s.ring (rd data 0 1)).owner ≠ ownerField (rd data 1 1)) :
    ringAssignEff tr data s = ((s.modRing (rd data 0 1) (assigned data)).done tr []).closeSession (rd data 0 1) true := by
  unfold ringAssignEff
  simp only [ho, ne_eq, not_false_eq_true, decide_true, if_true]
  rfl

theorem inHand_assigned {s : State} {h : Hdr} {data : List Byte} (hc : Admitted ringAssignCard s h data) :
    InHand 0x0103 h s ((begun 0x0103 h s).modRing (rd data 0 1) (assigned data)) :=
  inHand_modRing (inHand_admitted hc) _ fun _ => ⟨rfl, rfl, rfl⟩

theorem ringAssign_same_owner {s : State} {h : Hdr} {data : List Byte} (hc : Admitted ringAssignCard s h data)
    (ho : ((taking h s).ring (rd data 0 1)).owner = ownerField (rd data 1 1)) :
    Ends (.ringAssign h data) s h 0x0103 2 0 [] ((heard h s).modRing (rd data 0 1) (assigned data)) :=
  ends_done (d := ringAssignCard) rfl hc (ringAssignEff_same_owner _ ((begun_owner (k := ringAssignCard.k)).trans ho)) (inHand_assigned hc) rfl
    (device_modRing_begun _ h s _ _ (assigned data) fun _ => rfl)

/-! ### Closing the session of another pair (R382, R469) -/

theorem ringSettings_of_device {x y : State} (h : device x = device y) (q : Nat) : ringSettings (x.ring q) = ringSettings (y.ring q) := by
  have hr : x.rings.map ringSettings = y.rings.map ringSettings := congrArg State.rings h
  have hq : ∀ l : List Ring, ringSettings (l.getD q {}) = (l.map ringSettings).getD q {} := by
    intro l
    simp only [List.getD_eq_getElem?_getD, List.getElem?_map]
    cases l[q]? <;> rfl
  unfold State.ring
  rw [hq, hq, hr]

/-- Telling an event leaves a ring's session as it was. -/
theorem ring_fire_sess (src tgt reason : Nat) (items : List Byte) (s : State) (q : Nat) :
    ((s.fire src tgt reason items).ring q).sess = (s.ring q).sess := by
  have hr : (s.fire src tgt reason items).rings.map Ring.sess = s.rings.map Ring.sess := by
    unfold State.fire
    dsimp only
    split
    · rw [List.map_map]; rfl
    · split
      · apply map_modify_same Ring.sess; intro r; rfl
      · rfl
  have hq : ∀ l : List Ring, (l.getD q {}).sess = (l.map Ring.sess).getD q none := by
    intro l
    simp only [List.getD_eq_getElem?_getD, List.getElem?_map]
    cases l[q]? <;> rfl
  unfold State.ring
  rw [hq, hq, hr]

theorem ring_dropTags (p q : Nat) (s : State) :
    (s.dropTags p).ring q = if p = q ∧ q < s.rings.length then { s.ring q with tags := [] } else s.ring q :=
  ring_modRing p q (fun r => { r with tags := [] }) s

theorem dropHeld_rings (p : Nat) (s : State) : (s.dropHeld p true).rings = s.rings.modify p fun r => { r with held := [] } := by
  unfold State.dropHeld
  dsimp only
  rw [foldl_rings _ (fun s n => State.unflag_rings n s)]
  rfl

theorem ring_dropHeld (p q : Nat) (s : State) :
    (s.dropHeld p true).ring q = if p = q ∧ q < s.rings.length then { s.ring q with held := [] } else s.ring q := by
  rw [← ring_modRing p q (fun r => { r with held := [] }) s]
  unfold State.ring
  rw [dropHeld_rings]
  rfl

/-- R42, R469: the pair's records are placed as far as they can be, and the rest goes with its tags. -/
def emptied (p : Nat) (s : State) : State := ((s.pumpRing p).dropTags p).dropHeld p true

theorem emptied_length (p : Nat) (s : State) : (emptied p s).rings.length = s.rings.length := by
  unfold emptied State.dropTags
  rw [dropHeld_rings]
  simp [State.pumpRing_rings]

theorem ring_emptied (p q : Nat) (s : State) :
    (emptied p s).ring q = if p = q ∧ q < s.rings.length then { ((s.ring q).pump s.time.now).1 with tags := [], held := [] } else s.ring q := by
  have h1 : ((s.pumpRing p).dropTags p).rings.length = s.rings.length := by simp [State.dropTags, State.pumpRing_rings]
  have h2 : (s.pumpRing p).rings.length = s.rings.length := by simp [State.pumpRing_rings]
  unfold emptied
  rw [ring_dropHeld, ring_dropTags, h1, h2, ring_pumpRing]
  split <;> rfl

/-- R382: what the closing of its session leaves of a pair. -/
def Ring.closed (r : Ring) : Ring :=
  { r with sess := none, recent := [], rxSeq := 1, txSeq := 1, nearRx := false, nearTx := false, fullSince := none }

theorem closeSession_of_sess {p : Nat} {s : State} (hs : (s.ring p).sess.isSome = true) :
    s.closeSession p true = ((emptied p s).modRing p Ring.closed).fire 0xC2 0 0 (((emptied p s).modRing p Ring.closed).secItems p 0) := by
  unfold State.closeSession
  rw [if_pos hs]
  rfl

theorem closeSession_of_none {p : Nat} {s : State} (hs : (s.ring p).sess.isSome ≠ true) : s.closeSession p true = s.dropHeld p true := by
  unfold State.closeSession
  rw [if_neg hs, if_pos rfl]

/-- The pair whose session closes has none. -/
theorem closeSession_sess (p : Nat) (s : State) : ((s.closeSession p true).ring p).sess = none := by
  by_cases hs : (s.ring p).sess.isSome = true
  · obtain ⟨se, hse⟩ := Option.isSome_iff_exists.mp hs
    rw [closeSession_of_sess hs, ring_fire_sess, ring_modRing, if_pos ⟨rfl, (emptied_length p s).symm ▸ ring_of_sess hse⟩]
    rfl
  · rw [closeSession_of_none hs, ring_dropHeld]
    split <;> exact Option.not_isSome_iff_eq_none.mp hs

/-- The closing of a session keeps the settings of the pair's ring. -/
theorem closeSession_settings (p : Nat) (s : State) : ringSettings ((s.closeSession p true).ring p) = ringSettings (s.ring p) := by
  by_cases hs : (s.ring p).sess.isSome = true
  · obtain ⟨se, hse⟩ := Option.isSome_iff_exists.mp hs
    rw [closeSession_of_sess hs, ringSettings_of_device (device_fire _ _ _ _ _), ring_modRing, if_pos ⟨rfl, (emptied_length p s).symm ▸ ring_of_sess hse⟩,
      ring_emptied, if_pos ⟨rfl, ring_of_sess hse⟩]
    exact ringSettings_pump s.time.now (s.ring p)
  · rw [closeSession_of_none hs, ring_dropHeld]
    split <;> rfl

/-- The closing of another pair's session keeps latest replies and tags. -/
theorem closeSession_other {p q : Nat} (hn : p ≠ q) (s : State) (h : (s.ring q).Steady) : (s.ring q).Follows ((s.closeSession p true).ring q) := by
  by_cases hs : (s.ring p).sess.isSome = true
  · have he : ((emptied p s).modRing p Ring.closed).ring q = s.ring q := by
      rw [ring_modRing, if_neg (fun k => hn k.1), ring_emptied, if_neg (fun k => hn k.1)]
    have hf := ring_fire_steady 0xC2 0 0 (((emptied p s).modRing p Ring.closed).secItems p 0) ((emptied p s).modRing p Ring.closed) q (he ▸ h)
    rw [closeSession_of_sess hs]
    rwa [he] at hf
  · rw [closeSession_of_none hs, ring_dropHeld, if_neg (fun k => hn k.1)]
    exact .refl h

/-! ### A pair without a session -/

/-- A pair without a session places nothing. -/
theorem pumpList_no_session : ∀ (l : List Rec) (r : Ring), r.sess = none → (r.pumpList l).1.sess = none ∧ (r.pumpList l).2 = []
  | [], _, h => ⟨h, rfl⟩
  | x :: xs, r, h => by
    have hroom : r.room x = false := by unfold Ring.room; rw [h]
    unfold Ring.pumpList
    rw [hroom]
    split
    · exact pumpList_no_session xs _ h
    · exact ⟨h, rfl⟩

theorem pump_no_session (now : Nat) (r : Ring) (h : r.sess = none) : (r.pump now).1.sess = none := by
  obtain ⟨hs, hp⟩ := pumpList_no_session r.held { r with held := [] } h
  change (r.pumpAll (r.held.length + 1)).1.sess = none
  unfold Ring.pumpAll
  simp only [hp, List.any_nil, Bool.false_eq_true, if_false]
  exact hs

theorem pumpRing_no_session (p q : Nat) (s : State) (h : (s.ring q).sess = none) : ((s.pumpRing p).ring q).sess = none := by
  rw [ring_pumpRing]
  split
  · exact pump_no_session _ _ h
  · exact h

theorem nearLimit_no_session (p q : Nat) (s : State) (h : (s.ring q).sess = none) : ((s.nearLimit p).ring q).sess = none := by
  unfold State.nearLimit
  dsimp only
  split
  · rw [ring_fire_sess, ring_modRing]
    split <;> exact h
  · exact h

theorem foldl_no_session {f : State → Nat → State} {q : Nat} (hf : ∀ s p, (s.ring q).sess = none → ((f s p).ring q).sess = none) (l : List Nat) {s : State}
    (h : (s.ring q).sess = none) : ((l.foldl f s).ring q).sess = none :=
  List.foldlRecOn (motive := fun s => (s.ring q).sess = none) l f h fun b hb p _ => hf b p hb

theorem flush_no_session (q : Nat) (s : State) (h : (s.ring q).sess = none) : (s.flush.ring q).sess = none := by
  have hpump := foldl_no_session (fun s p => pumpRing_no_session p q s) pairNums h
  unfold State.flush
  dsimp only
  split
  · exact foldl_no_session (fun s p => pumpRing_no_session p q s) pairNums (foldl_no_session (fun s p => nearLimit_no_session p q s) pairNums hpump)
  · exact hpump

theorem ring_accepted_sess (tr : TagRec) (data : List Byte) (s : State) (q : Nat) : ((s.accepted tr data).ring q).sess = (s.ring q).sess := by
  unfold State.accepted
  split
  · unfold State.queue
    rw [ring_modRing]
    split <;> rfl
  · rfl

/-! ### The statement -/

/-- R56: a new owner of another pair: owner and quota are written, and its session closes. -/
theorem ringAssign_new_owner {s : State} {h : Hdr} {data : List Byte} (hc : Admitted ringAssignCard s h data)
    (ho : ((taking h s).ring (rd data 0 1)).owner ≠ ownerField (rd data 1 1)) (hn : rd data 0 1 ≠ h.pair) (hl : rd data 0 1 < s.rings.length) :
    ∃ t, exec (.ringAssign h data) s = .next t ∧ Replied t h 0x0103 2 0 []
      ∧ (t.ring (rd data 0 1)).owner = ownerField (rd data 1 1) ∧ (t.ring (rd data 0 1)).quota = rd data 2 2
      ∧ (t.ring (rd data 0 1)).sess = none := by
  have hx := inHand_assigned hc
  have heff := ringAssignEff_new_owner (data := data) (tagOf 0x0103 h s) (fun e => ho ((begun_owner (k := ringAssignCard.k)).symm.trans e))
  have hexec := (exec_cardOf (i := .ringAssign h data) rfl s).trans (congrArg ok (runCard_admitted hc))
  obtain ⟨t, ht, hd, hr⟩ := ends_card_then (i := .ringAssign h data) (d := ringAssignCard) rfl hc heff hx
    (closeSession_other hn _ (finish_steady hx 2 0 _ [] rfl)) rfl
  have hset := (ringSettings_of_device hd (rd data 0 1)).trans ((closeSession_settings _ _).trans (ringSettings_of_device (device_done _ _ _) (rd data 0 1)))
  have hlen : rd data 0 1 < (begun 0x0103 h s).rings.length := by simpa [begun, taking] using hl
  rw [ring_modRing, if_pos ⟨rfl, hlen⟩] at hset
  refine ⟨t, ht, hr, congrArg Ring.owner hset, congrArg Ring.quota hset, ?sess⟩
  case sess =>
    have hflush := Host.Outcome.next.inj (hexec.symm.trans ht)
    rw [← hflush, flush_no_session]
    rw [ring_accepted_sess]
    exact (congrArg (fun x => (State.ring x (rd data 0 1)).sess) heff).trans (closeSession_sess _ _)

/-! ### EVENT_ROUTE (R66) -/

/-- R66: the new route of a source, and MOD of its vector (log 18). -/
def routed (data : List Byte) (s : State) : State :=
  { s with
    ev := { s.ev with src := s.ev.src.modify (rd data 0 1) fun e =>
      { e with enabled := bit (rd data 3 1) 7, eq := rd data 1 1, vec := rd data 2 1, balls := rd data 3 1 % 16, mod := rd data 4 2 } }
    msix := if rd data 2 1 < 32 then { s.msix with mod := s.msix.mod.set (rd data 2 1) (rd data 4 2) } else s.msix }

/-- R66: a ring without the held records of a source. -/
def Ring.unrouted (src : Nat) (r : Ring) : Ring := { r with held := r.held.filter fun x => !(x.src == some src) }

/-- R66: the held records of a source, as they move to the new EQ. -/
def movedRecs (src eq : Nat) (s : State) : List Rec :=
  (s.rings.map fun r => r.held.filter fun x => x.src == some src).flatten.map fun x => { x with dom := (s.ring eq).owner.getD 0 }

theorem reroute_eq (src eq : Nat) (s : State) : s.reroute src eq
    = ({ s with rings := s.rings.map (Ring.unrouted src) } : State).modRing eq fun r => { r with held := r.held ++ movedRecs src eq s } := rfl

/-- A record of a source is no reply, and ends no epoch. -/
theorem movedRecs_rekeys {src eq : Nat} {s : State} {x : Rec} (hx : x ∈ movedRecs src eq s) : x.rekeys = false := by
  obtain ⟨y, hy, rfl⟩ := List.mem_map.mp hx
  obtain ⟨l, hl, hyl⟩ := List.mem_flatten.mp hy
  obtain ⟨r, -, rfl⟩ := List.mem_map.mp hl
  have hsrc : y.src = some src := by simpa using (List.mem_filter.mp hyl).2
  simp [Rec.rekeys, hsrc]

theorem device_reroute (src eq : Nat) (s : State) : device (s.reroute src eq) = device s := by
  rw [reroute_eq, device_modRing _ _ (fun r => ringSettings_held r _)]
  unfold device
  dsimp only
  rw [List.map_map]
  rfl

theorem ring_reroute_steady (src eq : Nat) (s : State) (q : Nat) (h : (s.ring q).Steady) : (s.ring q).Follows ((s.reroute src eq).ring q) := by
  have hun : ({ s with rings := s.rings.map (Ring.unrouted src) } : State).ring q = Ring.unrouted src (s.ring q) := by
    unfold State.ring
    simp only [List.getD_eq_getElem?_getD, List.getElem?_map]
    cases s.rings[q]? <;> rfl
  have hst : (Ring.unrouted src (s.ring q)).Steady := fun x hx => h x (List.mem_filter.mp hx).1
  rw [reroute_eq, ring_modRing, hun]
  split
  · refine ⟨rfl, rfl, fun x hx => ?_⟩
    rcases List.mem_append.mp hx with hx | hx
    · exact hst x hx
    · exact movedRecs_rekeys hx
  · exact ⟨rfl, rfl, hst⟩

/-- R66: the route is set; a held record of the source moves to its new EQ (log 18 gives MOD). -/
theorem eventRoute_ends {s : State} {h : Hdr} {data : List Byte} (hc : Admitted eventRouteCard s h data) :
    Ends (.eventRoute h data) s h 0x0104 2 0 [] (routed data (heard h s)) := by
  have hx : InHand 0x0104 h s (routed data (begun 0x0104 h s)) := (inHand_admitted hc).of_rings rfl
  have hd : device (routed data (begun 0x0104 h s)) = device (routed data (heard h s)) := device_swap 0x0104 h s rfl rfl
  by_cases ho : ((begun 0x0104 h s).ev.src.getD (rd data 0 1) {}).eq = rd data 1 1
  · refine ends_done (d := eventRouteCard) rfl hc ?_ hx rfl hd
    exact congrArg (fun x : State => x.done (tagOf 0x0104 h s) []) (if_pos ho)
  · refine ends_done (d := eventRouteCard) (x := (routed data (begun 0x0104 h s)).reroute (rd data 0 1) (rd data 1 1)) rfl hc ?_
      (hx.of_follows (ring_reroute_steady _ _ _ _ hx.steady)) rfl ((device_reroute _ _ _).trans hd)
    exact congrArg (fun x : State => x.done (tagOf 0x0104 h s) []) (if_neg ho)

/-- Settles O20. The record that EVENT_ROUTE moves with its source (R66) lies outside what `device` holds, and that MOD is the vector's is
the model's reading (log 18). -/
theorem ringAndRouteCards : Obligations.RingAndRouteCards :=
  ⟨fun _ _ _ hc ho => ringAssign_same_owner hc ho, fun _ _ _ hc ho hn hl => ringAssign_new_owner hc ho hn hl, fun _ _ _ hc => eventRoute_ends hc⟩

/-! ## Records read over SPI (R40) -/

theorem le_length : ∀ n x : Nat, (le n x).length = n
  | 0, _ => rfl
  | n + 1, x => congrArg Nat.succ (le_length n (x / 256))

/-- What an EQ read over SPI clocks out of a record: LEN16, then the sealed record. -/
abbrev clocked (x : Rec) : List Byte := le 2 (sealRec x).length ++ sealRec x

theorem clocked_length (x : Rec) : (clocked x).length = 2 + (sealRec x).length := by rw [List.length_append, le_length]

/-- R40: the record next in the EQ of an SPI pair is read, and removed where all of it was clocked out. -/
theorem exec_eqRead {s u : State} {t pair : Nat} (n : Nat) {se : Session} {x : Rec} {xs : List Rec} (hu : u = s.advance t)
    (hs : (u.ring pair).sess = some se) (ht : se.tr = .spi) (hp : (u.ring pair).placed = x :: xs) :
    exec (.eqRead t pair n) s = if (clocked x).length ≤ n
      then ok (((u.shiftOut ((clocked x).take n)).modRing pair fun r => { r with placed := xs }).consume [x])
      else ok (u.shiftOut ((clocked x).take n)) := by
  subst hu
  rw [clocked_length]
  change execEqRead t pair n s = _
  unfold execEqRead
  simp only [hs, hp, ht, ne_eq, not_true_eq_false, if_false]

theorem ring_consume (xs : List Rec) (s : State) (q : Nat) : (s.consume xs).ring q = s.ring q := by
  unfold State.consume State.ring
  rw [foldl_rings]
  intro s x
  cases x.src <;> rfl

/-- Settles O16: a read that ends before the record does takes nothing from the ring. -/
theorem spiReadsAreWholeOrLeaveTheRecord : Obligations.SpiReadsAreWholeOrLeaveTheRecord := by
  intro s u t pair n offset hu
  refine ⟨fun se x xs w v hs ht hp hw hn hv => ⟨?_, ?_⟩, fun se x xs w v hs ht hp hw hn hv => ⟨?_, ?_⟩, ?window⟩
  · rw [exec_eqRead n hu hs ht hp, if_neg (by rw [clocked, ← hw]; exact Nat.not_le.mpr hn), hv, hw]
    rfl
  · rw [hv]
    exact hp
  · rw [exec_eqRead n hu hs ht hp, clocked, ← hw, if_pos hn, List.take_of_length_le hn, hv]
    rfl
  · rw [hv, ring_consume, ring_modRing, if_pos ⟨rfl, (ring_of_sess hs : pair < u.rings.length)⟩]
  case window =>
    rw [hu]
    rfl

end Sys2Proof.CommandCards

/-! SUPPORT and PROOF. Spec 03: the timebase edge of an empty queue (R67), the check of a launch time (R83), launched commands that wait
or are late (R82, R84), MILESTONE_CANCEL (R91) and the timebase cards (R74, R467). -/

namespace Sys2Proof.Timebase

open Sys2Proof.Machine Sys2Proof.Safety
open Sys2Proof.Refusals (firstFail passes_taking exec_refusePacket refused_of_exec ownChecksRefuse)
open Sys2Proof.CommandCards (query_clears noted_runs le_length)

/-! ## The timebase edge (R67) -/

/-- R67: without a frequency adjustment an edge is 4 ns. -/
theorem edgeStep_zero : edgeStep 0 = 4 * 2 ^ 32 := by decide

/-- Milestone time moves on by the whole nanoseconds of an edge, and keeps its fraction. -/
theorem idleEdge_time {s : State} (hs : s.boot.stage ≠ 0) :
    (idleEdge s).time.now = s.time.now + (s.time.frac + edgeStep s.time.freqAdj) / 2 ^ 32
      ∧ (idleEdge s).time.frac = (s.time.frac + edgeStep s.time.freqAdj) % 2 ^ 32 := by
  unfold idleEdge
  rw [if_neg hs]
  exact ⟨Nat.max_eq_right (Nat.le_add_right _ _), rfl⟩

/-- An edge leaves the rings and the queue as they were. -/
theorem idleEdge_frame (s : State) : (idleEdge s).rings = s.rings ∧ (idleEdge s).pending = s.pending := by
  unfold idleEdge
  split <;> exact ⟨rfl, rfl⟩

theorem step_of_empty {s : State} (hp : s.pending = []) : step s = .next (idleEdge s) := by
  unfold step
  rw [hp]

/-- Settles O2. That an empty queue idles, and that nothing counts in stage 0, is the model's choice (log 3). -/
theorem anEmptyQueueIdlesOneEdge : Obligations.AnEmptyQueueIdlesOneEdge := by
  refine ⟨fun s hp hs => ?stage0, fun s t hp hs ha ht => ?edge, fun s => ⟨_, step_of_empty rfl⟩⟩
  case stage0 =>
    rw [step_of_empty hp]
    unfold idleEdge
    rw [if_pos hs]
  case edge =>
    obtain rfl : idleEdge s = t := Host.Outcome.next.inj ((step_of_empty hp).symm.trans ht)
    obtain ⟨hnow, hfrac⟩ := idleEdge_time hs
    obtain ⟨hrings, hpending⟩ := idleEdge_frame s
    rw [ha, edgeStep_zero] at hnow hfrac
    exact ⟨hnow, hfrac.trans (Nat.add_mul_mod_self_right _ 4 _), hrings, hpending.trans hp⟩

/-! ## The check of a launch time (R83) -/

theorem firstFail_none {l : List (Bool × Bool × Nat)} (h : ∀ c ∈ l, c.1 = true) : firstFail l = none := by
  induction l with
  | nil => rfl
  | cons c cs ih =>
    rw [firstFail, if_pos (h c List.mem_cons_self)]
    exact ih fun x hx => h x (List.mem_cons_of_mem c hx)

/-- R57: a packet that meets the conditions passes every check before that of its launch time. -/
theorem packetChecks_pass {k : Card} {lenOk : Bool} {u : State} {h : Hdr} {se : Session} (hA : Admits k lenOk u h se) :
    ∀ c ∈ packetChecks k lenOk u h se, c.1 = true := by
  have hrole : ((u.boot.role == .lane && bit k.role 0) || (u.boot.role == .car && bit k.role 1)) = true := by
    rcases hA.role with ⟨hr, hb⟩ | ⟨hr, hb⟩ <;> simp [hr, hb]
  have hprov : (!se.prov || u.provAdmits k) = true := by
    cases hp : se.prov with
    | false => rfl
    | true => exact hA.prov hp
  have hpair : (!u.standby || k.query || [0x0, 0xB, 0xC, 0xD, 0xE].contains k.cls) = true := by
    simpa only [Bool.or_eq_true, Bool.not_eq_true', or_assoc] using hA.pair
  have henabled : (!k.enabled || u.boot.stage == 6) = true := by
    cases hk : k.enabled with
    | false => rfl
    | true => exact beq_iff_eq.mpr (hA.enabled hk)
  simp only [packetChecks, List.forall_mem_cons, List.all_eq_true, bne_iff_ne, decide_eq_true_eq, hrole, hprov, hpair, henabled, hA.owner, hA.dom, hA.len,
    hA.kind, hA.node, hA.addressed, hA.stage, hA.up, hA.rights, beq_self_eq_true, Bool.and_self, Bool.not_false, true_and]
  exact ⟨hA.tag, hA.free, hA.credit, List.forall_mem_nil _⟩

/-- R57: after the conditions, only the launch time is checked. -/
theorem passes_of_admits {k : Card} {lenOk : Bool} {h : Hdr} {s : State} {se : Session} (hA : Admits k lenOk (s.advance h.t) h se) :
    (taking h s).passes k (tagOf k.opc h s) lenOk h.launch = ((s.advance h.t).launchBad k h.launch).map fun x => (false, x) := by
  rw [passes_taking hA.sess, firstFail_none (packetChecks_pass hA), Option.none_or]

/-- R83: a packet that meets the conditions, and whose launch time is refused. -/
theorem refused_of_launchBad {i : Instr} {d : CardDef} {h : Hdr} {data : List Byte} {s : State} {se : Session} {reason : Nat}
    (hi : cardOf i = some (d, h, data)) (hA : Admits d.k (d.lenOk data) (s.advance h.t) h se)
    (hb : (s.advance h.t).launchBad d.k h.launch = some reason) : Refused i s h d.k.opc false reason := by
  refine refused_of_exec (admits_hears hA) (exec_refusePacket hi (admits_hears hA) ?_)
  rw [passes_of_admits hA, hb]
  rfl

section LaunchBad

variable {u : State} {k : Card} {launch : Nat} (h0 : launch ≠ 0)
include h0

theorem launchBad_past (hp : launch < u.time.now) : u.launchBad k launch = some 0xFF03 := by
  unfold State.launchBad
  rw [if_neg h0, if_pos hp]

theorem launchBad_far (hf : u.time.now + 86400 * 10 ^ 9 < launch) : u.launchBad k launch = some 0x1005 := by
  unfold State.launchBad
  rw [if_neg h0, if_neg (by omega), if_pos hf]

/-- R83: within a day ahead, the card and then the timebase decide. -/
theorem launchBad_ahead (hp : u.time.now ≤ launch) (hf : launch ≤ u.time.now + 86400 * 10 ^ 9) :
    u.launchBad k launch = if k.lead.isNone then some 0x1006 else if u.time.tb = .unset then some 0x1001 else none := by
  unfold State.launchBad
  rw [if_neg h0, if_neg (Nat.not_lt.mpr hp), if_neg (Nat.not_lt.mpr hf)]

end LaunchBad

/-- Settles O10: one case for each refusal of R83. -/
theorem launchTimesAreChecked : Obligations.LaunchTimesAreChecked := by
  intro i d h data s u se hi hu hA h0
  subst hu
  refine ⟨fun hp => refused_of_launchBad hi hA (launchBad_past h0 hp), fun hf => refused_of_launchBad hi hA (launchBad_far h0 hf),
    fun hp hf hl => refused_of_launchBad hi hA ?notLaunchable, fun hp hf hl ht => refused_of_launchBad hi hA ?unset⟩
  case notLaunchable => rw [launchBad_ahead h0 hp hf, if_pos (by simp [hl])]
  case unset => rw [launchBad_ahead h0 hp hf, if_neg (by simpa using hl), if_pos ht]

/-! ## Launched commands (R82, R84) -/

/-- R57: a packet with a good launch time, whose card's own checks pass, is late or waits. -/
theorem runCard_later {d : CardDef} {h : Hdr} {data : List Byte} {s : State} {se : Session} (hA : Admits d.k (d.lenOk data) (s.advance h.t) h se)
    (h0 : h.launch ≠ 0) (hb : (s.advance h.t).launchBad d.k h.launch = none) :
    runCard d h data s = runLater d (tagOf d.k.opc h s) h.launch data (taking h s) := by
  rw [runCard_accept hA]
  unfold State.accept
  rw [passes_of_admits hA, hb]
  exact if_neg h0

/-! ### LATE (R84) -/

theorem runLater_late {d : CardDef} {tr : TagRec} {launch lead : Nat} {data : List Byte} {s : State} (ho : d.own s tr data = none)
    (hl : d.k.lead = some lead) (hs : launch - s.time.now < lead) : runLater d tr launch data s = (s.addTag tr).late tr 0x1010 := by
  unfold runLater
  rw [ho, hl]
  exact if_pos hs

/-- R84: a LATE reply counts. -/
theorem device_finish_late {tr : TagRec} {s : State} (hf : s.flying tr = true) (reason stamp : Nat) (data : List Byte) :
    device (s.finish tr 5 reason stamp data) = device { s with time := { s.time with lateCnt := wrapAdd 32 s.time.lateCnt 1 } } := by
  unfold State.finish
  rw [if_pos hf]
  refine device_modRing tr.pair _ ?_ { s with time := { s.time with lateCnt := wrapAdd 32 s.time.lateCnt 1 } }
  exact fun _ => rfl

/-- A command that has its final reply gets no ACCEPTED reply after it. -/
theorem accepted_of_follows {tr : TagRec} {s t : State} (hs : s.flying tr = false) (hf : (s.ring tr.pair).Follows (t.ring tr.pair)) (data : List Byte) :
    t.accepted tr data = t := by
  have ht : t.flying tr = false := by
    unfold State.flying Ring.inFlight at hs ⊢
    rw [hf.2.1]
    exact hs
  unfold State.accepted
  rw [if_neg (by simp [ht])]

/-- R84, R85, R93: a command in hand that ends LATE: its reply, the count, and event source 0x16 told. -/
theorem ends_late {i : Instr} {opc : Nat} {h : Hdr} {s x : State} {reason : Nat} (he : exec i s = ok (x.late (tagOf opc h s) reason)) (hx : InHand opc h s x) :
    Ends i s h opc 5 reason [] { x with time := { x.time with lateCnt := wrapAdd 32 x.time.lateCnt 1 } } := by
  have hlate : x.late (tagOf opc h s) reason = (x.finish (tagOf opc h s) 5 reason x.time.now []).fire 0x16 (tagOf opc h s).tgt reason [] := by
    unfold State.late
    rw [if_pos hx.flying]
  have hfire := ring_fire_steady 0x16 (tagOf opc h s).tgt reason [] _ h.pair (finish_steady hx 5 reason x.time.now [] (by simp))
  rw [hlate, ← accepted_of_follows (finish_not_flying _ 5 _ _ _ _) hfire []] at he
  refine ends_of_device (ends_follow he hx hfire) ?_
  rw [device_fire, device_finish_late hx.flying]

/-! ### In the launch queue (R82) -/

/-- The command of a packet, in flight for its launch edge. -/
def launchTag (opc : Nat) (h : Hdr) (s : State) : TagRec := { tagOf opc h s with edge := edgeAt (heard h s).time.phase h.launch }

/-- The device with the command of a packet in its launch queue. -/
def enqueued (opc : Nat) (h : Hdr) (data : List Byte) (s : State) : State :=
  { heard h s with launchQ := (heard h s).launchQ ++ [Launch.mk (launchTag opc h s) h.launch data] }

/-- The same once the packet's ring has taken its SEQ and its tag. -/
def awaiting (opc : Nat) (h : Hdr) (data : List Byte) (s : State) : State :=
  ((enqueued opc h data s).modRing h.pair (Ring.takeSeq h.seq)).modRing h.pair fun r => { r with tags := r.tags ++ [launchTag opc h s] }

theorem runLater_waits {d : CardDef} {h : Hdr} {data : List Byte} {s : State} {lead : Nat} (ho : d.own (taking h s) (tagOf d.k.opc h s) data = none)
    (hl : d.k.lead = some lead) (hs : lead ≤ h.launch - (s.advance h.t).time.now) :
    runLater d (tagOf d.k.opc h s) h.launch data (taking h s) = (awaiting d.k.opc h data s).accepted (launchTag d.k.opc h s) [] := by
  unfold runLater
  rw [ho, hl]
  exact if_neg (Nat.not_lt.mpr hs)

theorem device_awaiting (opc : Nat) (h : Hdr) (data : List Byte) (s : State) : device (awaiting opc h data s) = device (enqueued opc h data s) := by
  unfold awaiting
  rw [device_modRing, device_modRing _ _ (ringSettings_takeSeq h.seq)]
  exact fun _ => rfl

theorem ring_awaiting {opc : Nat} {h : Hdr} {data : List Byte} {s : State} {se : Session} (hs : ((s.advance h.t).ring h.pair).sess = some se) :
    (awaiting opc h data s).ring h.pair
      = { ((s.advance h.t).ring h.pair).takeSeq h.seq with tags := ((s.advance h.t).ring h.pair).tags ++ [launchTag opc h s] } := by
  have hl : h.pair < (enqueued opc h data s).rings.length := ring_of_sess hs
  have hlen : h.pair < ((enqueued opc h data s).modRing h.pair (Ring.takeSeq h.seq)).rings.length := by simpa using hl
  unfold awaiting
  rw [ring_modRing, if_pos ⟨rfl, hlen⟩, ring_modRing, if_pos ⟨rfl, hl⟩]
  rfl

/-- R41, R45: what the acceptance of a command in flight leaves of its pair, once the records are placed: an ACCEPTED reply unless
NOACC is set, and the tag. -/
theorem ring_accepted_flush {tr : TagRec} {x : State} {data : List Byte} (ht : tr ∈ (x.ring tr.pair).tags) (hst : (x.ring tr.pair).Steady) :
    (bit tr.flg 2 = false → ((x.accepted tr data).flush.ring tr.pair).recent
        = ((x.ring tr.pair).note tr.seq (tr.reply 0x01 1 0 x.time.now data)).recent)
      ∧ tr ∈ ((x.accepted tr data).flush.ring tr.pair).tags := by
  have hf : x.flying tr = true := List.contains_iff_mem.mpr ht
  by_cases hb : bit tr.flg 2 = false
  · have hlen : tr.pair < x.rings.length := by
      refine Classical.byContradiction fun hn => ?_
      simp [State.ring, List.getD, hn] at ht
    have hq : x.accepted tr data = x.queue tr (tr.reply 0x01 1 0 x.time.now data) := if_pos ⟨hf, hb⟩
    have hr : (x.queue tr (tr.reply 0x01 1 0 x.time.now data)).ring tr.pair
        = { (x.ring tr.pair).note tr.seq (tr.reply 0x01 1 0 x.time.now data) with
            held := (x.ring tr.pair).held ++ [tr.reply 0x01 1 0 x.time.now data] } := by
      unfold State.queue
      rw [ring_modRing, if_pos ⟨rfl, hlen⟩]
    have hsteady : ((x.queue tr (tr.reply 0x01 1 0 x.time.now data)).ring tr.pair).Steady := by
      rw [hr]
      intro z hz
      rcases List.mem_append.mp hz with hz | hz
      · exact hst z hz
      · rw [List.mem_singleton.mp hz]
        simp [Rec.rekeys, TagRec.reply]
    obtain ⟨hrecent, htags, -⟩ := ring_flush_steady _ tr.pair hsteady
    rw [hq, hrecent, htags, hr]
    exact ⟨fun _ => rfl, ht⟩
  · have hq : x.accepted tr data = x := if_neg fun k => hb k.2
    obtain ⟨-, htags, -⟩ := ring_flush_steady x tr.pair hst
    rw [hq, htags]
    exact ⟨fun k => absurd k hb, ht⟩

/-- R82: a packet whose command waits for its launch edge. -/
theorem queued_of_exec {i : Instr} {k : Card} {lenOk : Bool} {h : Hdr} {data : List Byte} {s : State} {se : Session} (hA : Admits k lenOk (s.advance h.t) h se)
    (he : exec i s = ok ((awaiting k.opc h data s).accepted (launchTag k.opc h s) [])) : Queued i s h k.opc data (heard h s) := by
  have hring := ring_awaiting (opc := k.opc) (data := data) hA.sess
  have ht : launchTag k.opc h s ∈ ((awaiting k.opc h data s).ring h.pair).tags := by
    rw [hring]
    exact List.mem_append_right _ (List.mem_singleton_self _)
  have hst : ((awaiting k.opc h data s).ring h.pair).Steady := by
    rw [hring]
    exact hA.epoch
  obtain ⟨hrecent, htag⟩ := ring_accepted_flush (tr := launchTag k.opc h s) (data := []) ht hst
  refine ⟨_, launchTag k.opc h s, rfl, he, ?device, fun hb => ⟨(launchTag k.opc h s).reply 0x01 1 0 (awaiting k.opc h data s).time.now [], ?reply,
    rfl, rfl, rfl, rfl, rfl, rfl⟩, htag⟩
  case device =>
    rw [device_flush, device_accepted, device_awaiting]
    rfl
  case reply =>
    refine (congrArg List.head? (hrecent hb)).trans ?_
    change (Ring.note h.seq _ ((awaiting k.opc h data s).ring h.pair)).recent.head? = _
    rw [hring]
    simp [Ring.note, Ring.takeSeq]

/-- Settles O11: the lead of the card decides between LATE and the launch queue. The launch edge lies on the grid of log 14. -/
theorem launchedCommandsWaitOrAreLate : Obligations.LaunchedCommandsWaitOrAreLate := by
  intro i d h data s u se lead hi hu hA ho hl htb hp h0 hf
  subst hu
  have hb : (s.advance h.t).launchBad d.k h.launch = none := by
    rw [launchBad_ahead h0 hp hf, hl, if_neg (by simp), if_neg htb]
  have hexec := (exec_cardOf hi s).trans (congrArg ok (runCard_later hA h0 hb))
  refine ⟨fun hlt => ?late, fun hge => ?waits⟩
  case late =>
    refine ends_of_device (ends_late (hexec.trans (congrArg ok (runLater_late ho hl hlt))) (inHand_begun hA)) ?_
    exact device_swap d.k.opc h s (X := { heard h s with time := { (s.advance h.t).time with lateCnt := wrapAdd 32 (s.advance h.t).time.lateCnt 1 } }) rfl rfl
  case waits => exact queued_of_exec hA (hexec.trans (congrArg ok (runLater_waits ho hl hge)))

/-! ## MILESTONE_CANCEL (R91) -/

section Cancel

variable {s : State} {tr : TagRec} {data : List Byte}

theorem cancelOwn_foreign (hp : rd data 0 1 ≠ tr.pair) (hd : tr.dom ≠ 0) : milestoneCancelOwn s tr data = some (0x1033, []) := by
  unfold milestoneCancelOwn
  exact if_pos ⟨hp, hd⟩

variable (hp : rd data 0 1 = tr.pair ∨ tr.dom = 0)
include hp

theorem cancelOwn_idle (hw : s.waiting (rd data 0 1) (rd data 2 2) = none) : milestoneCancelOwn s tr data = some (0x1032, []) := by
  unfold milestoneCancelOwn
  rw [if_neg fun k => hp.elim k.1 k.2, hw]

/-- R91: for a command that waits, the time to its edge decides. -/
theorem cancelOwn_waiting {l : Launch} (hw : s.waiting (rd data 0 1) (rd data 2 2) = some l) :
    milestoneCancelOwn s tr data = if l.tag.edge < s.time.now + 2000 then some (0x1031, []) else none := by
  unfold milestoneCancelOwn
  rw [if_neg fun k => hp.elim k.1 k.2, hw]
  simp only [refuseIf, decide_eq_true_eq]

end Cancel

theorem cancelEff_waiting {s : State} {data : List Byte} {l : Launch} (tr : TagRec) (hw : s.waiting (rd data 0 1) (rd data 2 2) = some l) :
    milestoneCancelEff tr data s
      = (({ s with launchQ := s.launchQ.filter fun x => x != l } : State).abort l.tag 0x1030).done tr (le 8 l.tag.edge) := by
  unfold milestoneCancelEff
  rw [hw]

/-- R91: a cancel in time. The cancelled command has a launch edge, which MILESTONE_CANCEL has not: its final reply leaves the cancel
itself in flight. -/
theorem cancel_ends {s : State} {h : Hdr} {data : List Byte} {l : Launch} (hc : Admitted milestoneCancelCard s h data)
    (hw : (heard h s).waiting (rd data 0 1) (rd data 2 2) = some l) (he : l.tag.edge ≠ 0) :
    Ends (.milestoneCancel h data) s h 0x1004 2 0 (le 8 l.tag.edge) { heard h s with launchQ := (heard h s).launchQ.filter fun x => x != l } := by
  have hne : l.tag ≠ tagOf 0x1004 h s := fun k => he (congrArg TagRec.edge k)
  have hx : InHand 0x1004 h s (({ begun 0x1004 h s with launchQ := (heard h s).launchQ.filter fun x => x != l } : State).abort l.tag 0x1030) :=
    ((inHand_admitted hc).of_rings (y := { begun 0x1004 h s with launchQ := (heard h s).launchQ.filter fun x => x != l }) rfl).finish_other l.tag 4 _ _ _
      hne (by simp)
  exact ends_done (d := milestoneCancelCard) rfl hc (cancelEff_waiting _ hw) hx rfl ((device_abort _ _ _).trans (device_swap 0x1004 h s rfl rfl))

theorem exec_cancel {s : State} {h : Hdr} {data : List Byte} {l : Launch} (hc : Admitted milestoneCancelCard s h data)
    (hw : (heard h s).waiting (rd data 0 1) (rd data 2 2) = some l) :
    exec (.milestoneCancel h data) s
      = ok ((({ begun 0x1004 h s with launchQ := (heard h s).launchQ.filter fun x => x != l } : State).abort l.tag 0x1030).done (tagOf 0x1004 h s)
          (le 8 l.tag.edge)) := by
  have heff : milestoneCancelCard.eff (tagOf milestoneCancelCard.k.opc h s) data (begun milestoneCancelCard.k.opc h s) = _ :=
    cancelEff_waiting (s := begun 0x1004 h s) _ hw
  rw [exec_cardOf (i := .milestoneCancel h data) rfl, runCard_admitted hc, heff]
  exact congrArg ok (accepted_finish _ _ _ _ _ _ _)

/-- Settles O17: three refusals by the card's own check (R57 step 15), and the cancel. -/
theorem cancelsFollowR91 : Obligations.CancelsFollowR91 := by
  intro s u h data p tag hc hu hp htag
  subst hu hp htag
  refine ⟨fun hp hd => ?foreign, fun hp hw => ?idle, fun l hp hw hlt => ?tooLate, fun l hp hw hge => ?cancels⟩
  case foreign => exact ownChecksRefuse _ milestoneCancelCard h data s _ _ rfl hc (cancelOwn_foreign hp hd)
  case idle => exact ownChecksRefuse _ milestoneCancelCard h data s _ _ rfl hc (cancelOwn_idle hp hw)
  case tooLate => exact ownChecksRefuse _ milestoneCancelCard h data s _ _ rfl hc ((cancelOwn_waiting hp hw).trans (if_pos hlt))
  case cancels =>
    have hadm : Admitted milestoneCancelCard s h data := ⟨hc, (cancelOwn_waiting hp hw).trans (if_neg (Nat.not_lt.mpr hge))⟩
    exact ⟨cancel_ends hadm hw (by omega), exec_cancel hadm hw⟩

/-! ## The timebase cards (R74, R467) -/

/-- R467: the reply of TIME_STATUS begins with the time and the state of the timebase. -/
theorem timeStatusReply_take (s : State) : (timeStatusReply s).take 9 = le 8 s.time.now ++ le 1 s.time.tb.code := by
  have hlen : (le 8 s.time.now ++ le 1 s.time.tb.code).length = 9 := by rw [List.length_append, le_length, le_length]
  unfold timeStatusReply
  simp only [List.append_assoc]
  rw [← List.append_assoc, List.take_left' hlen]

/-- Settles O22. That TIME_CONFIG ends DONE at its acceptance is the model's choice (log 89). -/
theorem timebaseCards : Obligations.TimebaseCards := by
  refine ⟨fun s h data hc => ?status, fun s h data _ => timeStatusReply_take _, fun s h data hc => ?config, fun s h data hc => ?set⟩
  case status => exact query_clears rfl rfl hc rfl rfl
  case config => exact query_clears rfl rfl hc rfl rfl
  case set => exact noted_runs rfl hc rfl rfl rfl

end Sys2Proof.Timebase

/-! SUPPORT and PROOF. CONFIG_WRITE (R112) and REANCHOR (R111): what a fragment, a completed section and a deletion do to the
configuration, and what a search that begins or that has no edge ahead does to its car. -/

namespace Sys2Proof.CircuitAndPosition

open Sys2Proof.Machine Sys2Proof.Safety
open Sys2Proof.CommandCards (query_clears noted_runs)

/-! ## CONFIG_WRITE (R112) -/

/-- R112: the section taken out of both copies, with what every change of the configuration takes back (R62, R98). -/
def sectionDeleted (id : Nat) (s : State) : State :=
  { s with
    cfg := { s.cfg with
      staging := none, a := putSection id none s.cfg.a, b := putSection id none s.cfg.b
      calib := if calibSections.contains id then { s.cfg.calib with present := false } else s.cfg.calib }
    chk := { s.chk with report := none, total := 0 } }

/-- The ledger record of a deletion (R391): SECCRC 0. -/
def deletionLogged (id : Nat) (s : State) : State := s.ledger 8 1 0 0 (le 2 id ++ zeros 2 ++ le 4 0)

section Effect
variable {s : State} {data : List Byte}

theorem configWriteEff_stages (tr : TagRec) (hd : cwDeletes data = false) (hc : cwCompletes data = false) :
    configWriteEff tr data s = ({ s with cfg := { s.cfg with
      staging := some (Staging.mk (cwSec data) (cwOff data + (cwBytes data).length) (cwTot data) ((s.cwBase data).getD [] ++ cwBytes data)) } }).done tr (zeros 8) := by
  unfold configWriteEff
  rw [hd, hc]
  rfl

theorem configWriteEff_completes (tr : TagRec) (hd : cwDeletes data = false) (hc : cwCompletes data = true) :
    configWriteEff tr data s = { s with cfg := { s.cfg with staging := none, writing := s.cfg.writing ++
      [{ tag := tr, id := cwSec data, data := (s.cwBase data).getD [] ++ cwBytes data }] } } := by
  unfold configWriteEff
  rw [hd, hc]
  rfl

theorem configWriteEff_deletes (tr : TagRec) (hd : cwDeletes data = true) :
    configWriteEff tr data s = (({ s with cfg := { s.cfg with staging := none } }).commitSection (cwSec data) none).done tr (zeros 8) :=
  if_pos hd

end Effect

/-- A section that the running device keeps no state of is only taken away. -/
theorem commitSection_deletes_plain {id : Nat} (s : State) (hid : [0x0002, 0x0401, 0x0900, 0x0901, 0x0203].contains id = false) :
    ({ s with cfg := { s.cfg with staging := none } } : State).commitSection id none = deletionLogged id (sectionDeleted id s) := by
  simp only [List.contains_eq_mem, List.mem_cons, List.not_mem_nil, or_false, not_or, decide_eq_false_iff_not] at hid
  obtain ⟨hpts, hbank, hcan, hobj, hblk⟩ := hid
  unfold State.commitSection
  simp only [if_neg hpts, if_neg hbank, if_neg hcan, if_neg hobj, if_neg hblk]
  rfl

/-- R309: with section 0x0901 go the extended objects of the CAN channels. -/
theorem commitSection_deletes_rxObjs (s : State) :
    ({ s with cfg := { s.cfg with staging := none } } : State).commitSection 0x0901 none = deletionLogged 0x0901 (sectionDeleted 0x0901 s).trimObjs := rfl

section Cards
variable {s : State} {h : Hdr} {data : List Byte}

/-- R112: a fragment that leaves its section open is staged. -/
theorem configWrite_stages (ha : Admitted configWriteCard s h data) (hd : cwDeletes data = false) (hc : cwCompletes data = false) :
    Ends (.configWrite h data) s h 0x2010 2 0 (zeros 8)
      { heard h s with cfg := { s.cfg with staging := some (Staging.mk (cwSec data) (cwOff data + (cwBytes data).length) (cwTot data)
          ((s.cwBase data).getD [] ++ cwBytes data)) } } :=
  query_clears rfl rfl ha (configWriteEff_stages _ hd hc) rfl

/-- R112: a fragment that completes its section sends it to both copies. -/
theorem configWrite_commits (ha : Admitted configWriteCard s h data) (hd : cwDeletes data = false) (hc : cwCompletes data = true) :
    Runs (.configWrite h data) s h 0x2010 []
      { heard h s with cfg := { s.cfg with staging := none, writing := s.cfg.writing ++
          [{ tag := tagOf 0x2010 h s, id := cwSec data, data := (s.cwBase data).getD [] ++ cwBytes data }] } } :=
  noted_runs rfl ha (configWriteEff_completes _ hd hc) rfl rfl

/-- R112: a deletion ends DONE at once, with what the deletion of the section does to the running device. -/
theorem configWrite_deletes {f : State → State} (ha : Admitted configWriteCard s h data) (hd : cwDeletes data = true)
    (he : ({ begun 0x2010 h s with cfg := { s.cfg with staging := none } } : State).commitSection (cwSec data) none
      = deletionLogged (cwSec data) { f (heard h s) with rings := (begun 0x2010 h s).rings })
    (hf : (f (heard h s)).rings = (heard h s).rings) :
    Ends (.configWrite h data) s h 0x2010 2 0 (zeros 8) (f (heard h s)) := by
  refine ends_done (x := deletionLogged (cwSec data) { f (heard h s) with rings := (begun 0x2010 h s).rings }) rfl ha ?_
    ((inHand_admitted ha).of_rings rfl) rfl ((device_ledger ..).trans (device_swap 0x2010 h s rfl hf))
  rw [← he]
  exact configWriteEff_deletes _ hd

/-- R112, in the form that holds: a deletion of a section that the running device keeps no state of only takes it away. -/
theorem configWrite_deletes_plain (ha : Admitted configWriteCard s h data) (hd : cwDeletes data = true)
    (hid : [0x0002, 0x0401, 0x0900, 0x0901, 0x0203].contains (cwSec data) = false) :
    Ends (.configWrite h data) s h 0x2010 2 0 (zeros 8) (sectionDeleted (cwSec data) (heard h s)) :=
  configWrite_deletes ha hd (commitSection_deletes_plain (begun 0x2010 h s) hid) rfl

/-- R112, R309: a deletion of section 0x0901 takes the extended objects with it. -/
theorem configWrite_deletes_rxObjs (ha : Admitted configWriteCard s h data) (hd : cwDeletes data = true) (hid : cwSec data = 0x0901) :
    Ends (.configWrite h data) s h 0x2010 2 0 (zeros 8) (sectionDeleted 0x0901 (heard h s)).trimObjs :=
  configWrite_deletes (f := fun u => (sectionDeleted 0x0901 u).trimObjs) ha hd (by rw [hid]; exact commitSection_deletes_rxObjs (begun 0x2010 h s)) rfl

end Cards

/-- A LANE device in stage 5 whose CAN channel 0 holds the extended object 2,048 of its one record in section 0x0901; domain 0
has a session on ring pair 0. -/
def rxObjLane : State := { State.reset with
  boot := { State.reset.boot with stage := 5, role := .lane }
  power := { mode := .run }
  rings := State.reset.rings.set 0 { quota := 16, owner := some 0, sess := some { tr := .spi } }
  prot := { entries := [⟨0, 0xFFFF, 0xFFFF, 0⟩] }
  cfg := { a := [(0x0901, zeros 4 ++ le 4 (2 ^ 30 + 5))], b := [(0x0901, zeros 4 ++ le 4 (2 ^ 30 + 5))] }
  can := State.reset.can.set 0 { objs := [{ idx := 2048, id := 2 ^ 30 + 5 }] } }

/-- A packet of that session for the circuit, and the payload that deletes section 0x0901. -/
def deleteHdr : Hdr := ⟨0, 0, 0, 7, 1, tgtOf 1 0, 0, 1000⟩
def deleteRxObjs : List Byte := le 2 0x0901 ++ zeros 10

theorem deleteRxObjs_admitted : Admitted configWriteCard rxObjLane deleteHdr deleteRxObjs := by
  refine ⟨⟨rfl, { tr := .spi }, ?_⟩, by decide +kernel⟩
  exact
    { awake := by decide +kernel
      noEntry := nofun
      sess := by decide +kernel
      reads := nofun
      limit := by decide +kernel
      epoch := by decide +kernel
      seq := by decide +kernel
      owner := by decide +kernel
      dom := rfl
      tag := by decide +kernel
      free := by decide +kernel
      credit := by decide +kernel
      role := .inl (by decide +kernel)
      len := by decide +kernel
      kind := by decide +kernel
      node := by decide +kernel
      addressed := by decide +kernel
      stage := by decide +kernel
      up := by decide +kernel
      prov := nofun
      pair := .inl (by decide +kernel)
      rights := by decide +kernel
      enabled := by decide +kernel }

/-- Refutes O23 in its third clause: section 0x0901 is not among those set apart, yet its deletion drops the extended CAN objects
(R309), which the clause leaves in place. The clause holds with 0x0901 set apart too (`configWrite_deletes_plain`), and so do the
first two (`configWrite_stages`, `configWrite_commits`). -/
theorem not_configWriteStagesAndCommits : ¬ Obligations.ConfigWriteStagesAndCommits := by
  unfold Obligations.ConfigWriteStagesAndCommits
  rintro ⟨-, -, hdel⟩
  obtain ⟨t, ht, hdev, -⟩ := hdel rxObjLane deleteHdr deleteRxObjs deleteRxObjs_admitted (by decide) (by decide)
  obtain ⟨t', ht', hdev', -⟩ := configWrite_deletes_rxObjs deleteRxObjs_admitted (by decide) (by decide)
  obtain rfl : t = t' := by simpa [ht] using ht'
  have kept_ne_dropped : rxObjLane.can ≠ (sectionDeleted 0x0901 (heard deleteHdr rxObjLane)).trimObjs.can := by decide +kernel
  have hcan := congrArg State.can (hdev.symm.trans hdev')
  exact kept_ne_dropped hcan

/-! ## REANCHOR (R111) -/

/-- A car of the block, after a change of it. -/
theorem car_modCar {s : State} {c : Nat} (hc : c < s.cars.length) (f : Car → Car) : (s.modCar c f).car c = f (s.car c) := by
  simp [State.car, State.modCar, List.getD_eq_getElem?_getD, hc]

theorem endSearch_of_none {s : State} {c : Nat} (hn : (s.car c).search = none) (status reason : Nat) : s.endSearch c status reason = s := by
  unfold State.endSearch
  rw [hn]

theorem endSearch_of_some {s : State} {c : Nat} {k : Search} (hk : (s.car c).search = some k) (status reason : Nat) :
    s.endSearch c status reason
      = (((s.modCar c fun x => { x with search := none }).finish k.tag status reason s.time.now (s.searchReply c k)).posFire 0x26 c (s.car c).pos.trust) := by
  unfold State.endSearch
  rw [hk]

/-- R111: the car of a search that begins: its search toward the edge `q`, and the move that carries it there. -/
def searching (tr : TagRec) (data : List Byte) (s : State) (q : Nat × Int) (x : Car) : Car :=
  let c := tgtIdx tr.tgt
  let dir := s.searchDir c (rd data 0 1)
  let speed := if rd data 4 4 = 0 then 300000 else rd data 4 4
  { x with
    search := some { tag := tr, dir := dir, speed := speed, wm := q.1, limit := s.searchEnd c dir q.2, start := roundQ (s.car c).pos.pQ }
    plan := { x.plan with next := some { elem := x.pos.elem, target := s.searchEnd c dir q.2, vmax := speed, revok := true, kind := 4
                                         due := s.time.now + 31250 } } }

/-- The reply of a search that has not moved its car and has passed no Waymark. -/
def noEdgeReply (x : Car) : List Byte := le 1 x.pos.trust ++ zeros 3 ++ le 2 0xFFFF ++ zeros 2 ++ leS 4 0

section Effect
variable {s : State} {tr : TagRec} {data : List Byte}

/-- R111: toward an edge the search begins. -/
theorem reanchorEff_searches {q : Nat × Int} (hn : (s.car (tgtIdx tr.tgt)).search = none)
    (he : s.edgeAhead (tgtIdx tr.tgt) (s.searchDir (tgtIdx tr.tgt) (rd data 0 1)) = some q) :
    reanchorEff tr data s = s.modCar (tgtIdx tr.tgt) (searching tr data s q) := by
  unfold reanchorEff
  simp only [endSearch_of_none hn, he]
  rfl

/-- R111: with no edge ahead the search ends at once, and event source 0x26 is told. -/
theorem reanchorEff_no_edge {c : Nat} (hc : c = tgtIdx tr.tgt) (hlt : c < s.cars.length) (hn : (s.car c).search = none)
    (he : s.edgeAhead c (s.searchDir c (rd data 0 1)) = none) :
    reanchorEff tr data s = (((s.modCar c fun x => { x with search := none }).finish tr 4 0x2024 s.time.now (noEdgeReply (s.car c))).posFire 0x26 c
      (s.car c).pos.trust) := by
  subst hc
  have hcar := car_modCar hlt fun x => { x with search := some { tag := tr, wm := 0xFFFF, start := roundQ (s.car (tgtIdx tr.tgt)).pos.pQ } }
  unfold reanchorEff
  simp only [endSearch_of_none hn, he]
  rw [endSearch_of_some (congrArg Car.search hcar)]
  simp only [State.searchReply, hcar, Int.sub_self]
  simp only [State.modCar, List.modify_modify_eq]
  rfl

end Effect

/-- Settles O25: the search begins where an edge lies ahead; where none does, its reply is the one of a car that has not moved. -/
theorem reanchorSearchesTheNearestEdge : Obligations.ReanchorSearchesTheNearestEdge := by
  refine ⟨fun s h data q c u dir ha hc hu hdir hn hq => ?searches, fun s h data c u ha hc hu hlt hn hq => ?ends⟩
  case searches =>
    subst hc hu hdir
    exact noted_runs rfl ha (reanchorEff_searches (s := begun 0x2022 h s) hn hq) rfl rfl
  case ends =>
    subst hc hu
    have hx : InHand 0x2022 h s ((begun 0x2022 h s).modCar (tgtIdx h.tgt) fun x => { x with search := none }) := (inHand_admitted ha).of_rings rfl
    refine ends_card_then (stamp := (heard h s).time.now) rfl ha (reanchorEff_no_edge (s := begun 0x2022 h s) rfl hlt hn hq) hx ?_ ?_
    · exact ring_fire_steady _ _ _ _ _ _ (finish_steady hx _ _ _ _ rfl)
    · exact (device_fire ..).trans ((device_finish _ _ _ _ _ (by decide) _).trans (device_swap 0x2022 h s rfl rfl))

end Sys2Proof.CircuitAndPosition

/-! SUPPORT and PROOF. The motion cards of spec 05: what MOVE_TO (R116, R142) leaves waiting where nothing waits, in either role, and
when MOVE_STOP (R131) ends at once or asks for a stop. -/

namespace Sys2Proof.MotionPlanning

open Sys2Proof.Machine Sys2Proof.Safety
open Sys2Proof.CommandCards (query_clears noted_runs le_length)

/-! ## MOVE_TO (R116, R126, R142) -/

/-- R116: the move that a payload asks for, due 31.25 us after the acceptance. -/
def dueMove (tr : TagRec) (data : List Byte) (s : State) : Move := { moveOf tr data with due := s.time.now + 31250 }

/-- R116: a door's command that makes that move. -/
def dueDoorCmd (tr : TagRec) (data : List Byte) (s : State) : DoorCmd :=
  { tag := some tr, kind := 3, due := s.time.now + 31250, since := s.time.now, move := some (dueMove tr data s) }

theorem moveReply_length (time : Nat) (pos : Int) (clamp : Nat) : (moveReply time pos clamp).length = 16 := by
  simp only [moveReply, leS, zeros, List.length_append, le_length, List.length_replicate]

theorem moveToAcc_length (s : State) (tr : TagRec) : (moveToAcc s tr).length = 16 := by
  unfold moveToAcc
  split
  case isTrue =>
    dsimp only
    split
    · rfl
    · exact moveReply_length ..
  case isFalse =>
    dsimp only
    split
    · rfl
    · exact moveReply_length ..

section MoveTo
variable {s : State} {tr : TagRec} {data : List Byte}

theorem dropNext_of_none {c : Nat} (hn : (s.planOf c).next = none) (status reason : Nat) : s.dropNext c status reason = s := by
  unfold State.dropNext
  simp only [hn]

theorem offerDoor_of_none {d : Nat} (hn : (s.door d).next = none) (k : DoorCmd) :
    s.offerDoor d k = s.modDoor d fun x => { x with next := some { k with since := s.time.now } } := by
  unfold State.offerDoor
  simp only [hn]

/-- LANE role: the car with no move waiting gets the move as its next. -/
theorem moveToEff_lane (hr : s.boot.role = .lane) (hn : (s.planOf (tgtIdx tr.tgt)).next = none) :
    moveToEff tr data s = s.modPlan (tgtIdx tr.tgt) fun p => { p with next := some (dueMove tr data s) } := by
  unfold moveToEff
  simp only [if_pos hr, dropNext_of_none hn]
  rfl

/-- CAR role: the door with no command waiting gets the move as its next command. -/
theorem moveToEff_door (hr : s.boot.role ≠ .lane) (hn : (s.door (s.doorTgt tr)).next = none) :
    moveToEff tr data s = s.modDoor (s.doorTgt tr) fun x => { x with next := some (dueDoorCmd tr data s) } := by
  unfold moveToEff
  simp only [if_neg hr, offerDoor_of_none hn]
  rfl

end MoveTo

/-! ## MOVE_STOP (R131) -/

/-- The stop that KIND asks for: 1 is S1, the other value that the card admits is S2. -/
abbrev askedKind (data : List Byte) : StopKind := if rd data 0 1 = 1 then .s1 else .s2

/-- A car's plan stands, with no move in force or waiting and no stop. -/
abbrev PlanIdle (p : Plan) : Prop := p.standing = true ∧ p.move = none ∧ p.next = none ∧ p.stop = none

/-- A door's members stand, with no command in force or waiting. -/
abbrev DoorIdle (d : Nat) (s : State) : Prop := s.doorStands d = true ∧ (s.door d).cmd = none ∧ (s.door d).next = none

section MoveStop
variable {s : State} {tr : TagRec} {data : List Byte}

/-- LANE role: an idle plan is answered with its position, any other gets a stop. -/
theorem moveStopEff_lane (hr : s.boot.role = .lane) :
    moveStopEff tr data s =
      if PlanIdle (s.planOf (tgtIdx tr.tgt)) then s.done tr (leS 4 (roundQ (s.planOf (tgtIdx tr.tgt)).pQ) ++ zeros 4)
      else s.askStop (askedKind data) (some tr) (tgtIdx tr.tgt) := by
  unfold moveStopEff
  simp only [if_pos hr, Option.isNone_iff_eq_none]

/-- CAR role: an idle door is answered with its position, any other gets a stop. -/
theorem moveStopEff_door (hr : s.boot.role ≠ .lane) :
    moveStopEff tr data s =
      if DoorIdle (s.doorTgt tr) s then s.done tr (leS 4 (s.doorPos (s.doorTgt tr)) ++ zeros 4)
      else s.askDoorStop (askedKind data) (some tr) (s.doorTgt tr) := by
  unfold moveStopEff
  simp only [if_neg hr, Option.isNone_iff_eq_none]

end MoveStop

/-! ## The statement -/

/-- Settles O26: with nothing waiting MOVE_TO supersedes nothing, and its move is the next of the car or of the door; MOVE_STOP takes one of
the two branches of R131, in either role. -/
theorem moveCards : Obligations.MoveCards := by
  refine ⟨fun s h data ha hr hn => ?moveCar, fun s h data d ha hr hd hn => ?moveDoor, fun s h data p ha hr hp hi => ?carStands,
    fun s h data p ha hr hp hi => ?carStops, fun s h data d u ha hr hd hu hi => ?doorStands, fun s h data d u ha hr hd hu hi => ?doorStops⟩
  case moveCar =>
    exact ⟨_, moveToAcc_length _ _, noted_runs rfl ha (moveToEff_lane (s := begun 0x3001 h s) hr hn) rfl rfl⟩
  case moveDoor =>
    subst hd
    exact ⟨_, moveToAcc_length _ _, noted_runs rfl ha (moveToEff_door (s := begun 0x3001 h s) hr hn) rfl rfl⟩
  case carStands =>
    subst hp
    exact query_clears rfl rfl ha ((moveStopEff_lane (s := begun 0x3002 h s) hr).trans (if_pos hi)) rfl
  case carStops =>
    subst hp
    exact noted_runs rfl ha ((moveStopEff_lane (s := begun 0x3002 h s) hr).trans (if_neg hi)) rfl rfl
  case doorStands =>
    subst hd hu
    exact query_clears rfl rfl ha ((moveStopEff_door (s := begun 0x3002 h s) hr).trans (if_pos hi)) rfl
  case doorStops =>
    subst hd hu
    exact noted_runs rfl ha ((moveStopEff_door (s := begun 0x3002 h s) hr).trans (if_neg hi)) rfl rfl

end Sys2Proof.MotionPlanning

/-! SUPPORT and PROOF. The trunks of spec 06: the cards that begin an enumeration and note a service change (R158, R164), and the
rows of frames and of an enumeration's end (R147, R151, R158, R165, R166). What an event tells stays staged for the ledger. -/

namespace Sys2Proof.TrunkLines

open Sys2Proof.Machine Sys2Proof.Safety
open Sys2Proof.Startup (becomes_of_ok)
open Sys2Proof.CommandCards (query_clears noted_runs)

/-! ## The staging queue (R392) -/

theorem stage_prefix (l : Ledger) (r : LRec) : l.staged <+: (l.stage r).staged := by
  unfold Ledger.stage
  split
  · exact List.prefix_rfl
  · exact List.prefix_append ..

/-- R392: with 257 places free a record is staged, whatever its type. -/
theorem mem_stage {l : Ledger} (r : LRec) (hl : l.staged.length ≤ 7935) : r ∈ (l.stage r).staged := by
  have hroom : ¬(r.type = 1 ∧ 8192 - l.staged.length < 257) := by omega
  unfold Ledger.stage
  rw [if_neg hroom]
  exact List.mem_append_right _ List.mem_cons_self

theorem staged_fire (src tgt reason : Nat) (items : List Byte) (s : State) : s.led.staged <+: (s.fire src tgt reason items).led.staged := by
  unfold State.fire
  dsimp only
  split
  · exact stage_prefix ..
  · exact List.prefix_rfl

@[simp] theorem placedRec_led (tr : Transport) (src : Option Nat) (s : State) : (s.placedRec tr src).led = s.led := by
  unfold State.placedRec
  cases src with
  | none => rfl
  | some n => cases tr <;> rfl

theorem staged_foldl {α : Type} {f : State → α → State} (hf : ∀ s x, s.led.staged <+: (f s x).led.staged) (l : List α) (s : State) :
    s.led.staged <+: (l.foldl f s).led.staged :=
  List.foldlRecOn l f (motive := fun t => s.led.staged <+: t.led.staged) List.prefix_rfl fun t ht x _ => ht.trans (hf t x)

theorem staged_pumpRing (p : Nat) (s : State) : s.led.staged <+: (s.pumpRing p).led.staged :=
  staged_foldl (fun t x => (placedRec_led _ x.src t).symm ▸ List.prefix_rfl) _ { s with rings := s.rings.set p ((s.ring p).pump s.time.now).1 }

theorem staged_nearLimit (p : Nat) (s : State) : s.led.staged <+: (s.nearLimit p).led.staged := by
  unfold State.nearLimit
  dsimp only
  split
  · exact staged_fire 0x04 0 0 [] (s.modRing p _)
  · exact List.prefix_rfl

/-- Placing the records of a meaning takes nothing from the staging queue. -/
theorem staged_flush (s : State) : s.led.staged <+: s.flush.led.staged := by
  have hpump (u : State) : u.led.staged <+: (pairNums.foldl (fun s p => s.pumpRing p) u).led.staged := staged_foldl (fun s p => staged_pumpRing p s) _ u
  have hnear (u : State) : u.led.staged <+: (pairNums.foldl (fun s p => s.nearLimit p) u).led.staged := staged_foldl (fun s p => staged_nearLimit p s) _ u
  unfold State.flush
  dsimp only
  split
  · exact (hpump s).trans ((hnear _).trans (hpump _))
  · exact hpump s

/-- R391, R392: a meaning that ends by telling a source. -/
theorem becomesTelling_of_fire {i : Instr} {s w : State} {src tgt reason : Nat} {items : List Byte}
    (h : exec i s = ok (w.fire src tgt reason items)) : BecomesTelling i s w src tgt reason items := by
  refine ⟨_, h, by rw [device_flush, device_fire], fun hlog hroom => (staged_flush _).subset ?_⟩
  unfold State.fire
  dsimp only
  rw [if_pos hlog]
  exact mem_stage _ hroom

/-- A meaning that may end by telling a source: the device is the same either way. -/
theorem becomes_of_fire_if {i : Instr} {s w : State} {c : Prop} [Decidable c] {src tgt reason : Nat} {items : List Byte}
    (h : exec i s = ok (if c then w.fire src tgt reason items else w)) : Becomes i s w := by
  refine ⟨_, h, ?_⟩
  rw [device_flush]
  split
  · exact device_fire ..
  · rfl

/-- A meaning that ends in a DONE reply: the device is what it was before the reply. -/
theorem becomes_of_done {i : Instr} {s w : State} {tr : TagRec} {data : List Byte} (h : exec i s = ok (w.done tr data)) : Becomes i s w :=
  ⟨_, h, by rw [device_flush, device_done]⟩

/-! ## The cards -/

/-- Settles O27. What the two cards read and write lies beside the rings. That SEGMENT_SERVICE ends DONE at its acceptance, before the
boundary that applies it, is the model's choice (log 89). -/
theorem trunkCards : Obligations.TrunkCards := by
  refine ⟨fun s h data m ha hm => ?enumerate, fun s h data x ha hx => ?service⟩
  case enumerate =>
    subst hm
    exact noted_runs rfl ha rfl rfl rfl
  case service =>
    subst hx
    exact query_clears rfl rfl ha rfl rfl

/-! ## The rows -/

/-- R151, R165: how many checks of a returned frame failed. -/
def failedChecks (fr : TrunkRx) : Nat := b2n (!fr.hcrcOk) + b2n (!fr.setCrcOk) + (fr.slots.filter fun x => !x.crcOk).length

/-- The counts of a trunk after `bad` failed checks and `lost` receive overflows. -/
def Trunk.counted (bad lost : Nat) (x : Trunk) : Trunk := { x with crcErr := wrapAdd 32 x.crcErr bad, ovf := wrapAdd 32 x.ovf lost }

/-- R151, R165: what a good frame adds to its trunk at `now`. -/
def Trunk.heardFrame (now : Nat) (fr : TrunkRx) (y : Trunk) : Trunk :=
  { y with
    gotA := if fr.dirn = 0 then (if fr.port = 1 then 1 else 2) else y.gotA
    gotB := if fr.dirn = 1 then (if fr.port = 0 then 1 else 2) else y.gotB
    slots := y.slots ++ goodSlots y fr.dirn fr.slots
    maxRet := max y.maxRet (now - now / tickNs * tickNs) }

/-- R151, R165: what a returned frame makes of its trunk: an overflow counts and hides the checks, a failed HCRC only counts. -/
def frameTaken (fr : TrunkRx) (u : State) : State :=
  u.modTrunk fr.trunk fun x =>
    let y := Trunk.counted (if fr.overflow then 0 else failedChecks fr) (b2n fr.overflow) x
    if fr.overflow || !fr.hcrcOk then y else Trunk.heardFrame u.time.now fr y

/-- R165: event source 0x3C is told of a frame's overflow or failed checks. -/
def frameTold (fr : TrunkRx) (u : State) : State := u.fire 0x3C 0 0 (trunkItems fr.trunk 0xFFFF 0xFFFF 0xFF (b2n fr.overflow))

/-- R158: the trunks of a mask have the maps that an enumeration found; `more` waits. -/
def mapsStored (mask : Nat) (walks : List TrunkWalk) (more : List (Option TagRec × Nat × Nat)) (u : State) : State :=
  { u with
    enumRun := more
    trunks := u.trunks.mapIdx fun i x => if (bit mask i) = true then Trunk.enumerated ((walks.find? fun w => w.trunk == i).getD ⟨i, [], [], 0⟩) x else x }

section Frame

variable {fr : TrunkRx} (u : State)

theorem frameTaken_overflow (ho : fr.overflow = true) : frameTaken fr u = u.modTrunk fr.trunk (Trunk.counted 0 1) := by
  unfold frameTaken
  simp only [ho, Bool.true_or, if_true]
  rfl

theorem frameTaken_bad_header (ho : fr.overflow = false) (hh : fr.hcrcOk = false) :
    frameTaken fr u = u.modTrunk fr.trunk (Trunk.counted (failedChecks fr) 0) := by
  unfold frameTaken
  simp only [ho, hh, Bool.not_false, Bool.or_true, if_true]
  rfl

theorem frameTaken_good (ho : fr.overflow = false) (hh : fr.hcrcOk = true) :
    frameTaken fr u = u.modTrunk fr.trunk fun x => Trunk.heardFrame u.time.now fr (Trunk.counted (failedChecks fr) 0 x) := by
  unfold frameTaken
  simp only [ho, hh, Bool.not_true, Bool.or_false]
  rfl

theorem failedChecks_bad_header (hh : fr.hcrcOk = false) :
    failedChecks fr = 1 + b2n (!fr.setCrcOk) + (fr.slots.filter fun x => !x.crcOk).length := by
  unfold failedChecks
  rw [hh]
  rfl

theorem failedChecks_good_header (hh : fr.hcrcOk = true) :
    failedChecks fr = b2n (!fr.setCrcOk) + (fr.slots.filter fun x => !x.crcOk).length := by
  have hnone : b2n (!fr.hcrcOk) = 0 := by rw [hh]; rfl
  unfold failedChecks
  rw [hnone, Nat.zero_add]

end Frame

section Rows

variable {s u : State} {t : Nat} {fr : TrunkRx} (hu : u = s.advance t)
include hu

theorem frame_trunk_off_becomes (hon : u.trunkOn fr.trunk = false) : Becomes (.trunkFrameReceived t fr) s u := by
  subst hu
  refine becomes_of_ok (?_ : execTrunkFrameReceived t fr s = _)
  unfold execTrunkFrameReceived
  simp only [hon, Bool.not_false, if_true]

theorem exec_frame_trunk_on (hon : u.trunkOn fr.trunk = true) :
    exec (.trunkFrameReceived t fr) s
      = ok (if fr.overflow || failedChecks fr ≠ 0 then frameTold fr (frameTaken fr u) else frameTaken fr u) := by
  subst hu
  exact if_neg (by simp [hon])

/-- R165: a receive overflow loses the frame. -/
theorem frame_overflow_tells (hon : u.trunkOn fr.trunk = true) (ho : fr.overflow = true) :
    BecomesTelling (.trunkFrameReceived t fr) s (u.modTrunk fr.trunk (Trunk.counted 0 1)) 0x3C 0 0 (trunkItems fr.trunk 0xFFFF 0xFFFF 0xFF 1) := by
  rw [← frameTaken_overflow u ho]
  refine becomesTelling_of_fire ((exec_frame_trunk_on hu hon).trans ?_)
  unfold frameTold
  rw [ho, Bool.true_or, if_pos rfl]
  rfl

/-- R165: a failed HCRC loses the frame. -/
theorem frame_bad_header_tells (hon : u.trunkOn fr.trunk = true) (ho : fr.overflow = false) (hh : fr.hcrcOk = false) :
    BecomesTelling (.trunkFrameReceived t fr) s (u.modTrunk fr.trunk (Trunk.counted (failedChecks fr) 0)) 0x3C 0 0
      (trunkItems fr.trunk 0xFFFF 0xFFFF 0xFF 0) := by
  have hbad : failedChecks fr ≠ 0 := by rw [failedChecks_bad_header hh]; omega
  rw [← frameTaken_bad_header u ho hh]
  refine becomesTelling_of_fire ((exec_frame_trunk_on hu hon).trans ?_)
  unfold frameTold
  rw [decide_eq_true hbad, Bool.or_true, if_pos rfl, ho]
  rfl

/-- R151: any other frame is heard; a bad slot or setpoint section of it is counted, and told. -/
theorem frame_good_header_becomes (hon : u.trunkOn fr.trunk = true) (ho : fr.overflow = false) (hh : fr.hcrcOk = true) :
    Becomes (.trunkFrameReceived t fr) s (u.modTrunk fr.trunk fun x => Trunk.heardFrame u.time.now fr (Trunk.counted (failedChecks fr) 0 x)) := by
  rw [← frameTaken_good u ho hh]
  exact becomes_of_fire_if (exec_frame_trunk_on hu hon)

/-- R158: the end of the enumeration that runs first stores its maps. -/
theorem enumerationEnd_becomes {tag : Option TagRec} {mask z : Nat} {more : List (Option TagRec × Nat × Nat)} (walks : List TrunkWalk)
    (hr : u.enumRun = (tag, mask, z) :: more) : Becomes (.enumerationEnd t walks) s (mapsStored mask walks more u) := by
  subst hu
  cases tag with
  | none =>
    refine becomes_of_ok (?_ : execEnumerationEnd t walks s = _)
    unfold execEnumerationEnd
    simp only [hr]
    rfl
  | some tr =>
    refine becomes_of_done (tr := tr) (data := (mapsStored mask walks more (s.advance t)).enumReply mask) (?_ : execEnumerationEnd t walks s = _)
    unfold execEnumerationEnd
    simp only [hr]
    rfl

end Rows

/-- Settles O47: a frame start has no branches; a returned frame is split by the trunk, the overflow and the HCRC. -/
theorem trunkRows : Obligations.TrunkRows := by
  intro s u v t fr walks
  refine ⟨fun hv => ?start, fun bad hu hon ho hh hb => ?heard, fun bad hu hon ho hh hb => ?badHeader, fun hu => frame_overflow_tells hu,
    fun hu => frame_trunk_off_becomes hu, fun tag mask z more hu => enumerationEnd_becomes hu walks⟩
  case start =>
    subst hv
    exact becomes_of_ok rfl
  case heard =>
    rw [hb, ← failedChecks_good_header hh]
    exact frame_good_header_becomes hu hon ho hh
  case badHeader =>
    rw [hb, ← failedChecks_bad_header hh]
    exact frame_bad_header_tells hu hon ho hh

end Sys2Proof.TrunkLines

/-! SUPPORT and PROOF. The cards of the control engine (R190-R201): banks and their swaps, injections, captures, and the acknowledgement
of trips. What INJECT_STOP adds is that the command it ends is another's (R197), so that its own reply still stands. -/

namespace Sys2Proof.ControlEngine

open Sys2Proof.Machine Sys2Proof.Safety
open Sys2Proof.CommandCards (query_clears noted_runs)

/-! ## Injections (R197) -/

/-- R197: the injection that the channel holds is dropped, its command ends ABORTED, and event source 0x43 is told. -/
theorem endInj_of_some {s : State} {ch : Nat} {j : Inj} (hj : (s.loopCh ch).inj = some j) (reason : Nat) :
    s.endInj ch reason
      = ((s.modChan ch fun c => { c with inj := none, sig := F64.zero }).finish j.tag 4 reason s.time.now (le 4 j.n)).loopFire 0x43 ch := by
  unfold State.endInj
  rw [hj]

theorem device_loopFire (src ch : Nat) (s : State) : device (s.loopFire src ch) = device s := device_fire ..

/-- R197: beside the rings an ended injection leaves its channel without a signal, and nothing else. -/
theorem device_endInj {s : State} {ch : Nat} {j : Inj} (hj : (s.loopCh ch).inj = some j) (reason : Nat) :
    device (s.endInj ch reason) = device (s.modChan ch fun c => { c with inj := none, sig := F64.zero }) := by
  rw [endInj_of_some hj, device_loopFire, device_finish _ _ _ _ _ (by decide)]

/-- An injection that another command began ends without a word on this one. -/
theorem inHand_endInj {opc : Nat} {h : Hdr} {s x : State} {ch : Nat} {j : Inj} (hx : InHand opc h s x) (hj : (x.loopCh ch).inj = some j)
    (hne : j.tag ≠ tagOf opc h s) (reason : Nat) : InHand opc h s (x.endInj ch reason) := by
  have hchan : InHand opc h s (x.modChan ch fun c => { c with inj := none, sig := F64.zero }) := hx.of_rings rfl
  rw [endInj_of_some hj]
  exact (hchan.finish_other j.tag 4 _ _ _ hne (by simp)).fire ..

/-! ## Faults (R277) -/

theorem unfault_of_no_faults {s : State} (hf : s.safe.faults = []) (p : FaultRec → Bool) : s.unfault p = s := by
  unfold State.unfault
  rw [hf]
  rfl

theorem loopFaultEnd_of_no_faults {s : State} (hf : s.safe.faults = []) (node : Nat) : s.loopFaultEnd node = s := by
  unfold State.loopFaultEnd
  simp only [unfault_of_no_faults hf, ite_self]

/-- R201: what LOOP_ACK releases of a channel. -/
def acknowledged (m : Nat) (c : Chan) : Chan := { c with satTrip := c.satTrip && !bit m 0, plTrip := c.plTrip && !bit m 1 }

theorem loopAckEff_of_no_faults {s : State} (hf : s.safe.faults = []) (tr : TagRec) (data : List Byte) :
    loopAckEff tr data s = (s.modChan (rd data 0 1) (acknowledged (rd data 1 1))).done tr [] := by
  have hend := loopFaultEnd_of_no_faults (s := s.modChan (rd data 0 1) (acknowledged (rd data 1 1))) hf tr.tgt
  exact congrArg (State.done tr []) hend

/-! ## The statement -/

/-- Settles O28. The cards of banks and captures write only what lies beside the rings, and so does LOOP_ACK where no fault stands; the
command that INJECT_STOP ends is an INJECT_START, and so not itself. -/
theorem loopCards : Obligations.LoopCards := by
  refine ⟨fun s h data ha => ?load, fun s h data ha => ?swap, fun s h data ha => ?start, fun s h data j ha hj hopc => ?stop,
    fun s h data b ha hb => ?arm, fun s h data ha hf => ?ack⟩
  case load => exact query_clears rfl rfl ha rfl rfl
  case swap => exact noted_runs rfl ha rfl rfl rfl
  case start => exact noted_runs rfl ha rfl rfl rfl
  case stop =>
    have hne : j.tag ≠ tagOf 0x4005 h s := fun k => absurd (hopc.symm.trans (congrArg TagRec.opc k) : 0x4004 = 0x4005) (by decide)
    have hown : ((begun 0x4005 h s).loopCh (rd data 0 1)).inj = some j := hj
    exact ends_done rfl ha rfl (inHand_endInj (inHand_admitted ha) hown hne 0x4021) rfl
      ((device_endInj hown 0x4021).trans (device_swap 0x4005 h s rfl rfl))
  case arm =>
    subst hb
    exact query_clears rfl rfl ha rfl rfl
  case ack => exact query_clears rfl rfl ha (loopAckEff_of_no_faults (s := begun 0x4008 h s) hf _ data) rfl

end Sys2Proof.ControlEngine

/-! SUPPORT and PROOF. The cards of spec 08 (R217, R224, R229, R434): AUTH_CLOSE and TRIP_EVAL are noted and wait, CALL_CANCEL ends a
call, and CAR_SERVICE sets the service mode of a car on which no calls lie. -/

namespace Sys2Proof.AuthorityAndDispatch

open Sys2Proof.Machine Sys2Proof.Safety
open Sys2Proof.CommandCards (noted_runs)

/-! ## Outcomes -/

/-- A card whose effect ends with a DONE reply leaves the device as it was before the reply, whether or not the command was still in
flight. -/
theorem becomes_of_eff_done {i : Instr} {d : CardDef} {s x : State} {h : Hdr} {data reply : List Byte} (hi : cardOf i = some (d, h, data))
    (hc : Admitted d s h data) (he : d.eff (tagOf d.k.opc h s) data (begun d.k.opc h s) = x.done (tagOf d.k.opc h s) reply) :
    Becomes i s x := by
  refine ⟨_, exec_cardOf hi s, ?_⟩
  rw [runCard_admitted hc, he, device_flush, device_accepted, device_done]

/-! ## Dispatch service (R229) -/

/-- R229: the service mode of a car, set. -/
def inMode (c mode : Nat) (s : State) : State := s.modSvc c fun v => { v with mode := mode }

theorem setSvc_of_same {s : State} {c mode : Nat} (hm : (s.car c).svc.mode = mode) : s.setSvc c mode = s := if_pos hm

/-- R229: setting out of service a car that holds no call moves no call. -/
theorem no_calls_to_move {s : State} {c : Nat} (hk : ∀ k ∈ s.disp.calls, k.car ≠ some c) :
    (s.disp.calls.filter fun k => k.car == some c && k.state == 0) = [] :=
  List.filter_eq_nil_iff.mpr fun k hmem hp => hk k hmem (beq_iff_eq.mp (Bool.and_eq_true_iff.mp hp).1)

/-- R229: a car without calls takes the mode, and event source 0x59 is told where it enters or leaves mode 0. -/
theorem setSvc_without_calls {s : State} {c mode : Nat} (hm : (s.car c).svc.mode ≠ mode) (hk : ∀ k ∈ s.disp.calls, k.car ≠ some c) :
    s.setSvc c mode
      = if (s.car c).svc.mode = 0 ∨ mode = 0 then (inMode c mode s).fire 0x59 (tgtOf 8 c) 0 (authItems c 0xFFFF mode) else inMode c mode s := by
  have hmoved : ∀ x : State, x.disp = s.disp →
      ((x.disp.calls.filter fun k => k.car == some c && k.state == 0).map (·.id)).foldl (fun s id => s.forceMove id) x = x := by
    intro x hx
    rw [hx, no_calls_to_move hk]
    rfl
  unfold State.setSvc
  rw [if_neg hm]
  dsimp only
  rw [hmoved _ (by split <;> rfl), ite_self]
  rfl

theorem device_setSvc_without_calls {s : State} {c mode : Nat} (hm : (s.car c).svc.mode ≠ mode) (hk : ∀ k ∈ s.disp.calls, k.car ≠ some c) :
    device (s.setSvc c mode) = device (inMode c mode s) := by
  rw [setSvc_without_calls hm hk]
  split
  · exact device_fire ..
  · rfl

theorem inHand_setSvc_without_calls {opc : Nat} {h : Hdr} {s x : State} {c mode : Nat} (hx : InHand opc h s x)
    (hm : (x.car c).svc.mode ≠ mode) (hk : ∀ k ∈ x.disp.calls, k.car ≠ some c) : InHand opc h s (x.setSvc c mode) := by
  have hset : InHand opc h s (inMode c mode x) := hx.of_rings rfl
  rw [setSvc_without_calls hm hk]
  split
  · exact hset.fire ..
  · exact hset

/-! ## The statement -/

/-- Settles O29. What AUTH_CLOSE and TRIP_EVAL write lies beside the rings, and so does the mode that CAR_SERVICE sets; no call is moved
off a car that has none. That a newer AUTH_CLOSE takes over the blocks of waiting ones is log 33. -/
theorem authorityAndCarCards : Obligations.AuthorityAndCarCards := by
  refine ⟨fun s h data ha => ?close, fun s h data ha => ?eval, fun s h data ha => ?cancel, fun s h data c ha hc hm => ?same,
    fun s h data c ha hc hm hk => ?service⟩
  case close => exact noted_runs rfl ha rfl rfl rfl
  case eval => exact noted_runs rfl ha rfl rfl rfl
  case cancel => exact becomes_of_eff_done rfl ha rfl
  case same =>
    subst hc
    have hset : (begun 0x5013 h s).setSvc (tgtIdx h.tgt) (rd data 0 1) = begun 0x5013 h s := setSvc_of_same hm
    exact ends_done rfl ha (congrArg (State.done (tagOf 0x5013 h s) []) hset) (inHand_admitted ha) rfl (device_begun 0x5013 h s)
  case service =>
    subst hc
    have hbegun : ((begun 0x5013 h s).car (tgtIdx h.tgt)).svc.mode ≠ rd data 0 1 := hm
    exact ends_done rfl ha rfl (inHand_setSvc_without_calls (inHand_admitted ha) hbegun hk) rfl
      ((device_setSvc_without_calls hbegun hk).trans (device_swap 0x5013 h s rfl rfl))

end Sys2Proof.AuthorityAndDispatch

/-! SUPPORT and PROOF. The cards of spec 10: SAFETY_RESET (R280) waits among the reset requests, and SAFETY_TEST (R283) begins the full
test, on the latch as it stands or by a trip of its own. -/

namespace Sys2Proof.SafetyPath

open Sys2Proof.Machine Sys2Proof.Safety
open Sys2Proof.CommandCards (noted_runs)

/-! ## The full test (R283) -/

/-- R283: the full test runs; `clear` notes whether the latch was clear before it. -/
def inTest (tag : Option TagRec) (clear : Bool) (s : State) : State := { s with safe := { s.safe with testing := some (tag, clear) } }

/-- R283: with the latch set the test leaves it set, and the causes of its trip unchanged. -/
theorem beginTest_of_latched {s : State} (hl : s.safe.latch = true) (tag : Option TagRec) : s.beginTest tag = inTest tag false s := by
  unfold State.beginTest
  rw [hl]
  rfl

/-- R283: with the latch clear the test trips network A, through the channel that the next free value picks (log 6). -/
theorem beginTest_of_clear {s : State} (hl : s.safe.latch = false) (tag : Option TagRec) :
    s.beginTest tag = ({ inTest tag true s with free := s.free + 1 } : State).trip (2 ^ ((Config.freeValue s.free).toNat % 8)) 1 := by
  unfold State.beginTest
  rw [hl]
  rfl

/-! ## The cards -/

/-- A card's effect is all that its admitted packet does to the device: the ACCEPTED reply moves only records. -/
theorem becomes_of_eff {i : Instr} {d : CardDef} {s x : State} {h : Hdr} {data : List Byte} (hi : cardOf i = some (d, h, data))
    (hc : Admitted d s h data) (he : d.eff (tagOf d.k.opc h s) data (begun d.k.opc h s) = x) : Becomes i s x := by
  refine ⟨_, exec_cardOf hi s, ?_⟩
  rw [runCard_admitted hc, he, device_flush, device_accepted]

/-- Settles O32. A reset request, and a test on the latch as it stands, are noted beside the rings; a test on a clear latch trips, and
that its channel is a free value is the model's choice (log 6). -/
theorem safetyResetAndTest : Obligations.SafetyResetAndTest := by
  refine ⟨fun s h data ha => ?reset, fun s h data ha hl => ?latched, fun s h data ha hl => ?clear⟩
  case reset => exact noted_runs rfl ha rfl rfl rfl
  case latched => exact noted_runs rfl ha (beginTest_of_latched (s := begun 0x7003 h s) hl _) rfl rfl
  case clear => exact becomes_of_eff rfl ha (beginTest_of_clear (s := begun 0x7003 h s) hl _)

end Sys2Proof.SafetyPath

/-! SUPPORT and PROOF. The field outputs of spec 11 (R290, R295, R296, R299): what a write does to its output and to the others, and the
cards FIELD_OUT_WRITE and FIELD_OUT_ACK. -/

namespace Sys2Proof.FieldOutputs

open Sys2Proof.Machine Sys2Proof.Safety
open Sys2Proof.CommandCards (query_clears)

/-! ## A write of a commanded value (R290, R295, R296) -/

/-- R299: feeding a source changes its points only. -/
theorem feed_eq (ty src v at0 : Nat) (s : State) : s.feed ty src v at0 = { s with pts := (s.feed ty src v at0).pts } := by
  unfold State.feed
  exact List.foldlRecOn (motive := fun t : State => t = { s with pts := t.pts }) (s.pointsOf ty src) _ rfl
    fun t ht i _ => congrArg (State.putPoint { idx := i, value := v, flags := 1, at0 := at0 }) ht

/-- R295, R296: an output after a write of `v`, its group OK or not. -/
def Fq.written (v grpOk : Bool) (q : Fq) : Fq := { q with cmd := v, sag := if v then q.sag || !grpOk else false }

theorem writeFq_rings (n : Nat) (v : Bool) (s : State) : (s.writeFq n v).rings = s.rings := by
  unfold State.writeFq
  rw [feed_eq]

theorem writeFq_field (n : Nat) (v : Bool) (s : State) :
    (s.writeFq n v).field = { s.field with fq := s.field.fq.modify n (Fq.written v (s.grpOk (fqGroup n))) } := by
  unfold State.writeFq
  rw [feed_eq]
  rfl

theorem fq_writeFq_same {n : Nat} {s : State} (hn : n < s.field.fq.length) (v : Bool) :
    (s.writeFq n v).fq n = Fq.written v (s.grpOk (fqGroup n)) (s.fq n) := by
  unfold State.fq
  rw [writeFq_field]
  simp [List.getD_eq_getElem?_getD, hn]

theorem fq_writeFq_other {m n : Nat} (hm : m ≠ n) (v : Bool) (s : State) : (s.writeFq n v).fq m = s.fq m := by
  unfold State.fq
  rw [writeFq_field]
  simp [List.getD_eq_getElem?_getD, hm.symm]

/-! ## The effects of the cards -/

/-- R295: the reason of a write's DONE. -/
theorem writeReason_eq (x : Nat) (grpOk : Bool) :
    (if (x != 0 && !grpOk) = true then 0x8020 else 0) = if x ≠ 0 ∧ grpOk = false then 0x8020 else 0 := by
  simp

/-- R290, R295: FIELD_OUT_WRITE of a target that names an output. -/
theorem fieldOutWriteEff_of_output {s : State} {tr : TagRec} {n : Nat} (hq : s.fqOf tr.tgt = some n) (data : List Byte) :
    fieldOutWriteEff tr data s = (s.writeFq n (rd data 0 1 != 0)).finish tr 2
      (if rd data 0 1 ≠ 0 ∧ s.grpOk (fqGroup n) = false then 0x8020 else 0) s.time.now (qstate (s.writeFq n (rd data 0 1 != 0)) n) := by
  unfold fieldOutWriteEff
  simp only [hq, writeReason_eq]

/-- R296: an output without the latches that a mask names. -/
def Fq.acknowledged (m : Nat) (q : Fq) : Fq := { q with sag := q.sag && !bit m 0, rbFlt := q.rbFlt && !bit m 1, therm := q.therm && !bit m 2 }

/-- R296: FIELD_OUT_ACK's effect beside its reply. -/
def acked (n m : Nat) (s : State) : State := { s with field := { s.field with fq := s.field.fq.modify n (Fq.acknowledged m) } }

/-- R296: FIELD_OUT_ACK of a target that names an output. -/
theorem fieldOutAckEff_of_output {s : State} {tr : TagRec} {n : Nat} (hq : s.fqOf tr.tgt = some n) (data : List Byte) :
    fieldOutAckEff tr data s = (acked n (rd data 0 1) s).done tr (qstate (acked n (rd data 0 1) s) n) := by
  unfold fieldOutAckEff
  simp only [hq]
  rfl

/-! ## The statement -/

/-- Settles O33: a write leaves the rings, so that its command is still in hand at its reply, and one output of the list is modified. That
no readback or thermal condition persists, so that FIELD_OUT_ACK clears those latches, is the model's choice (log 23). -/
theorem fieldOutputCards : Obligations.FieldOutputCards := by
  refine ⟨fun s h data n ha hq => ?write, fun s h data n u ha hq hu => ?ack,
    fun s n v hn => ⟨?cmd, fun hv => ?cleared, fun hv hg => ?latched, fun m hm => ?other⟩⟩
  case write =>
    have hbegun : (begun 0x8002 h s).fqOf (tagOf 0x8002 h s).tgt = some n := hq
    exact ends_card (d := fieldOutWriteCard) rfl ha (fieldOutWriteEff_of_output hbegun data)
      ((inHand_admitted ha).of_rings (writeFq_rings _ _ _)) (by decide) rfl
  case ack =>
    subst hu
    have hbegun : (begun 0x8003 h s).fqOf (tagOf 0x8003 h s).tgt = some n := hq
    exact query_clears rfl rfl ha (fieldOutAckEff_of_output hbegun data) rfl
  case cmd => rw [fq_writeFq_same hn]; rfl
  case cleared => rw [fq_writeFq_same hn, hv]; rfl
  case latched =>
    rw [fq_writeFq_same hn, hv, hg]
    exact Bool.or_true _
  case other => exact fq_writeFq_other hm v s

end Sys2Proof.FieldOutputs

/-! SUPPORT and PROOF. The CAN channels of spec 12: the cards CAN_SEND, CAN_TAKE and CAN_POWER (R311, R315, R320, R321), and the rows that
move a channel among its states (R302, R307, R308, R317). -/

namespace Sys2Proof.CanChannels

open Sys2Proof.Machine Sys2Proof.Safety
open Sys2Proof.Startup (becomes_of_ok)
open Sys2Proof.CommandCards (noted_runs)

/-! ## Channels -/

theorem can_of_device {x y : State} (h : device x = device y) : x.can = y.can :=
  (congrArg State.can h :)

theorem chan_modCan_txq (ch : Nat) {f : Can → Can} (hf : ∀ c, (f c).txq = c.txq) (s : State) : ((s.modCan ch f).chan ch).txq = (s.chan ch).txq := by
  simp only [State.chan, State.modCan, List.getD_eq_getElem?_getD, List.getElem?_modify]
  cases s.can[ch]? with
  | none => rfl
  | some c => simp [hf]

/-- R312: feeding an object changes its points only. -/
theorem feedObj_eq (ch : Nat) (o : CanObj) (s : State) : s.feedObj ch o = { s with pts := (s.feedObj ch o).pts } := by
  unfold State.feedObj
  exact List.foldlRecOn (motive := fun t : State => t = { s with pts := t.pts }) _ _ rfl
    fun t ht r _ => congrArg (State.putPoint (o.pointOf (ptType r) (ptIdx r))) ht

/-- R312: so does feeding several objects. -/
theorem feedObjs_eq (ch : Nat) (l : List CanObj) (s : State) :
    l.foldl (fun (s : State) o => s.feedObj ch o) s = { s with pts := (l.foldl (fun (s : State) o => s.feedObj ch o) s).pts } :=
  List.foldlRecOn (motive := fun t : State => t = { s with pts := t.pts }) l _ rfl fun t ht o _ => by
    rw [feedObj_eq, ht]

/-- Entering a channel state, and telling source 0x90 of it, keeps a command in hand. -/
theorem inHand_setCan {opc : Nat} {h : Hdr} {s x : State} (hx : InHand opc h s x) (ch : Nat) (st : CanSt) : InHand opc h s (x.setCan ch st) := by
  unfold State.setCan
  split
  · exact hx
  · refine InHand.fire (hx.of_rings ?_) ..
    split
    · rfl
    · rw [feedObjs_eq]; rfl

/-! ## CAN_SEND (R315) -/

/-- R315: a channel whose queue a frame has joined. -/
def Can.queued (f : TxFrame) (c : Can) : Can :=
  { c with txq := (c.txq.filter fun g => !(g.id == f.id && g.ext == f.ext)) ++ [{ f with order := c.order }], order := c.order + 1 }

/-- R315: a frame that replaces none ends no other command. -/
theorem queueTx_replacing_none {s : State} {ch : Nat} {f : TxFrame} (hn : ∀ g ∈ (s.chan ch).txq, ¬(g.id = f.id ∧ g.ext = f.ext)) :
    s.queueTx ch f = s.modCan ch (Can.queued f) := by
  have hnone : ((s.chan ch).txq.filter fun g => g.id == f.id && g.ext == f.ext) = [] := by
    refine List.filter_eq_nil_iff.mpr fun g hg hsame => hn g hg ?_
    simpa only [Bool.and_eq_true, beq_iff_eq] using hsame
  unfold State.queueTx
  simp only [hnone]
  rfl

/-! ## CAN_TAKE (R311) -/

/-- R311: the objects that a CAN_TAKE names, taken. -/
def Can.objsTaken (data : List Byte) (c : Can) : Can :=
  { c with objs := c.objs.map fun o => if rd data 2 2 ≤ o.idx ∧ o.idx < rd data 2 2 + rd data 4 2 then o.taken else o }

/-- R311, R312: CAN_TAKE's effect beside its reply and the points. -/
theorem canTakeEff_eq (tr : TagRec) (data : List Byte) (s : State) :
    ∃ pts, canTakeEff tr data s = ({ s.modCan (rd data 0 1) (Can.objsTaken data) with pts := pts } : State).done tr (canReadReply s tr data) := by
  unfold canTakeEff
  simp only [Bool.and_eq_true, decide_eq_true_eq]
  rw [feedObjs_eq]
  exact ⟨_, rfl⟩

/-! ## CAN_POWER (R320, R321) -/

/-- R320: a channel that goes to sleep. -/
def Can.toSleep (tr : TagRec) (c : Can) : Can := { c with txq := [], sleeping := some tr, prev := c.st }

/-- R320: with no frame queued, no CAN_SEND ends. -/
theorem dropQueue_of_empty {s : State} {ch : Nat} (hq : (s.chan ch).txq = []) : s.dropQueue ch = s.modCan ch fun c => { c with txq := [] } := by
  unfold State.dropQueue
  rw [hq]
  rfl

theorem canPowerEff_sleeps {s : State} {data : List Byte} (tr : TagRec) (hm : rd data 1 1 ≠ 0) (hq : (s.chan (rd data 0 1)).txq = []) :
    canPowerEff tr data s = s.modCan (rd data 0 1) (Can.toSleep tr) := by
  have hkept := chan_modCan_txq (rd data 0 1) (f := fun c => { c with sleeping := some tr, prev := c.st }) (fun _ => rfl) s
  refine (if_neg hm).trans ((dropQueue_of_empty (hkept.trans hq)).trans ?_)
  unfold State.modCan
  simp only [List.modify_modify_eq]
  rfl

/-- R321: a channel that leaves ASLEEP tells it, and keeps a command in hand. -/
theorem inHand_wakeCan {opc : Nat} {h : Hdr} {s x : State} (hx : InHand opc h s x) (ch id : Nat) : InHand opc h s (x.wakeCan ch id) :=
  inHand_setCan (hx.fire ..) ch _

theorem canPowerEff_wakes {data : List Byte} (s : State) (tr : TagRec) (hm : rd data 1 1 = 0) :
    canPowerEff tr data s = (s.wakeCan (rd data 0 1) 0xFFFFFFFF).done tr
      (le 1 ((s.wakeCan (rd data 0 1) 0xFFFFFFFF).chan (rd data 0 1)).st.code ++ zeros 3) := if_pos hm

/-- Settles O34. A CAN_SEND whose object has no frame waiting, and a CAN_POWER to sleep with an empty queue, end no other command;
CAN_TAKE and a CAN_POWER that wakes are answered at once. -/
theorem canCards : Obligations.CanCards := by
  refine ⟨fun s h data ch fl ha hch hfl hn => ?send, fun s h data ha => ?take, fun s h data ha hm hq => ?sleep, fun s h data ha hm => ?wake⟩
  case send =>
    subst hch hfl
    exact noted_runs rfl ha (queueTx_replacing_none (s := begun 0x9002 h s) hn) rfl rfl
  case take =>
    obtain ⟨pts, heff⟩ := canTakeEff_eq (tagOf 0x9004 h s) data (begun 0x9004 h s)
    obtain ⟨t, ht, hdev, hreply⟩ := ends_done (i := .canTake h data) rfl ha heff ((inHand_admitted ha).of_rings rfl) rfl rfl
    exact ⟨t, ht, hreply, can_of_device hdev⟩
  case sleep => exact noted_runs rfl ha (canPowerEff_sleeps (s := begun 0x9005 h s) _ hm hq) rfl rfl
  case wake =>
    obtain ⟨t, ht, hdev, hreply⟩ := ends_done (i := .canPower h data) rfl ha (canPowerEff_wakes (begun 0x9005 h s) _ hm)
      (inHand_wakeCan (inHand_admitted ha) _ _) rfl rfl
    have hchan : t.chan (rd data 0 1) = ((begun 0x9005 h s).wakeCan (rd data 0 1) 0xFFFFFFFF).chan (rd data 0 1) :=
      congrArg (fun l : List Can => l.getD (rd data 0 1) {}) (can_of_device hdev)
    exact ⟨t, ht, hdev, hchan ▸ hreply⟩

/-! ## Bus errors (R302, R307, R317) -/

/-- R302: a channel that counts an error. -/
def Can.errored (e : CanErr) (c : Can) : Can :=
  { c with tec := e.tec, recv := e.recv, errFr := wrapAdd 32 c.errFr 1, lastErr := e.code, errRun := c.errRun + 1, dirty := true }

/-- R302: fault confinement by the counters after an error: an ACTIVE channel goes PASSIVE, a PASSIVE one comes back. -/
def confined (ch : Nat) (e : CanErr) (st : CanSt) (s : State) : State :=
  match st with
  | .active => if 128 ≤ e.tec ∨ 128 ≤ e.recv then s.setCan ch .passive else s
  | .passive => if e.tec < 128 ∧ e.recv < 128 then s.setCan ch .active else s
  | _ => s

/-- R306: the states in which a channel takes no part in bus traffic. -/
def OffBus (st : CanSt) : Prop := st = .off ∨ st = .asleep ∨ st = .mismatch

theorem offBus_iff (st : CanSt) : (st == .off || st == .asleep || st == .mismatch) = true ↔ OffBus st := by
  simp only [OffBus, Bool.or_eq_true, beq_iff_eq, or_assoc]

/-- R306: a channel that sends is on the bus. -/
theorem not_offBus_of_sends {st : CanSt} (h : st.sends = true) : ¬ OffBus st := by
  rintro (rfl | rfl | rfl) <;> cases h

section Rows

variable {s u : State} {t ch : Nat} {e : CanErr} (hu : u = s.advance t)
include hu

theorem busError_off_bus_becomes (hs : OffBus (u.chan ch).st) : Becomes (.canBusError t ch e) s u := by
  subst hu
  exact becomes_of_ok (if_pos ((offBus_iff _).mpr hs))

theorem busError_uncontested_becomes (hs : ¬ OffBus (u.chan ch).st) (hc : e.contest = false) :
    Becomes (.canBusError t ch e) s (confined ch e (u.chan ch).st (u.modCan ch (Can.errored e))) := by
  subst hu
  refine becomes_of_ok ((if_neg fun k => hs ((offBus_iff _).mp k)).trans ?_)
  rw [hc]
  rfl

/-- R317: an error on the frame being sent, of a contested object, abandons it. -/
theorem busError_contested_becomes {f : TxFrame} (hs : (u.chan ch).st.sends = true) (hc : e.contest = true)
    (hf : (u.chan ch).winner u.time.now = some f) :
    Becomes (.canBusError t ch e) s ((confined ch e (u.chan ch).st (u.modCan ch (Can.errored e))).contest ch f.id f.ext []) := by
  subst hu
  refine becomes_of_ok ((if_neg fun k => not_offBus_of_sends hs ((offBus_iff _).mp k)).trans ?_)
  rw [hc, hf]
  exact if_pos hs

/-! ## Bus-off and the detection of the bit rate (R307, R308) -/

theorem busOff_becomes (hs : (u.chan ch).st.sends = true) :
    Becomes (.busOff t ch) s ((u.modCan ch fun c => { c with busOffs := wrapAdd 16 c.busOffs 1, tec := 256 }).setCan ch .busOff) := by
  subst hu
  exact becomes_of_ok (if_pos hs)

theorem busOff_silent_becomes (hs : (u.chan ch).st.sends = false) : Becomes (.busOff t ch) s u := by
  subst hu
  exact becomes_of_ok (if_neg (Bool.eq_false_iff.mp hs))

theorem busOffRecovery_becomes (hs : (u.chan ch).st = .busOff) :
    Becomes (.busOffRecovery t ch) s ((u.modCan ch fun c => { c with tec := 0, recv := 0 }).setCan ch .verify) := by
  subst hu
  exact becomes_of_ok (if_pos hs)

theorem verifytExpiry_becomes (hs : (u.chan ch).st = .verify) (hr : (u.chan ch).errRun = 0) : Becomes (.verifytExpiry t ch) s (u.setCan ch .active) := by
  subst hu
  exact becomes_of_ok (if_pos ⟨hs, hr⟩)

theorem detwaitExpiry_becomes (hs : (u.chan ch).st = .detect) (hd : (u.chan ch).dirty = false) : Becomes (.detwaitExpiry t ch) s (u.setCan ch .active) := by
  subst hu
  exact becomes_of_ok (if_pos ⟨hs, hd⟩)

/-- R307: event source 0x91 is told of the mismatch. -/
theorem rateMismatch_becomes (detbit : Nat) (hs : (u.chan ch).st = .detect ∨ (u.chan ch).st = .verify) (hr : 16 ≤ (u.chan ch).errRun) :
    Becomes (.rateMismatch t ch detbit) s ((u.modCan ch fun c => { c with detBit := detbit }).setCan ch .mismatch) := by
  subst hu
  refine ⟨_, if_pos ?_, (device_flush _).trans (device_fire ..)⟩
  simpa only [Bool.and_eq_true, Bool.or_eq_true, beq_iff_eq, decide_eq_true_eq] using And.intro hs hr

end Rows

/-- Settles O56: one case for each row and branch. An error is split by whether its channel is on the bus, by the state it finds the
channel in, and by the counters after it. -/
theorem canStateRows : Obligations.CanStateRows := by
  intro s u v t ch detbit c e hu hc hv
  subst hc hv
  have uncontested {st : CanSt} {x : State} (hs : (u.chan ch).st = st) (hon : ¬ OffBus st) (hq : e.contest = false)
      (hx : confined ch e st (u.modCan ch (Can.errored e)) = x) : Becomes (.canBusError t ch e) s x := by
    subst hs hx
    exact busError_uncontested_becomes hu hon hq
  have active_on : ¬ OffBus .active := not_offBus_of_sends rfl
  have passive_on : ¬ OffBus .passive := not_offBus_of_sends rfl
  refine ⟨fun hs hq hn => uncontested hs active_on hq (if_pos hn), fun hs hq ht hr => uncontested hs active_on hq (if_neg ?lowActive),
    fun hs hq ht hr => uncontested hs passive_on hq (if_pos ⟨ht, hr⟩), fun hs hq hn => uncontested hs passive_on hq (if_neg ?highPassive),
    fun hs hq => ?counted, busError_off_bus_becomes hu, fun f hs hq ht hr hf => ?contested, busOff_becomes hu, busOff_silent_becomes hu,
    busOffRecovery_becomes hu, verifytExpiry_becomes hu, detwaitExpiry_becomes hu, rateMismatch_becomes hu detbit⟩
  case lowActive => omega
  case highPassive => omega
  case counted =>
    rcases hs with hs | hs | hs | hs <;> exact uncontested hs (by unfold OffBus; decide) hq rfl
  case contested =>
    have hstay : confined ch e (u.chan ch).st (u.modCan ch (Can.errored e)) = u.modCan ch (Can.errored e) := by
      rw [hs]
      exact if_neg (by omega)
    have := busError_contested_becomes hu (hs ▸ rfl) hq hf
    rwa [hstay] at this

end Sys2Proof.CanChannels

/-! SUPPORT and PROOF. The cards PAIR_PROVE (R359), ATTEST_QUOTE (R377, R378) and LEDGER_HEAD (R396), and the rows of handshakes
(R379-R382): what a HELLO, a FINISH, their timeout, a fragment and a peer's answer come to. -/

namespace Sys2Proof.Handshakes

open Sys2Proof.Machine Sys2Proof.Safety
open Sys2Proof.Startup (becomes_of_ok)
open Sys2Proof.CommandCards (RingFree query_clears noted_runs)
open Sys2Proof.TrunkLines (becomesTelling_of_fire)

/-! ## Statements served in pieces (R377, R378, R396) -/

/-- R378: the statement that a card serves: a new one at OFFSET 0, else the one kept for the pair and nonce. -/
def served (which : Nat) (mk : List Byte → List Byte) (tr : TagRec) (data : List Byte) (s : State) : Quote :=
  if rd data 32 2 = 0 then { pair := tr.pair, which := which, nonce := data.take 32, bytes := mk (data.take 32), at0 := s.time.now }
  else (s.kept which tr.pair (data.take 32)).getD
    { pair := tr.pair, which := which, nonce := data.take 32, bytes := mk (data.take 32), at0 := s.time.now }

/-- R378: the reply with the piece of a statement that is asked for. -/
def pieceReply (q : Quote) (data : List Byte) : List Byte :=
  le 2 q.bytes.length ++ le 2 (rd data 32 2) ++ le 2 (piece q.bytes (rd data 32 2) (if rd data 34 2 = 0 then q.bytes.length else rd data 34 2)).length
    ++ zeros 2 ++ piece q.bytes (rd data 32 2) (if rd data 34 2 = 0 then q.bytes.length else rd data 34 2)

theorem serve_eq (which : Nat) (mk : List Byte → List Byte) (tr : TagRec) (data : List Byte) (s : State) :
    s.serve which mk tr data = (s.keep (served which mk tr data s)).done tr (pieceReply (served which mk tr data s) data) := rfl

/-- A card that serves a statement whose text is read without the rings. -/
theorem serve_ends {i : Instr} {d : CardDef} {which : Nat} {mk : State → List Byte → List Byte} {s : State} {h : Hdr} {data : List Byte}
    (hi : cardOf i = some (d, h, data)) (he : d.eff = fun tr data s => s.serve which (mk s) tr data) (hf : RingFree mk)
    (hs : (d.k.opc == 0xC030) = false) (hc : Admitted d s h data) :
    Ends i s h d.k.opc 2 0 (pieceReply (served which (mk (heard h s)) (tagOf d.k.opc h s) data (heard h s)) data)
      ((heard h s).keep (served which (mk (heard h s)) (tagOf d.k.opc h s) data (heard h s))) := by
  refine query_clears hi hs hc ?_ rfl
  rw [he, ← hf.at_begun d.k.opc h s]
  exact serve_eq ..

/-- Settles O35: the proving swap is noted beside the rings, and both statements are served by the one function. -/
theorem pairAndStatementCards : Obligations.PairAndStatementCards := by
  refine ⟨fun s h data hc => ?prove, fun s h data q hc hq => ?quote, fun s h data q hc hq => ?head⟩
  case prove => exact noted_runs rfl hc rfl rfl rfl
  case quote =>
    subst hq
    exact serve_ends (mk := State.quote) (i := .attestQuote h data) rfl rfl (fun _ _ => rfl) rfl hc
  case head =>
    subst hq
    exact serve_ends (mk := fun s n => s.aliasSigns (s.headBody n)) (i := .ledgerHead h data) rfl rfl (fun _ _ => rfl) rfl hc

/-! ## Handshakes (R379-R382) -/

/-- R381: an ERROR is told with event source 0xC3. -/
theorem becomes_of_hsError {i : Instr} {s w : State} {pair hsid reason : Nat} (h : exec i s = ok (w.hsError pair hsid reason)) :
    Becomes i s (w.say pair hsid 5 (le 2 reason ++ zeros 2)) :=
  ⟨_, h, (device_flush _).trans (device_fire ..)⟩

/-- R381: a handshake that has waited 2 s for its FINISH. -/
def overdue (now pair : Nat) (x : Hs) : Bool := x.pair == pair && decide (x.at0 + 2 * 10 ^ 9 ≤ now)

/-- R382: the unit takes answers on the link. -/
structure TakesAnswer (u : State) (g : PeerMsg) : Prop where
  stage : (if g.pair = 0xFF then 3 else 4) ≤ u.boot.stage
  whole : u.boot.reduced = false
  untouched : u.sec.tamper = false
  link : unitLink g.pair = true
  serves : u.serves = true

/-- R382: nothing bars an answer that the unit takes. -/
theorem TakesAnswer.not_barred {u : State} {g : PeerMsg} (hg : TakesAnswer u g) :
    ¬ (((decide (u.boot.stage < (if g.pair = 0xFF then 3 else 4)) || u.boot.reduced || (g.pair == 0xFE && u.sec.tamper)) || !unitLink g.pair
      || (g.pair == 0xFE && !u.serves)) = true) := by
  rw [decide_eq_false (Nat.not_lt.mpr hg.stage), hg.whole, hg.untouched, hg.link, hg.serves]
  simp

/-- R382: the handshake that a signed REPLY leaves, its own nonce the next free value (log 6). -/
def answered (u : State) (g : PeerMsg) : Hs :=
  { pair := g.pair, hsid := g.car, tr := .ethernet, hello := ⟨g.pair, g.car, g.car, (Config.freeValue u.free).toNat, 0, 0⟩, nd := g.devid
    secret := Config.kemSecret (Config.freeValue u.free).toNat g.devid, at0 := u.time.now }

/-- R382: that handshake waits for the peer's DONE, in place of any before it, and the FINISH goes out. -/
def finishOpened (g : PeerMsg) (u : State) : State :=
  ({ u with
    free := u.free + 1
    sec := { u.sec with hs := (u.sec.hs.filter fun (z : Hs) => !(z.pair == g.pair && z.hello.dom == g.car)) ++ [answered u g] } } : State).say
      g.pair g.car 3 (u.aliasSigns (answered u g).digest ++ le 48 ((answered u g).finmac 0).toNat)

section Rows

variable {s u v : State} {t : Nat} (hu : u = s.advance t)
include hu

/-! ### HELLO (R379, R381) -/

section Hello

variable {tr : Transport} {m : Hello}

theorem hello_starts (ha : u.hsArrival tr = some v) (hb : v.helloBars tr m = none) : Becomes (.hello t tr m) s (v.startHs tr m) := by
  subst hu
  refine becomes_of_ok (?_ : execHello t tr m s = _)
  unfold execHello
  simp only [ha, hb]

theorem hello_barred {reason : Nat} (ha : u.hsArrival tr = some v) (hb : v.helloBars tr m = some reason) :
    Becomes (.hello t tr m) s (v.say m.pair m.hsid 5 (le 2 reason ++ zeros 2)) := by
  subst hu
  refine becomes_of_hsError (?_ : execHello t tr m s = _)
  unfold execHello
  simp only [ha, hb]

theorem hello_unheard (ha : u.hsArrival tr = none) : Becomes (.hello t tr m) s u := by
  subst hu
  refine becomes_of_ok (?_ : execHello t tr m s = _)
  unfold execHello
  simp only [ha]

end Hello

/-! ### FINISH (R380-R382) -/

section Finish

variable {tr : Transport} {pair hsid sigE sigQ mac : Nat} {x : Hs}
  (hx : (u.sec.hs.find? fun x => x.pair == pair && x.hsid == hsid && x.tr == tr) = some x)
  (hv : v = u.modSec fun y => { y with hs := y.hs.filter fun z => z != x })
include hx hv

/-- R380: the end of a handshake that its FINISH finds: late, unsigned or with a wrong MAC it is an ERROR, else the session binds. -/
theorem exec_finish : exec (.finish t pair hsid tr sigE sigQ mac) s
    = if x.at0 + 2 * 10 ^ 9 ≤ u.time.now then ok (v.hsError pair hsid 0xC074)
      else if (!u.finishSigned x sigE sigQ) = true then ok (v.hsError pair hsid 0xC072)
      else if mac ≠ (x.finmac 0).toNat then ok (v.hsError pair hsid 0xC073)
      else if unitLink pair = true then ok ((v.say pair hsid 4 (le 48 (x.finmac 1).toNat)).bindLink pair u.ownCar)
      else ok ((v.say pair hsid 4 (le 48 (x.finmac 1).toNat)).bindSession pair
        (Session.atEpoch 0 { pair := pair, dom := x.hello.dom, tr := tr, prov := x.prov, prk := x.prk })) := by
  subst hu hv
  change execFinish t pair hsid tr sigE sigQ mac s = _
  unfold execFinish
  simp only [hx]

theorem finish_late (hl : x.at0 + 2 * 10 ^ 9 ≤ u.time.now) :
    Becomes (.finish t pair hsid tr sigE sigQ mac) s (v.say pair hsid 5 (le 2 0xC074 ++ zeros 2)) :=
  becomes_of_hsError ((exec_finish hu hx hv).trans (if_pos hl))

variable (hl : u.time.now < x.at0 + 2 * 10 ^ 9)
include hl

theorem finish_unsigned (hs : u.finishSigned x sigE sigQ = false) :
    Becomes (.finish t pair hsid tr sigE sigQ mac) s (v.say pair hsid 5 (le 2 0xC072 ++ zeros 2)) := by
  refine becomes_of_hsError ((exec_finish hu hx hv).trans ?_)
  rw [if_neg (Nat.not_le.mpr hl), if_pos (by rw [hs]; rfl)]

variable (hs : u.finishSigned x sigE sigQ = true)
include hs

/-- R380: in time and signed, the MAC decides. -/
theorem exec_finish_signed : exec (.finish t pair hsid tr sigE sigQ mac) s
    = if mac ≠ (x.finmac 0).toNat then ok (v.hsError pair hsid 0xC073)
      else if unitLink pair = true then ok ((v.say pair hsid 4 (le 48 (x.finmac 1).toNat)).bindLink pair u.ownCar)
      else ok ((v.say pair hsid 4 (le 48 (x.finmac 1).toNat)).bindSession pair
        (Session.atEpoch 0 { pair := pair, dom := x.hello.dom, tr := tr, prov := x.prov, prk := x.prk })) := by
  refine (exec_finish hu hx hv).trans ?_
  rw [if_neg (Nat.not_le.mpr hl), if_neg (by simp [hs])]

theorem finish_wrong_mac (hm : mac ≠ (x.finmac 0).toNat) :
    Becomes (.finish t pair hsid tr sigE sigQ mac) s (v.say pair hsid 5 (le 2 0xC073 ++ zeros 2)) :=
  becomes_of_hsError ((exec_finish_signed hu hx hv hl hs).trans (if_pos hm))

theorem finish_binds_session (hm : mac = (x.finmac 0).toNat) (hp : unitLink pair = false) :
    exec (.finish t pair hsid tr sigE sigQ mac) s = ok ((v.say pair hsid 4 (le 48 (x.finmac 1).toNat)).bindSession pair
      (Session.atEpoch 0 { pair := pair, dom := x.hello.dom, tr := tr, prov := x.prov, prk := x.prk })) := by
  refine (exec_finish_signed hu hx hv hl hs).trans ?_
  rw [if_neg (not_not_intro hm), if_neg (by simp [hp])]

theorem finish_binds_link (hm : mac = (x.finmac 0).toNat) (hp : unitLink pair = true) :
    Becomes (.finish t pair hsid tr sigE sigQ mac) s ((v.say pair hsid 4 (le 48 (x.finmac 1).toNat)).bindLink pair u.ownCar) := by
  refine becomes_of_ok ((exec_finish_signed hu hx hv hl hs).trans ?_)
  rw [if_neg (not_not_intro hm), if_pos hp]

end Finish

/-! ### The timeout and the fragments (R379, R381) -/

theorem handshakeTimeout_becomes {pair : Nat} {x : Hs} (hx : u.sec.hs.filter (overdue u.time.now pair) = [x]) :
    Becomes (.handshakeTimeout t pair) s
      ((u.modSec fun y => { y with hs := y.hs.filter fun z => !overdue u.time.now pair z }).say pair x.hsid 5 (le 2 0xC074 ++ zeros 2)) := by
  have hmem : x ∈ u.sec.hs.filter (overdue u.time.now pair) := hx ▸ List.mem_singleton_self x
  have hpair : x.pair = pair := by
    have hlate := (List.mem_filter.mp hmem).2
    unfold overdue at hlate
    exact beq_iff_eq.mp (Bool.and_eq_true_iff.mp hlate).1
  subst hpair hu
  refine becomes_of_hsError (?_ : execHandshakeTimeout t x.pair s = _)
  unfold execHandshakeTimeout overdue at *
  simp only [hx]
  rfl

section Fragments

variable {pair : Nat} {o : HsOut} (ho : (u.sec.hsOut.find? fun o => o.pair == pair) = some o)
include ho

theorem fragmentRead_goes_on (hl : 1200 * (o.frag + 1) < o.bytes.length) :
    Becomes (.handshakeFragmentRead t pair) s ((u.shiftOut (le 2 (o.frame o.frag).length ++ o.frame o.frag)).modSec fun x => { x with
      hsOut := x.hsOut.map fun y => if y = o then { y with frag := y.frag + 1 } else y }) := by
  subst hu
  refine becomes_of_ok (?_ : execHandshakeFragmentRead t pair s = _)
  unfold execHandshakeFragmentRead
  simp only [ho, decide_eq_true_eq, if_neg (Nat.not_le.mpr hl)]

theorem fragmentRead_ends (hl : o.bytes.length ≤ 1200 * (o.frag + 1)) :
    Becomes (.handshakeFragmentRead t pair) s ((u.shiftOut (le 2 (o.frame o.frag).length ++ o.frame o.frag)).modSec fun x => { x with
      hsOut := x.hsOut.filter fun y => y != o }) := by
  subst hu
  refine becomes_of_ok (?_ : execHandshakeFragmentRead t pair s = _)
  unfold execHandshakeFragmentRead
  simp only [ho, decide_eq_true_eq, if_pos hl]

end Fragments

/-! ### A peer's answer (R382, R386) -/

section Answer

variable {g : PeerMsg} (hg : TakesAnswer u g)
include hg

theorem reply_unlisted_tells (hl : u.listed g = false) :
    BecomesTelling (.handshakeReply t g) s u 0xC3 0 0xC071 (u.secItems g.pair 0xC071) := by
  subst hu
  exact becomesTelling_of_fire ((if_neg hg.not_barred).trans (if_pos (by rw [hl]; rfl)))

variable (hl : u.listed g = true)
include hl

section Done

variable (hd : g.isDone = true) {x : Hs} (hx : (u.sec.hs.find? fun x => x.pair == g.pair && x.hello.dom == g.car) = some x)
include hd hx

/-- R380: the peer's MAC decides over a DONE. -/
theorem exec_peer_done : exec (.handshakeReply t g) s
    = if g.mac = (x.finmac 1).toNat then ok ((u.modSec fun y => { y with hs := y.hs.filter fun z => z != x }).bindLink g.pair g.car)
      else ok (u.secFire 0xC3 g.pair 0xC073) := by
  subst hu
  refine (if_neg hg.not_barred).trans ((if_neg (by simp [hl])).trans ((if_pos hd).trans ?_))
  simp only [hx]

theorem peer_done_binds (hm : g.mac = (x.finmac 1).toNat) :
    Becomes (.handshakeReply t g) s ((u.modSec fun y => { y with hs := y.hs.filter fun z => z != x }).bindLink g.pair g.car) :=
  becomes_of_ok ((exec_peer_done hu hg hl hd hx).trans (if_pos hm))

theorem peer_done_wrong_mac_tells (hm : g.mac ≠ (x.finmac 1).toNat) :
    BecomesTelling (.handshakeReply t g) s u 0xC3 0 0xC073 (u.secItems g.pair 0xC073) :=
  becomesTelling_of_fire ((exec_peer_done hu hg hl hd hx).trans (if_neg hm))

end Done

variable (hd : g.isDone = false)
include hd

theorem peer_reply_unsigned_tells (hs : bothOk (Config.peerPublic g.devid) (peerBytes g) g.sigE g.sigQ = false) :
    BecomesTelling (.handshakeReply t g) s u 0xC3 0 0xC072 (u.secItems g.pair 0xC072) := by
  subst hu
  exact becomesTelling_of_fire ((if_neg hg.not_barred).trans ((if_neg (by simp [hl])).trans ((if_neg (by simp [hd])).trans (if_pos (by rw [hs]; rfl)))))

theorem peer_reply_opens_finish (hs : bothOk (Config.peerPublic g.devid) (peerBytes g) g.sigE g.sigQ = true) :
    Becomes (.handshakeReply t g) s (finishOpened g u) := by
  subst hu
  exact becomes_of_ok ((if_neg hg.not_barred).trans ((if_neg (by simp [hl])).trans ((if_neg (by simp [hd])).trans (if_neg (by simp [hs])))))

end Answer

end Rows

/-- Settles O40: one lemma for each row and branch. That a pair-link answer is taken from stage 3, and that the peer signs its identity and
the link in place of the transcript, are the model's readings (log 63). -/
theorem handshakeRowsOpenSessions : Obligations.HandshakeRowsOpenSessions := by
  intro s u v t pair hsid sigE sigQ mac tr m x g hu
  refine ⟨hello_starts hu, fun _ => hello_barred hu, hello_unheard hu, fun hx hv => ?finish, handshakeTimeout_becomes hu,
    fun _ => fragmentRead_goes_on hu, fun _ => fragmentRead_ends hu, fun hstage hwhole htamper hlink hserves => ?answer⟩
  case finish =>
    exact ⟨finish_late hu hx hv, finish_unsigned hu hx hv, finish_wrong_mac hu hx hv, finish_binds_session hu hx hv, finish_binds_link hu hx hv⟩
  case answer =>
    have hg : TakesAnswer u g := ⟨hstage, hwhole, htamper, hlink, hserves⟩
    refine ⟨reply_unlisted_tells hu hg, fun hl hd hx => peer_done_binds hu hg hl hd hx, fun hl hd hx => peer_done_wrong_mac_tells hu hg hl hd hx,
      peer_reply_unsigned_tells hu hg, fun own y hl hd hs hown hy => ?opens⟩
    subst hown hy
    exact peer_reply_opens_finish hu hg hl hd hs

end Sys2Proof.Handshakes

/-! SUPPORT and PROOF. The cards of spec 17: SYS_RESET (R426), POWER_SET (R420-R425), and the image cards (R416-R418). -/

namespace Sys2Proof.PowerAndImages

open Sys2Proof.Machine Sys2Proof.Safety
open Sys2Proof.Startup (goesOnWith_of_ok)
open Sys2Proof.CommandCards (query_clears noted_runs)

/-! ## SYS_RESET (R426) -/

/-- R426: a reset due 1 ms from now; `handing` where the hold is handed over first. -/
def resetDue (handing : Bool) (s : State) : State := s.modPower fun p => { p with resetDue := some (s.time.now + 1000000, handing) }

theorem done_resetDue (handing : Bool) (tr : TagRec) (data : List Byte) (s : State) :
    (s.done tr data).modPower (fun p => { p with resetDue := some (s.time.now + 1000000, handing) }) = (resetDue handing s).done tr data := by
  unfold State.done State.finish
  split
  · next hf => exact (if_pos hf).symm
  · next hf => exact (if_neg hf).symm

theorem sysResetEff_braked {s : State} (tr : TagRec) (data : List Byte) (hb : s.braked = true) :
    sysResetEff tr data s = (resetDue false s).done tr [] := by
  rw [← done_resetDue]
  unfold sysResetEff
  simp only [hb, if_true, Bool.not_true]

theorem sysResetEff_moving {s : State} (tr : TagRec) (data : List Byte) (hb : s.braked = false) :
    sysResetEff tr data s = ((resetDue true s).done tr []).flush.dropHold := by
  rw [← done_resetDue]
  unfold sysResetEff
  simp only [hb, Bool.false_eq_true, if_false, Bool.not_false]

theorem dropHold_power (s : State) : s.dropHold.power = s.power := by
  unfold State.dropHold State.setPair
  split
  · split <;> rfl
  · rfl

theorem power_of_device {x y : State} (h : device x = device y) : x.power = y.power :=
  (congrArg State.power h :)

/-- R426: handing over the hold leaves the reset due. -/
theorem sysResetEff_moving_power {s : State} (tr : TagRec) (data : List Byte) (hb : s.braked = false) :
    (sysResetEff tr data s).power = (resetDue true s).power := by
  rw [sysResetEff_moving tr data hb, dropHold_power, State.flush_power, power_of_device (device_done ..)]

/-! ## POWER_SET (R420, R422, R423) -/

/-- R422, R423: a device that is awake and enters no sleep has nothing to wake from. -/
theorem wakeUp_awake {s : State} (hw : s.power.mode ≠ .sleep) (hn : ∀ tr, s.power.pend ≠ some (1, tr)) (src : Nat) : s.wakeUp src = s := by
  unfold State.wakeUp
  rw [if_neg hw]
  split
  · next tr hp => exact absurd hp (hn tr)
  · rfl

theorem powerSetEff_to_run {d : CardDef} {s : State} {h : Hdr} {data : List Byte} (tr : TagRec) (hc : Admitted d s h data) (hm : rd data 0 1 = 0) :
    powerSetEff tr data (begun d.k.opc h s) = (begun d.k.opc h s).done tr (powerReply (begun d.k.opc h s)) := by
  obtain ⟨⟨-, se, hA⟩, -⟩ := hc
  have hwake : (begun d.k.opc h s).wakeUp 8 = begun d.k.opc h s := wakeUp_awake (s := begun d.k.opc h s) hA.awake hA.noEntry 8
  unfold powerSetEff
  simp only [if_pos hm, hwake]

/-! ## The images (R416-R418) -/

/-- Event source 0x08, told of a change of an image's state. -/
def imageTold (changed : Bool) (s : State) : State := if changed then s.imageFire else s

theorem imageReply_imageTold (changed : Bool) (s : State) : imageReply (imageTold changed s) = imageReply s := by
  cases changed <;> rfl

theorem device_imageTold (changed : Bool) (s : State) : device (imageTold changed s) = device s := by
  cases changed
  · rfl
  · exact device_fire ..

theorem inHand_imageTold {opc : Nat} {h : Hdr} {s x : State} (hx : InHand opc h s x) (changed : Bool) : InHand opc h s (imageTold changed x) := by
  cases changed
  · exact hx
  · exact hx.fire ..

/-- A change of the state that neither reads nor writes the rings. -/
def BesideRings (f : State → State) : Prop := ∀ (s : State) (rs : List Ring), f { s with rings := rs } = { f s with rings := rs }

theorem BesideRings.at_begun {f : State → State} (hf : BesideRings f) (opc : Nat) (h : Hdr) (s : State) :
    f (begun opc h s) = { f (heard h s) with rings := (begun opc h s).rings } := hf (heard h s) (begun opc h s).rings

theorem BesideRings.rings {f : State → State} (hf : BesideRings f) (s : State) : (f s).rings = s.rings :=
  (congrArg State.rings (hf s s.rings) :)

/-- A card that changes the images, tells source 0x08 of it, and ends DONE with IMGST. -/
theorem image_ends {i : Instr} {d : CardDef} {f : State → State} {s : State} {h : Hdr} {data : List Byte} {changed : Bool}
    (hi : cardOf i = some (d, h, data)) (hs : (d.k.opc == 0xC030) = false) (hc : Admitted d s h data) (hf : BesideRings f)
    (he : d.eff (tagOf d.k.opc h s) data (begun d.k.opc h s)
      = (imageTold changed (f (begun d.k.opc h s))).done (tagOf d.k.opc h s) (imageReply (f (begun d.k.opc h s)))) :
    Ends i s h d.k.opc 2 0 (imageReply (f (heard h s))) (f (heard h s)) := by
  have hreply : imageReply (f (begun d.k.opc h s)) = imageReply (f (heard h s)) :=
    (congrArg imageReply (hf.at_begun d.k.opc h s) :)
  have hheld : InHand d.k.opc h s (f (begun d.k.opc h s)) := (inHand_admitted hc).of_rings (hf.rings _)
  rw [hreply] at he
  exact ends_done hi hc he (inHand_imageTold hheld changed) hs
    ((device_imageTold _ _).trans (device_swap d.k.opc h s (hf.at_begun d.k.opc h s) (hf.rings _)))

/-- R417: the region that does not run, with a fragment written. -/
def fragmentWritten (data : List Byte) (s : State) : State :=
  (s.modImage s.spare fun _ => { state := b2n (iwWhole data), tries := 0, mem := s.iwMem data }).modBoot fun b => { b with
    writing := if iwWhole data then none else some { next := rd data 0 4 + (data.length - 8), total := rd data 4 4, bytes := [] } }

theorem imageWriteEff_eq (tr : TagRec) (data : List Byte) (s : State) :
    imageWriteEff tr data s
      = (imageTold ((s.image s.spare).state != b2n (iwWhole data)) (fragmentWritten data s)).done tr (imageReply (fragmentWritten data s)) := by
  have htold : imageTold ((s.image s.spare).state != b2n (iwWhole data)) (fragmentWritten data s)
      = if (s.image s.spare).state = b2n (iwWhole data) then fragmentWritten data s else (fragmentWritten data s).imageFire := by
    unfold imageTold
    simp only [bne_iff_ne, ne_eq, ite_not]
  rw [← imageReply_imageTold ((s.image s.spare).state != b2n (iwWhole data)), htold]
  rfl

/-- R418: the region that does not run, on trial. -/
def activated (s : State) : State := s.modImage s.spare fun x => { x with state := 2, tries := 0 }

/-- R418: the running image ACTIVE, and the former ACTIVE one VALID. -/
def committed (s : State) : State :=
  ((s.modImage s.boot.image fun x => { x with state := 3, tries := 0 }).modImage (1 - s.boot.image) fun x =>
    if x.state = 3 then { x with state := 1 } else x).modBoot fun b => { b with trialRun := false }

theorem imageCommitEff_plain {s : State} {data : List Byte} (tr : TagRec) (hr : ¬(rd data 0 1 = 1 ∧ s.vault.ctr.getD 2 0 < s.runningSvn)) :
    imageCommitEff tr data s = (imageTold true (committed s)).done tr (imageReply (committed s)) := by
  unfold imageCommitEff
  simp only [if_neg hr]
  rfl

/-- R418: RAISE brings counter 2 to the running image's SVN first. -/
theorem imageCommitEff_raises {s : State} {data : List Byte} (tr : TagRec) (hr : rd data 0 1 = 1 ∧ s.vault.ctr.getD 2 0 < s.runningSvn) :
    imageCommitEff tr data s
      = (imageTold true (committed (s.raiseCtr 2 s.runningSvn))).done tr (imageReply (committed (s.raiseCtr 2 s.runningSvn))) := by
  unfold imageCommitEff
  simp only [if_pos hr]
  rfl

/-- Settles O21. A reset, a sleep and a shutdown are noted beside the rings; the image cards change only the boot registers, and a commit with
RAISE counter 2. That a region is EMPTY while a write fills it is the model's reading (log 69). -/
theorem powerAndImageCards : Obligations.PowerAndImageCards := by
  refine ⟨fun s h data hc hb => ?reset, fun s h data hc hb => ?handover, fun s h data hc hm => ?rest, fun s h data hc hm => ?run,
    fun s h data u hc hu => ?write, fun s h data u hc hu => ?activate, fun s h data u hc hr hu => ?commit, fun s h data u hc hr hu => ?raise⟩
  case reset => exact query_clears rfl rfl hc (sysResetEff_braked (s := begun 0x0110 h s) _ data hb) rfl
  case handover =>
    refine goesOnWith_of_ok ((exec_cardOf rfl s).trans (congrArg ok (runCard_admitted hc))) ?_
    rw [State.flush_power, power_of_device (device_accepted ..)]
    exact congrArg Power.resetDue (sysResetEff_moving_power (s := begun 0x0110 h s) _ data hb)
  case rest => exact noted_runs rfl hc (if_neg hm) rfl rfl
  case run => exact query_clears rfl rfl hc (powerSetEff_to_run _ hc hm) rfl
  case write =>
    subst hu
    exact image_ends rfl rfl hc (f := fragmentWritten data) (fun _ _ => rfl) (imageWriteEff_eq _ data (begun 0x0120 h s))
  case activate =>
    subst hu
    exact image_ends (changed := true) rfl rfl hc (f := activated) (fun _ _ => rfl) rfl
  case commit =>
    subst hu
    exact image_ends rfl rfl hc (f := committed) (fun _ _ => rfl) (imageCommitEff_plain (s := begun 0x0122 h s) _ hr)
  case raise =>
    subst hu
    exact image_ends rfl rfl hc (f := fun x => committed (x.raiseCtr 2 x.runningSvn)) (fun _ _ => rfl)
      (imageCommitEff_raises (s := begun 0x0122 h s) _ hr)

end Sys2Proof.PowerAndImages

/-! SUPPORT and PROOF. The statements about the step itself (95_what_each_step_holds): it runs the front command, and no command stops. -/

namespace Sys2Proof.Steps

open Sys2Proof.Machine Sys2Proof.Safety
open Sys2Proof.Served (exec_flushes)

/-- Settles O1, by the second equation of `step`. -/
theorem stepRunsTheFrontCommand : Obligations.StepRunsTheFrontCommand := by
  intro c cs s
  rfl

/-- Settles O3: every meaning ends by placing records, which gives a next state. -/
theorem noCommandStops : Obligations.NoCommandStops := by
  intro i s
  obtain ⟨x, hx⟩ := exec_flushes i s
  exact ⟨x.flush, hx⟩

end Sys2Proof.Steps
